-- ==== Sys2Proof/Word.lean ====
section
/-! DEFINITION. The plainest types of the part: a byte on the bus or in the configuration memory, and a station number. -/

namespace Sys2Proof

/-- One byte of a CAN frame (R181) or of the configuration memory (R188). -/
abbrev Byte := BitVec 8

/-- A station number, 0..15 (R181, R188). -/
abbrev Station := Fin 16

end Sys2Proof
end

