-- ==== Sys2Proof/Syntax.lean ====
section
/-! DEFINITION. The commands of the LG4620: one constructor of `Instr` for each row of spec/opcode_table.json, with the
operands its step takes from outside (log 8). -/

namespace Sys2Proof

/-- The eight discrete inputs, in the order of their bit weights (R150, section 11.8). -/
inductive Input where
  | clampF | clampM | pressOk | shearHome | shearEnd | contFb | emergency | trainMove
deriving DecidableEq, Repr

/-- The two console kinds sent as runs (R182). -/
inductive RunKind where
  | weldRequest | programme
deriving DecidableEq, Repr

/-- What the decoder or the receivers found wrong with the encoder lines (R147). -/
inductive EncoderFault where
  /-- A and B both changed between two consecutive decoder samples. -/
  | bothChanged
  /-- A line fault on the A, B or reference mark pair. -/
  | lineFault
deriving DecidableEq, Repr

/-- One regulation interval as the head wiring presents it: the ten raw readings of each analogue line (R141) and the
sampled states of the eight discrete lines, weight by weight (R150, section 11.8). -/
structure Readings where
  current : Vector (BitVec 12) 10
  voltage : Vector (BitVec 12) 10
  force : Vector (BitVec 12) 10
  pins : Byte
deriving DecidableEq, Repr

/-- The commands. A received frame carries the sender part of its identifier and its data bytes; the kind part is the
row's own. -/
inductive Instr where
  | reset
  | configurationRead (image : Vector Byte 64)
  | listenPeriodEnd
  | lostPeriodEnd
  | frameOffer (won : Bool)
  | frameAcknowledged
  | frameNotAcknowledged
  | busOff
  | duplicateStationFrame
  | runFirstFrame (sender : Station) (data : List Byte)
  | programmeFirstFrame (sender : Station) (data : List Byte)
  | runLaterFrame (kind : RunKind) (sender : Station) (data : List Byte)
  | runAssemblySilence (sender : Station)
  | programmeSilence
  | rating (sender : Station) (data : List Byte)
  | demand (sender : Station) (data : List Byte)
  | abort (sender : Station) (data : List Byte)
  | weldRequest
  | clear (sender : Station) (data : List Byte)
  | programme
  | captureClear (sender : Station) (data : List Byte)
  | recordQuery (sender : Station) (data : List Byte)
  | traceQuery (sender : Station) (data : List Byte)
  | fetchCompletion
  | regulationInterval (causesFirst : Bool) (readings : Readings)
  | tenMsSample
  | headStatusPeriod
  | demandPeriod
  | encoderEdge (toward : Bool)
  | referenceMark
  | quadratureError (what : EncoderFault)
  | inputLevelChange (input : Input)
  | contactorFeedbackTimeout
  | clampTimeout
  | pullStall
  | pullTimeout
  | settleExpiry
  | admitTimeout
  | peerLapse (station : Station)
  | peerRemoval (station : Station)
  | ratingAgeThreshold
  | yieldLimit
  | minrunExpiry
  | preheatPauseRestart
  | pulseOnEnd
  | pulseOffEnd
  | shortOnset
  | openCircuit
  | abortRetractStill
  | powerWindowComplete
  | boostTimeReached
  | currentOff
  | upsetStall
  | upsetTimeout
  | holdTimeEnd
  | shearTimeout
  | shearReturnTimeout
  | releaseRampEnd
  | clampOpenTimeout
  | resetRelease (grounded : BitVec 4)
deriving DecidableEq, Repr

end Sys2Proof
end

