-- ==== Sys2Proof/Config.lean ====
section
/-! DEFINITION. What the manual fixes for every LG4620 (full scales, times, counts), and the one free value of the
model. What differs from head to head stands in the configuration image (Machine/State.lean). -/

namespace Sys2Proof.Config

/-- Full scale of the secondary current channel, 10 A (R141). -/
def fullScaleI : Nat := 6000
/-- Full scale of the secondary voltage channel, 10 mV (R141). -/
def fullScaleU : Nat := 2500
/-- Full scale of the force channel, 0.1 kN (R141). -/
def fullScaleF : Nat := 50000
/-- A regulation interval, ms (R143). -/
def intervalMs : Nat := 2
/-- The settle interval of a rise, ms (R118). -/
def settleMs : Nat := 120
/-- The period of DEMAND, ms (R107). -/
def demandPeriodMs : Nat := 50
/-- The least time between the starts of two DEMAND frames, ms (R107, R184). -/
def demandGapMs : Nat := 5
/-- The silence that discards a partial run, ms (R37, R182). -/
def runSilenceMs : Nat := 100
/-- The listen period, ms (R185). -/
def listenMs : Nat := 250
/-- The stay in LOST, ms (R186). -/
def lostMs : Nat := 1000
/-- The failed transmissions that lose the link (R186). -/
def failedLimit : Nat := 16
/-- The pull stall time, ms (R50). -/
def pullStallMs : Nat := 500
/-- The upset stall time, ms (R87). -/
def upsetStallMs : Nat := 200
/-- The still time that ends an abort retract, ms (R18). -/
def abortStillMs : Nat := 500
/-- The rating age at which GENERATOR becomes HELD, ms (R109). -/
def ratingHeldMs : Nat := 500
/-- The rating age at which HELD ends, ms (R109). -/
def ratingLostMs : Nat := 5000
/-- The highest load of any message or programme, kW (R36, R99, R108). -/
def loadLimit : Nat := 4000
/-- The saturation of the 16-bit counts (R58, R125, R140). -/
def countMax : Nat := 65535
/-- The saturation of the 48-bit energy accumulator (R82). -/
def energyMax : Nat := 281474976710655
/-- The last weld serial (R3). -/
def serialMax : Nat := 4294967295
/-- The blocks of a trace bank (R169). -/
def bankBlocks : Nat := 576
/-- The samples of a trace block (R173). -/
def blockSamples : Nat := 32
/-- The notices the queue holds (R184). -/
def noticeLimit : Nat := 8
/-- The records the list holds (R164). -/
def recordLimit : Nat := 8

/-- FREE VALUE (log 14). The bits that a message field of `bits` bits carries for a value that needs more than `bits`
bits. The manual gives the layouts of sections 11.8 and 11.9 no rule for such a value, so it is left without a body. -/
opaque oversizeField (bits value : Nat) : BitVec bits

end Sys2Proof.Config
end

