-- ==== Sys2Proof/Machine/State.lean ====
section
/-! DEFINITION. Everything the manual gives the LG4620 to hold, as plain data, and its value after reset. -/

namespace Sys2Proof.Machine

/-- The part never stops: every command has an effect or none, so no fault is ever raised. -/
inductive Fault where
  /-- Raised by no meaning: kept so that the type has an element. Safe. -/
  | none
deriving DecidableEq, Repr

/-- What a command is refused for. -/
inductive Refusal where
  /-- The command has no meaning in this model yet; raised by an arm of exec that has no meaning, of which there is none. Safe. -/
  | notModelled (mnemonic : String)
deriving DecidableEq, Repr

/-! ### Small shared types -/

/-- A timer that counts ms while it runs (R42, R84, R114). -/
structure Timer where
  running : Bool
  ms : Nat
deriving DecidableEq, Repr

/-- One value for each of the eight discrete inputs (R150). -/
structure PerInput (α : Type) where
  clampF : α
  clampM : α
  pressOk : α
  shearHome : α
  shearEnd : α
  contFb : α
  emergency : α
  trainMove : α
deriving DecidableEq, Repr

/-- The engine states, in the order of R1. -/
inductive Engine where
  | starting | configFault | ready | clamping | pulling | admitting | preheat | flash | boost | upset | hold | trim
  | releasing | faultHold
deriving DecidableEq, Repr

/-- Regulator mode (R58). -/
inductive Mode where
  | idle | regulating | retracting | openGap
deriving DecidableEq, Repr

/-- Preheat sub-state (R58). -/
inductive SubState where
  | approach | pulseOn | pulseOff
deriving DecidableEq, Repr

/-- Release step (R42). -/
inductive ReleaseStep where
  | ramping | opening | waiting | complete
deriving DecidableEq, Repr

/-- Shear step (R84). -/
inductive ShearStep where
  | advancing | returning | done
deriving DecidableEq, Repr

/-- Link state (R185). -/
inductive LinkState where
  | listening | joined | lost
deriving DecidableEq, Repr

/-- The outcome of a weld (R21). -/
inductive Verdict where
  | accept | reject | aborted
deriving DecidableEq, Repr

/-- The stop-class causes (R12). -/
inductive StopCause where
  | emergency | position | contactor | clampLost | trainMoving | forceOver
deriving DecidableEq, Repr

/-- The end-class causes (R16). -/
inductive EndCause where
  | consoleAbort | linkLost | admitTimeout | admitLost | preheatLost | yieldLimit | clampTimeout
deriving DecidableEq, Repr

/-- The reason and cause names, in the order of their codes 1..30 (section 11.8). -/
inductive Reason where
  | burnOffLow | burnOffHigh | upsetShort | forceLow | forceHigh | currentTime | flashTime | energyLow | energyHigh
  | freeze | flashBreak
  | pullShort | forcedUpset | lateAbort | trimFail
  | consoleAbort | linkLost | admitTimeout | admitLost | preheatLost | yieldLimit | clampTimeout
  | emergency | position | contactor | clampLost | trainMoving | forceOver
  | releaseTimeout | shearTimeout
deriving DecidableEq, Repr

/-- The kinds of position latch, in the order of R148. -/
inductive LatchKind where
  | pullEnd | contact | flashEnd | boostStart | upsetStart | currentOff | upsetEnd | holdEnd | short | yield | resume
deriving DecidableEq, Repr

/-- One entry of the position latch list (R148). -/
structure Latch where
  kind : LatchKind
  position : Int
  time : Nat
deriving DecidableEq, Repr

/-! ### Configuration image (R188) -/

/-- Offset and scale of one analogue channel (R141). -/
structure Channel where
  offset : Nat
  scale : Nat
deriving DecidableEq, Repr

/-- Edge sense of an input (R151). -/
inductive Sense where
  | rising | falling | both
deriving DecidableEq, Repr

/-- The Configuration Loader (R188): RESET asserted, reading the memory, or finished with its report. -/
inductive Loader where
  | held | reading | good | unreadable | wrongSum
deriving DecidableEq, Repr

/-- The configuration image (R188). -/
structure Image where
  bitRate : Nat
  generator : Nat
  standalone : Bool
  reserve : Nat
  standby : Nat
  fallback : Nat
  tPeer : Nat
  tLinger : Nat
  fMax : Nat
  vMax : Nat
  vRetractMax : Nat
  stroke : Nat
  travelReserve : Nat
  clearanceMin : Nat
  iContact : Nat
  abortDistance : Nat
  rampTime : Nat
  creep : Nat
  fbTime : Nat
  current : Channel
  voltage : Channel
  force : Channel
  resolution : Nat
  refPosition : Int
  refTolerance : Nat
  assertedLow : PerInput Bool
  filterTime : Nat
  senses : PerInput Sense
deriving DecidableEq, Repr

/-- The image before the Loader has read a good one: every field 0 (DESIGN CHOICE, unsafe: log 2). -/
def Image.blank : Image :=
  { bitRate := 0, generator := 0, standalone := false, reserve := 0, standby := 0, fallback := 0, tPeer := 0,
    tLinger := 0, fMax := 0, vMax := 0, vRetractMax := 0, stroke := 0, travelReserve := 0, clearanceMin := 0,
    iContact := 0, abortDistance := 0, rampTime := 0, creep := 0, fbTime := 0, current := ⟨0, 0⟩,
    voltage := ⟨0, 0⟩, force := ⟨0, 0⟩, resolution := 0, refPosition := 0, refTolerance := 0,
    assertedLow := ⟨false, false, false, false, false, false, false, false⟩, filterTime := 0,
    senses := ⟨.both, .both, .both, .both, .both, .both, .both, .both⟩ }

/-! ### Weld programmes (R28 to R35) -/

/-- The record kinds, in the order of their codes 1..9 (section 11.8). -/
inductive RecKind where
  | clamp | pull | preheat | flash | boost | upset | hold | trim | release
deriving DecidableEq, Repr

/-- PULL record (R31). -/
structure PullRec where
  speed : Nat
  forceLimit : Nat
  tolerance : Nat
  timeout : Nat
deriving DecidableEq, Repr

/-- PREHEAT record (R32). -/
structure PreheatRec where
  load : Nat
  step : Nat
  pulses : Nat
  onTime : Nat
  offTime : Nat
  contactForce : Nat
  openDistance : Nat
  approach : Nat
  pauseTolerance : Nat
deriving DecidableEq, Repr

/-- FLASH record (R33). -/
structure FlashRec where
  load : Nat
  reducedLoad : Nat
  step : Nat
  reducedStep : Nat
  va : Nat
  vb : Nat
  lf : Nat
  is : Nat
  isRed : Nat
  k : Nat
  isc : Nat
  tsc : Nat
  dr : Nat
  vr : Nat
  iOpen : Nat
  tOpen : Nat
  approach : Nat
deriving DecidableEq, Repr

/-- BOOST record (R34). -/
structure BoostRec where
  load : Nat
  step : Nat
  speed : Nat
  length : Nat
  time : Nat
deriving DecidableEq, Repr

/-- UPSET record (R34). -/
structure UpsetRec where
  load : Nat
  speed : Nat
  fu : Nat
  tuc : Nat
  du : Nat
  timeout : Nat
deriving DecidableEq, Repr

/-- The fields of a phase record, by kind (R31 to R35). -/
inductive RecBody where
  | clamp (timeout : Nat)
  | pull (r : PullRec)
  | preheat (r : PreheatRec)
  | flash (r : FlashRec)
  | boost (r : BoostRec)
  | upset (r : UpsetRec)
  | hold (force time : Nat)
  | trim (timeout : Nat)
  | release (timeout : Nat)
deriving DecidableEq, Repr

/-- A phase record: its notify flag and the fields of its kind (section 2.4). -/
structure PhaseRec where
  notify : Bool
  body : RecBody
deriving DecidableEq, Repr

/-- The acceptance windows (R29). -/
structure Windows where
  burnMin : Nat
  burnMax : Nat
  distanceMin : Nat
  forceMin : Nat
  forceMax : Nat
  curTimeMin : Nat
  curTimeMax : Nat
  flashMin : Nat
  flashMax : Nat
  energyMin : Nat
  energyMax : Nat
  maxShorts : Nat
  maxOpen : Nat
deriving DecidableEq, Repr

/-- A weld programme: header, windows and phase records (R28 to R30). -/
structure Programme where
  number : Nat
  recordCount : Nat
  tAdmit : Nat
  tYieldMax : Nat
  tMinrun : Nat
  overrun : Nat
  windows : Windows
  records : List PhaseRec
deriving DecidableEq, Repr

/-- T_r, T_n, L and G of a WELD REQUEST (R3). -/
structure RequestData where
  tr : Int
  tn : Int
  l : Nat
  g : Int
deriving DecidableEq, Repr

/-! ### The weld context (R2) -/

/-- A retraction for a short in progress: its target, the v_r kept at the onset, and the burn-off at the onset, past which
no crossing meets an exit criterion while it lasts (R69, R72, R73; log 17). -/
structure Retraction where
  target : Int
  speed : Nat
  burnOff : Int
deriving DecidableEq, Repr

/-- The weld context. It holds the weld values of the phase units and of Yield Control too (R42, R58, R84, R125).
`limitReported` and `restartDue` tell which timed events of Yield Control have been taken (R132, R137; logs 47 and 48).
`onset` and `openMet` tell that the last interval evaluated was a short onset, with the retraction it begins, or met t_open
(R72, R74; log 35). -/
structure WeldCtx where
  serial : Nat
  tag : Nat
  slot : Nat
  prog : Programme
  request : RequestData
  phase : Option Nat
  phaseTimer : Nat
  weldTime : Nat
  startPos : Int
  currentBegun : Bool
  upsetBegun : Bool
  ending : Option EndCause
  abortTag : Option Nat
  outcome : Option Verdict
  reasons : List Reason
  faults : List StopCause
  -- Stress Unit (R42) and the watch for CLAMP LOST (R153)
  pReq : Nat
  pullStart : Option Int
  pullAchieved : Option Nat
  forceHold : Option Nat
  clampDone : Bool
  releasingEntered : Bool
  -- Flash Regulator (R58)
  sub : Option SubState
  subTimer : Nat
  drawTarget : Option Int
  counted : Nat
  extra : Nat
  exitMet : Bool
  moveDue : Bool
  contactPending : Bool
  contactPos : Option Int
  burnOff : Int
  shortRun : Nat
  onset : Option Retraction
  retract : Option Retraction
  abortTarget : Option Int
  abortStill : Nat
  shortCount : Nat
  openRun : Nat
  openMet : Bool
  openTime : Nat
  energyOn : Bool
  energyStopped : Bool
  eRaw : Nat
  winSum : Nat
  winCount : Nat
  pMeas : Nat
  guard : Option Nat
  guardCount : Nat
  firstFlash : Option Nat
  boostEntry : Option Int
  boostTime : Option Nat
  -- Upset Unit (R84)
  upStart : Option Int
  curTime : Option Nat
  distance : Option Nat
  peak : Option Nat
  -- Yield Control (R125)
  yieldCount : Nat
  yieldTime : Nat
  limitReported : Bool
  sinceResume : Option Nat
  minrunBar : Bool
  pause : Option Nat
  pauseTaken : Bool
  restartDue : Bool
  restarts : Nat
  -- Measurement Unit (R140)
  latches : List Latch
  omitted : Nat
deriving DecidableEq, Repr

/-! ### Units -/

/-- The Stress Unit's state outside the weld context (R42). -/
structure Stress where
  clampTimer : Timer
  pullStall : Nat
  release : Option ReleaseStep
  rampStart : Option Nat
  releaseTimer : Timer
deriving DecidableEq, Repr

/-- The Upset Unit's state outside the weld context (R84). -/
structure Upset where
  currentTimer : Timer
  stall : Nat
  shear : Option ShearStep
  shearTimer : Nat
deriving DecidableEq, Repr

/-- The output commands (R155): contactor CLOSED, step, velocity (µm/s), force limit (0.1 kN), clamp and shear lines. -/
structure Outputs where
  contactor : Bool
  step : Nat
  velocity : Int
  force : Nat
  fixedClose : Bool
  fixedOpen : Bool
  movingClose : Bool
  movingOpen : Bool
  shearAdvance : Bool
  shearRetract : Bool
deriving DecidableEq, Repr

/-- One input's filter (R150): the last sample and the length of its run, and the level once established. -/
structure InputFilter where
  sample : Bool
  run : Nat
  established : Bool
  level : Bool
deriving DecidableEq, Repr

/-- The Measurement Unit (R140, R143, R144). `homedInSample` is set by a homing in the 10 ms sample that ends next, and
`homedNext` by one after the end of a sample that stands to be taken. -/
structure Meas where
  im : Nat
  um : Nat
  fm : Nat
  intervalPos : Int
  satI : Bool
  satU : Bool
  satF : Bool
  velocity : Int
  position : Int
  homed : Bool
  positionError : Bool
  inputs : PerInput InputFilter
  capture : PerInput Bool
  fbTimer : Nat
  fbReported : Bool
  condEmergency : Bool
  condTrain : Bool
  condClamp : Bool
  condForce : Bool
  sumI : Nat
  sumU : Nat
  sumF : Nat
  sampleIntervals : Nat
  sampleNo : Nat
  prevSample : Option Int
  homedInSample : Bool
  homedNext : Bool
deriving DecidableEq, Repr

/-! ### Load Share Unit (R97, R102, R108, R109, R114) -/

/-- Station kind of a DEMAND (R97). -/
inductive StationKind where
  | head | auxiliary
deriving DecidableEq, Repr

/-- Phase class of a DEMAND (R97). -/
inductive PhaseClass where
  | standby | preheat | flash | boost
deriving DecidableEq, Repr

/-- One entry of the peer table (R97): `rise` is the rank class while the intent is RISE, absent for NONE. -/
structure Peer where
  station : Nat
  kind : StationKind
  phaseClass : PhaseClass
  present : Nat
  claim : Nat
  rise : Option Nat
  reduction : Nat
  yielded : Bool
  live : Bool
  silence : Nat
deriving DecidableEq, Repr

/-- The own declaration (R102); its kind is always HEAD. -/
structure Declaration where
  phaseClass : PhaseClass
  present : Nat
  claim : Nat
  rise : Option Nat
  reduction : Nat
  yielded : Bool
deriving DecidableEq, Repr

/-- Generator state (R108). -/
inductive GenState where
  | running | derated | stopping
deriving DecidableEq, Repr

/-- Rating source (R109). -/
inductive RatingSource where
  | generator | held | fallback | none
deriving DecidableEq, Repr

/-- Pending-rise state (R114). -/
inductive RiseState where
  | none | settling | waiting | withdrawn
deriving DecidableEq, Repr

/-- Source of a rise (R114). -/
inductive RiseSource where
  | sequencer | resume
deriving DecidableEq, Repr

/-- Source, claim and rank class of a pending rise (R114). -/
structure Ask where
  source : RiseSource
  claim : Nat
  cls : Nat
deriving DecidableEq, Repr

/-- The pending rise (R114). -/
structure Rise where
  state : RiseState
  ask : Option Ask
  settle : Timer
  admitWait : Timer
deriving DecidableEq, Repr

/-- The Load Share Unit. -/
structure Share where
  peers : List Peer
  decl : Declaration
  hold : Option Nat
  rise : Rise
  admitted : Option (Nat × Nat)
  rating : Option Nat
  genState : Option GenState
  ratingAge : Option Nat
  source : RatingSource
  everJoined : Bool
  demandTimer : Nat
deriving DecidableEq, Repr

/-! ### Trace Store (R169, R172, R173) -/

/-- A captured sample (R172). -/
structure Sample where
  position : Int
  current : Nat
  voltage : Nat
  force : Nat
deriving DecidableEq, Repr

/-- A trace block: header and samples (R173); the sample count is the length. -/
structure Block where
  index : Nat
  fine : Bool
  phase : Option Nat
  time : Nat
  markers : Nat
  samples : List Sample
deriving DecidableEq, Repr

/-- One trace bank (R169): the closed block count is the length of `blocks`. -/
structure Bank where
  owner : Option Nat
  blocks : List Block
  filling : Option Block
  capturing : Bool
  truncated : Bool
deriving DecidableEq, Repr

/-- Readout state (R178). -/
inductive Readout where
  | idle | fetching | sending | paused
deriving DecidableEq, Repr

/-- The stream of the readout in progress (R169); `bank1` tells the bank. -/
structure Stream where
  serial : Nat
  bank1 : Bool
  index : Nat
  follow : Bool
  offset : Nat
deriving DecidableEq, Repr

/-- A TRACE QUERY (R177). -/
structure TraceQuery where
  serial : Nat
  index : Nat
  offset : Nat
  follow : Bool
deriving DecidableEq, Repr

/-- The Trace Store (R169). -/
structure TraceStore where
  bank0 : Bank
  bank1 : Bank
  newest : Option Nat
  markers : Nat
  readout : Readout
  stream : Option Stream
  copy : Option Block
  waiting : Option TraceQuery
  gonePending : Bool
deriving DecidableEq, Repr

/-! ### Record Store (R157, R161) -/

/-- Trace reference of a record (R161). -/
structure TraceRef where
  bank1 : Bool
  blocks : Nat
  truncated : Bool
deriving DecidableEq, Repr

/-- A weld record (R161). -/
structure WeldRecord where
  serial : Nat
  tag : Nat
  slot : Nat
  number : Nat
  outcome : Verdict
  duration : Nat
  reasons : List Reason
  faults : List StopCause
  abortTag : Option Nat
  request : RequestData
  pReq : Nat
  pullAchieved : Nat
  forceHold : Option Nat
  burnOff : Int
  flashTime : Option Nat
  boostTime : Option Nat
  distance : Option Nat
  peak : Option Nat
  curTime : Option Nat
  energy : Nat
  shortCount : Nat
  openTime : Nat
  pulses : Nat
  extra : Nat
  restarts : Nat
  yieldCount : Nat
  yieldTime : Nat
  guardCount : Nat
  latches : List Latch
  omitted : Nat
  trace : Option TraceRef
deriving DecidableEq, Repr

/-- The Record Store (R157): SENDING while `sending` holds the readout copy. -/
structure RecordStore where
  list : List WeldRecord
  sending : Option WeldRecord
  waiting : Option Nat
deriving DecidableEq, Repr

/-! ### Bus Link (R182, R184, R185) -/

/-- A notice in the queue (section 11.8). -/
inductive Notice where
  | accepted (serial tag : Nat)
  | refused (tag code : Nat)
  | phase (serial index : Nat) (kind : RecKind) (time : Nat)
  | outcome (serial tag : Nat) (verdict : Verdict)
  | fault (serial : Nat) (cause : Reason) (time : Nat) (tag : Option Nat)
  | programmeStored (slot number count : Nat)
  | programmeRefused (slot reason : Nat) (index : Option Nat)
  | noRecord (serial : Nat)
  | traceGone (serial index : Nat)
  | notYet (serial index : Nat)
deriving DecidableEq, Repr

/-- A run in assembly (R182): declared length, frames held, payload so far and the sender's silence, ms; `elsewhere` while
the sender's last PROGRAMME first frame named another station (R37). -/
structure Assembly where
  sender : Nat
  length : Nat
  got : Nat
  payload : List Byte
  silence : Nat
  elsewhere : Bool
deriving DecidableEq, Repr

/-- The codes of a refused WELD REQUEST, in the order of R3. -/
inductive RequestFault where
  | busy | faultHold | isolated | notHomed | noProgramme | badRequest | interlock | pullMissing | gapShort | travel
deriving DecidableEq, Repr

/-- A complete WELD REQUEST run as the Sequencer takes it. `refusal` is the check of R3 that a run completed while the link
is not JOINED fails, whatever the link state when it is taken (R183). -/
structure WeldRun where
  payload : List Byte
  refusal : Option RequestFault
deriving DecidableEq, Repr

/-- A complete PROGRAMME run as validation takes it: its frame count and its payload (R38). -/
structure ProgRun where
  frames : Nat
  payload : List Byte
deriving DecidableEq, Repr

/-- A run in a transmit slot: the data bytes of its frames and how many have been acknowledged (R184). -/
structure TxRun where
  frames : List (List Byte)
  next : Nat
deriving DecidableEq, Repr

/-- The kinds the head sends, in the order of their kind codes (R181). -/
inductive TxKind where
  | demand | headStatus | notice | recordData | traceBlock
deriving DecidableEq, Repr

/-- An own frame on the bus. `stale` is set when its slot has been filled anew since it started (R184; log 23). -/
structure TxFrame where
  kind : TxKind
  ident : Nat
  data : List Byte
  stale : Bool
deriving DecidableEq, Repr

/-- The Bus Link. `bitRate` is the bit rate in force, kbit/s (R181, R188). -/
structure Link where
  bitRate : Nat
  state : LinkState
  listen : Timer
  lostTimer : Nat
  failed : Nat
  weldRuns : List Assembly
  weldReady : List WeldRun
  progRun : Option Assembly
  progReady : List ProgRun
  demandSlot : Option Declaration
  statusSlot : Option TxRun
  notices : List Notice
  noticeNext : Nat
  recordSlot : Option TxRun
  traceSlot : Option TxRun
  onBus : Option TxFrame
  demandGap : Nat
deriving DecidableEq, Repr

/-! ### The state -/

/-- Everything the LG4620 holds, and the queue of waiting commands. -/
structure State where
  pending : List Instr
  loader : Loader
  station : Station
  image : Image
  engine : Engine
  ctx : Option WeldCtx
  nextSerial : Nat
  lastSerial : Nat
  awaiting : Bool
  yielded : Bool
  statusPeriod : Nat
  statusTimer : Nat
  slots : Vector (Option Programme) 4
  stress : Stress
  mode : Mode
  upset : Upset
  out : Outputs
  wire : Outputs
  meas : Meas
  share : Share
  records : RecordStore
  trace : TraceStore
  link : Link
deriving DecidableEq, Repr

/-! ### Values after reset -/

/-- A timer stopped at 0. -/
def Timer.stopped : Timer := ⟨false, 0⟩

/-- The same value for each input. -/
def PerInput.all {α : Type} (a : α) : PerInput α := ⟨a, a, a, a, a, a, a, a⟩

/-- R42, last column. -/
def Stress.reset : Stress :=
  { clampTimer := .stopped, pullStall := 0, release := none, rampStart := none, releaseTimer := .stopped }

/-- R84, last column. -/
def Upset.reset : Upset := { currentTimer := .stopped, stall := 0, shear := none, shearTimer := 0 }

/-- R155: the outputs after reset. -/
def Outputs.reset : Outputs :=
  { contactor := false, step := 1, velocity := 0, force := 0, fixedClose := false, fixedOpen := false,
    movingClose := false, movingOpen := false, shearAdvance := false, shearRetract := false }

/-- An input whose level has not been established (R150). -/
def InputFilter.reset : InputFilter := { sample := false, run := 0, established := false, level := false }

/-- R140, last column. -/
def Meas.reset : Meas :=
  { im := 0, um := 0, fm := 0, intervalPos := 0, satI := false, satU := false, satF := false, velocity := 0,
    position := 0, homed := false, positionError := false, inputs := .all .reset, capture := .all false,
    fbTimer := 0, fbReported := false, condEmergency := false, condTrain := false, condClamp := false,
    condForce := false, sumI := 0, sumU := 0, sumF := 0, sampleIntervals := 0, sampleNo := 0, prevSample := none,
    homedInSample := false, homedNext := false }

/-- No rise pending, and both timers stopped at 0 (R114). -/
def Rise.idle : Rise := { state := .none, ask := none, settle := .stopped, admitWait := .stopped }

/-- R102: STANDBY at the standby load of the image, nothing claimed. -/
def Declaration.standby (load : Nat) : Declaration :=
  { phaseClass := .standby, present := load, claim := load, rise := none, reduction := 0, yielded := false }

/-- R101, R102, R108, R109, R114 after reset. -/
def Share.reset : Share :=
  { peers := [], decl := .standby Image.blank.standby, hold := none, rise := .idle, admitted := none, rating := none,
    genState := none, ratingAge := none, source := .none, everJoined := false, demandTimer := 0 }

/-- A bank that holds no weld (R169). -/
def Bank.empty : Bank := { owner := none, blocks := [], filling := none, capturing := false, truncated := false }

/-- R169, last column. -/
def TraceStore.reset : TraceStore :=
  { bank0 := .empty, bank1 := .empty, newest := none, markers := 0, readout := .idle, stream := none, copy := none,
    waiting := none, gonePending := false }

/-- R157, last column. -/
def RecordStore.reset : RecordStore := { list := [], sending := none, waiting := none }

/-- R182, R184, R185 after reset; the 5 ms spacing has no earlier DEMAND to keep from (log 22), and the bit rate of the
image is not yet known (log 38). -/
def Link.reset : Link :=
  { bitRate := 250, state := .listening, listen := .stopped, lostTimer := 0, failed := 0, weldRuns := [], weldReady := [],
    progRun := none, progReady := [], demandSlot := none, statusSlot := none, notices := [], noticeNext := 0, recordSlot := none,
    traceSlot := none, onBus := none, demandGap := Config.demandGapMs }

/-- The machine right after reset (R26, R27, R42, R58, R84, R101, R102, R108, R109, R114, R125, R140, R155, R157, R169,
R182, R184, R185): RESET still asserted, no command waiting. The station number and the image are DESIGN CHOICE values
(logs 1 and 2). -/
def State.reset : State :=
  { pending := [], loader := .held, station := 0, image := .blank, engine := .starting, ctx := none, nextSerial := 1,
    lastSerial := 0, awaiting := false, yielded := false, statusPeriod := 1000, statusTimer := 0,
    slots := Vector.replicate 4 none, stress := .reset, mode := .idle, upset := .reset, out := .reset,
    wire := .reset, meas := .reset, share := .reset, records := .reset, trace := .reset, link := .reset }

end Sys2Proof.Machine
end

