-- ==== Sys2Proof/Machine/Ops.lean ====
section
/-! DEFINITION. Named operations that every block uses: timers, bytes, inputs, the weld context, notices, reasons and
position latches. -/

namespace Sys2Proof.Machine

/-! ### Timers -/

/-- A timer started at 0. -/
def Timer.started : Timer := ⟨true, 0⟩

/-- A timer that stops at its present value. -/
def Timer.stop (t : Timer) : Timer := ⟨false, t.ms⟩

/-- One regulation interval of 2 ms passes (R143). -/
def Timer.tick (t : Timer) : Timer := if t.running then ⟨true, t.ms + Config.intervalMs⟩ else t

/-! ### Inputs -/

/-- The value of one input. -/
def PerInput.get {α : Type} (v : PerInput α) : Input → α
  | .clampF => v.clampF
  | .clampM => v.clampM
  | .pressOk => v.pressOk
  | .shearHome => v.shearHome
  | .shearEnd => v.shearEnd
  | .contFb => v.contFb
  | .emergency => v.emergency
  | .trainMove => v.trainMove

/-- The values with one input's replaced. -/
def PerInput.set {α : Type} (v : PerInput α) (i : Input) (a : α) : PerInput α :=
  match i with
  | .clampF => { v with clampF := a }
  | .clampM => { v with clampM := a }
  | .pressOk => { v with pressOk := a }
  | .shearHome => { v with shearHome := a }
  | .shearEnd => { v with shearEnd := a }
  | .contFb => { v with contFb := a }
  | .emergency => { v with emergency := a }
  | .trainMove => { v with trainMove := a }

/-- A value of each input, from a function of the input. -/
def PerInput.build {α : Type} (f : Input → α) : PerInput α :=
  ⟨f .clampF, f .clampM, f .pressOk, f .shearHome, f .shearEnd, f .contFb, f .emergency, f .trainMove⟩

/-- All inputs, in the order of their weights (section 11.8). -/
def allInputs : List Input :=
  [.clampF, .clampM, .pressOk, .shearHome, .shearEnd, .contFb, .emergency, .trainMove]

/-- The bit of an input in the levels, flags, masks and polarities (section 11.8): weight 2 to this power. -/
def inputBit : Input → Nat
  | .clampF => 0
  | .clampM => 1
  | .pressOk => 2
  | .shearHome => 3
  | .shearEnd => 4
  | .contFb => 5
  | .emergency => 6
  | .trainMove => 7

/-- Eight flags as one byte (section 11.8). -/
def inputByte (v : PerInput Bool) : Byte :=
  BitVec.ofNat 8 ((allInputs.map fun i => if v.get i then 2 ^ inputBit i else 0).sum)

/-- Eight flags from one byte (section 11.8). -/
def inputsOfByte (b : Byte) : PerInput Bool := .build fun i => b.getLsbD (inputBit i)

/-- The level of an input: asserted once established so; deasserted until established (R150). -/
def InputFilter.asserted (f : InputFilter) : Bool := f.established && f.level

/-- The level of an input as every block reads it (R150). -/
def State.level (s : State) (i : Input) : Bool := (s.meas.inputs.get i).asserted

/-- CLAMP_F and CLAMP_M both asserted (R44). -/
def State.bothClosed (s : State) : Bool := s.level .clampF && s.level .clampM

/-- CLAMP_F and CLAMP_M both deasserted (R55). -/
def State.bothOpen (s : State) : Bool := !s.level .clampF && !s.level .clampM

/-! ### Bytes (R181: least significant byte first) -/

/-- The lowest `n` bytes of a value. -/
def leBytes : Nat → Nat → List Byte
  | 0, _ => []
  | n + 1, v => BitVec.ofNat 8 v :: leBytes n (v / 256)

/-- The value a message field of `bits` bits carries: the value itself where it fits; the free value of log 14 where it
does not. -/
def fieldValue (bits v : Nat) : Nat := if v < 2 ^ bits then v else (Config.oversizeField bits v).toNat

/-- An unsigned field of `n` bytes (R181; log 14). -/
def fieldBytes (n v : Nat) : List Byte := leBytes n (fieldValue (8 * n) v)

/-- A signed field of `n` bytes, in two's complement (R181). -/
def signedBytes (n : Nat) (z : Int) : List Byte := leBytes n (z % (256 ^ n : Nat)).toNat

/-- The unsigned value of bytes. -/
def natOfBytes : List Byte → Nat
  | [] => 0
  | b :: bs => b.toNat + 256 * natOfBytes bs

/-- The signed value of `n` bytes in two's complement (R181). -/
def intOfBytes (n : Nat) (bs : List Byte) : Int :=
  let v := natOfBytes bs
  if 2 * v < 256 ^ n then (v : Int) else (v : Int) - (256 ^ n : Nat)

/-- `n` bytes from offset `off`. -/
def bytesAt (bs : List Byte) (off n : Nat) : List Byte := (bs.drop off).take n

/-- The unsigned field of `n` bytes at offset `off`. -/
def natAt (bs : List Byte) (off n : Nat) : Nat := natOfBytes (bytesAt bs off n)

/-- The signed field of `n` bytes at offset `off`. -/
def intAt (bs : List Byte) (off n : Nat) : Int := intOfBytes n (bytesAt bs off n)

/-! ### Saturating counts -/

/-- Adds 1 to a count that saturates at 65,535 (R58, R125, R140). -/
def countUp (n : Nat) : Nat := min (n + 1) Config.countMax

/-! ### The weld context -/

/-- Changes the weld context where there is one. -/
def State.onCtx (s : State) (f : WeldCtx → WeldCtx) : State := { s with ctx := s.ctx.map f }

/-- An abort retract is in progress (R18, R58). -/
def WeldCtx.aborting (c : WeldCtx) : Bool := c.abortTarget.isSome

/-- An abort retract is in progress. -/
def State.aborting (s : State) : Bool := (s.ctx.map WeldCtx.aborting).getD false

/-- The weld states: from CLAMPING through FAULT HOLD (R1). -/
def Engine.isWeld : Engine → Bool
  | .starting | .configFault | .ready => false
  | .clamping | .pulling | .admitting | .preheat | .flash | .boost | .upset | .hold | .trim | .releasing
  | .faultHold => true

/-- Adds a reason to the reasons list; a reason is not added twice (R2). -/
def WeldCtx.addReason (c : WeldCtx) (r : Reason) : WeldCtx :=
  if r ∈ c.reasons then c else { c with reasons := c.reasons ++ [r] }

/-- The name of a stop-class cause (R12). -/
def StopCause.reason : StopCause → Reason
  | .emergency => .emergency
  | .position => .position
  | .contactor => .contactor
  | .clampLost => .clampLost
  | .trainMoving => .trainMoving
  | .forceOver => .forceOver

/-- The name of an end-class cause (R16). -/
def EndCause.reason : EndCause → Reason
  | .consoleAbort => .consoleAbort
  | .linkLost => .linkLost
  | .admitTimeout => .admitTimeout
  | .admitLost => .admitLost
  | .preheatLost => .preheatLost
  | .yieldLimit => .yieldLimit
  | .clampTimeout => .clampTimeout

/-! ### Notices (R184) -/

/-- Queues a notice; a notice queued while the queue holds 8 is dropped (R184). -/
def State.notice (s : State) (n : Notice) : State :=
  if s.link.notices.length < Config.noticeLimit then
    { s with link := { s.link with notices := s.link.notices ++ [n] } }
  else s

/-- NOTICE FAULT with the serial, the cause and the weld time of the weld in flight, and the tag of an ABORT (R13, R16). -/
def State.noticeFault (s : State) (cause : Reason) (tag : Option Nat) : State :=
  match s.ctx with
  | none => s
  | some c => s.notice (.fault c.serial cause c.weldTime tag)

/-! ### Position latches (R148, R149) -/

/-- SHORT, YIELD and RESUME are the repeated kinds (R149). -/
def LatchKind.repeated : LatchKind → Bool
  | .short | .yield | .resume => true
  | .pullEnd | .contact | .flashEnd | .boostStart | .upsetStart | .currentOff | .upsetEnd | .holdEnd => false

/-- Whether a latch of this kind is listed: every milestone; a repeated kind while fewer than 16 of them are (R149). -/
def WeldCtx.lists (c : WeldCtx) (k : LatchKind) : Bool :=
  !k.repeated || decide ((c.latches.filter fun l => l.kind.repeated).length < 16)

/-- Capture is in progress on one of the banks (R169). -/
def TraceStore.capturing (t : TraceStore) : Bool := t.bank0.capturing || t.bank1.capturing

/-- A latch request with its position; the time is the weld time (R148). A listed entry is handed to the Trace Store as
a marker of the block that receives the next sample (R173); an unlisted one is counted (R149). -/
def State.latch (s : State) (k : LatchKind) (position : Int) : State :=
  match s.ctx with
  | none => s
  | some c =>
    if c.lists k then
      { s with
        ctx := some { c with latches := c.latches ++ [⟨k, position, c.weldTime⟩] }
        trace := if s.trace.capturing then { s.trace with markers := s.trace.markers + 1 } else s.trace }
    else { s with ctx := some { c with omitted := countUp c.omitted } }

/-! ### The force-limit command at the head wiring (R53) -/

/-- The engine states in which a force hold acts (R53). -/
def Engine.holdsForce : Engine → Bool
  | .admitting | .preheat | .flash | .boost | .upset | .hold | .trim => true
  | .starting | .configFault | .ready | .clamping | .pulling | .releasing | .faultHold => false

/-- The force-limit command at the head wiring: the larger of the force hold and the phase unit's own command while the
force hold acts, the command itself otherwise (R53). -/
def State.wireForce (s : State) : Nat :=
  if s.engine.holdsForce then max ((s.ctx.bind fun c => c.forceHold).getD 0) s.out.force else s.out.force

/-! ### Outputs -/

/-- Sets the velocity command. -/
def State.setVelocity (s : State) (v : Int) : State := { s with out := { s.out with velocity := v } }

/-- Sets the phase unit's force-limit command, 0.1 kN. -/
def State.setForce (s : State) (f : Nat) : State := { s with out := { s.out with force := f } }

/-- Sets the step output (R61). -/
def State.setStep (s : State) (n : Nat) : State := { s with out := { s.out with step := n } }

/-- Sets the four clamp valve lines: both close lines, both open lines (R43). -/
def State.setClamps (s : State) (close opn : Bool) : State :=
  { s with out := { s.out with fixedClose := close, movingClose := close, fixedOpen := opn, movingOpen := opn } }

/-- Sets the two shear valve lines (R92). -/
def State.setShear (s : State) (advance retract : Bool) : State :=
  { s with out := { s.out with shearAdvance := advance, shearRetract := retract } }

end Sys2Proof.Machine
end

