-- ==== Sys2Proof/Machine/ProgrammeCopy.lean ====
section
/-! DEFINITION. Reading a programme copy: the record in force, the records of each kind, cumulative targets and loads
(R30, R33, R69, R7). -/

namespace Sys2Proof.Machine

/-- The kind of a record. -/
def RecBody.kind : RecBody → RecKind
  | .clamp _ => .clamp
  | .pull _ => .pull
  | .preheat _ => .preheat
  | .flash _ => .flash
  | .boost _ => .boost
  | .upset _ => .upset
  | .hold _ _ => .hold
  | .trim _ => .trim
  | .release _ => .release

/-- The fields of a PREHEAT record. -/
def RecBody.asPreheat : RecBody → Option PreheatRec
  | .preheat r => some r
  | _ => none

/-- The fields of a FLASH record. -/
def RecBody.asFlash : RecBody → Option FlashRec
  | .flash r => some r
  | _ => none

/-- The fields of a BOOST record. -/
def RecBody.asBoost : RecBody → Option BoostRec
  | .boost r => some r
  | _ => none

/-- The fields of an UPSET record. -/
def RecBody.asUpset : RecBody → Option UpsetRec
  | .upset r => some r
  | _ => none

/-- The fields of a PULL record. -/
def RecBody.asPull : RecBody → Option PullRec
  | .pull r => some r
  | _ => none

/-- The body of the record at an index. -/
def Programme.body (p : Programme) (i : Nat) : Option RecBody := (p.records[i]?).map PhaseRec.body

/-- The kind of the record at an index. -/
def Programme.kindAt (p : Programme) (i : Nat) : Option RecKind := (p.body i).map RecBody.kind

/-- The index of the first record of a kind. -/
def Programme.find (p : Programme) (k : RecKind) : Option Nat :=
  p.records.findIdx? fun r => decide (r.body.kind = k)

/-- The programme has a record of the kind. -/
def Programme.has (p : Programme) (k : RecKind) : Bool := (p.find k).isSome

/-- L_f of a record: 0 for a record that is no FLASH record (R33). -/
def PhaseRec.lf (r : PhaseRec) : Nat := ((r.body.asFlash).map FlashRec.lf).getD 0

/-- The sum of L_f over the first `n` records. -/
def Programme.lfSum (p : Programme) (n : Nat) : Nat := ((p.records.take n).map PhaseRec.lf).sum

/-- The cumulative target of the FLASH record at index `i`: the sum of the L_f up to and including it (R69). -/
def Programme.target (p : Programme) (i : Nat) : Nat := p.lfSum (i + 1)

/-- The programme's BOOST record (R34). -/
def Programme.boost? (p : Programme) : Option BoostRec := p.records.findSome? fun r => r.body.asBoost

/-- The programme's UPSET record (R34). -/
def Programme.upset? (p : Programme) : Option UpsetRec := p.records.findSome? fun r => r.body.asUpset

/-- The class-0 claim: max(BOOST load, UPSET load), or the UPSET load alone where there is no BOOST (R7, R34). -/
def Programme.classZero (p : Programme) : Nat :=
  max ((p.boost?.map BoostRec.load).getD 0) ((p.upset?.map UpsetRec.load).getD 0)

/-- The record in force. -/
def WeldCtx.body (c : WeldCtx) : Option RecBody := c.phase.bind c.prog.body

/-- The PREHEAT record in force. -/
def WeldCtx.preheat? (c : WeldCtx) : Option PreheatRec := c.body.bind RecBody.asPreheat

/-- The FLASH record in force. -/
def WeldCtx.flash? (c : WeldCtx) : Option FlashRec := c.body.bind RecBody.asFlash

/-- The BOOST record in force. -/
def WeldCtx.boost? (c : WeldCtx) : Option BoostRec := c.body.bind RecBody.asBoost

/-- The UPSET record in force. -/
def WeldCtx.upset? (c : WeldCtx) : Option UpsetRec := c.body.bind RecBody.asUpset

/-- The PULL record in force. -/
def WeldCtx.pull? (c : WeldCtx) : Option PullRec := c.body.bind RecBody.asPull

/-- The index after the record in force. -/
def WeldCtx.nextIndex (c : WeldCtx) : Nat := c.phase.elim 0 (· + 1)

/-- The index of the first current phase: the PREHEAT record, or the first FLASH record (R6). -/
def Programme.firstCurrent (p : Programme) : Option Nat :=
  p.records.findIdx? fun r => decide (r.body.kind = .preheat ∨ r.body.kind = .flash)

/-- The load of a record, kW: its load field, or the standby load of a record that has none (R30). -/
def RecBody.load (standby : Nat) : RecBody → Nat
  | .preheat r => r.load
  | .flash r => r.load
  | .boost r => r.load
  | .upset r => r.load
  | .clamp _ | .pull _ | .hold _ _ | .trim _ | .release _ => standby

/-- The first FLASH record of the copy stands at index `i` (R33, R67). -/
def Programme.firstFlashAt (p : Programme) (i : Nat) : Bool := decide (p.find .flash = some i)

end Sys2Proof.Machine
end

