-- ==== Sys2Proof/Machine/Share.lean ====
section
/-! DEFINITION. The Load Share Unit's arithmetic and its own declaration (R97 to R122), and the contactor commands that
start and end the stuck-contactor hold (R104). -/

namespace Sys2Proof.Machine

/-! ### Own load (R103, R104) -/

/-- The present load R103 gives for the situation. -/
def State.tableLoad (s : State) : Nat :=
  match s.ctx with
  | none => s.image.standby
  | some c =>
    match s.engine with
    | .preheat => if c.aborting || s.yielded then s.image.standby else (c.preheat?.map PreheatRec.load).getD s.image.standby
    | .flash =>
      if c.aborting then s.image.standby
      else (c.flash?.map fun r => if s.yielded then r.reducedLoad else r.load).getD s.image.standby
    | .boost => c.prog.classZero
    | .upset => if c.curTime.isSome then s.image.standby else c.prog.classZero
    | .starting | .configFault | .ready | .clamping | .pulling | .admitting | .hold | .trim | .releasing
    | .faultHold => s.image.standby

/-- The present declared load: the held load while the stuck-contactor hold stands (R104), R103's otherwise. -/
def State.presentLoad (s : State) : Nat := s.share.hold.getD s.tableLoad

/-- The reduced load of the record in force (R30): a FLASH record's own, the standby load for PREHEAT. -/
def State.reducedLoad (s : State) : Nat :=
  ((s.ctx.bind WeldCtx.flash?).map FlashRec.reducedLoad).getD s.image.standby

/-- T_yield_max in ms (R132). -/
def WeldCtx.yieldLimitMs (c : WeldCtx) : Nat := c.prog.tYieldMax * 1000

/-- The head is yieldable (R106). -/
def State.yieldable (s : State) : Bool :=
  match s.ctx with
  | none => false
  | some c =>
    (decide (s.engine = .preheat) || decide (s.engine = .flash)) && !c.aborting && !s.yielded
      && decide (c.prog.tYieldMax ≠ 0) && decide (c.yieldTime < c.yieldLimitMs) && !c.minrunBar

/-- The yieldable reduction: R103's present load less the reduced load of the record, 0 where that is negative or the
head is not yieldable (R106). -/
def State.reduction (s : State) : Nat := if s.yieldable then s.tableLoad - s.reducedLoad else 0

/-- The phase class of the own declaration (R102). -/
def State.phaseClass (s : State) : PhaseClass :=
  match s.engine with
  | .preheat => if s.aborting then .standby else .preheat
  | .flash => if s.aborting then .standby else .flash
  | .boost => .boost
  | .upset => if (s.ctx.bind fun c => c.curTime).isSome then .standby else .boost
  | .starting | .configFault | .ready | .clamping | .pulling | .admitting | .hold | .trim | .releasing
  | .faultHold => .standby

/-- The rise the declaration announces: an admitted rise until the present load changes, and otherwise the pending rise
in SETTLING and WAITING; claim and rank class (R105, R120). A rise WITHDRAWN is not announced, and the claim load declared
beside it is the present load (log 37). -/
def Share.announced (h : Share) : Option (Nat × Nat) :=
  match h.admitted with
  | some a => some a
  | none =>
    match h.rise.state with
    | .settling | .waiting => h.rise.ask.map fun a => (a.claim, a.cls)
    | .none | .withdrawn => none

/-- The own declaration as the state gives it (R102 to R106). -/
def State.ownDecl (s : State) : Declaration :=
  { phaseClass := s.phaseClass
    present := s.presentLoad
    claim := (s.share.announced.map Prod.fst).getD s.presentLoad
    rise := s.share.announced.map Prod.snd
    reduction := s.reduction
    yielded := s.yielded }

/-- An own frame on the bus no longer belongs to the message of its slot, which has been placed anew (R184; log 23). -/
def Link.markStale (l : Link) (k : TxKind) : Link :=
  { l with onBus := l.onBus.map fun f => if f.kind = k then { f with stale := true } else f }

/-- The head may place a DEMAND: JOINED and not in CONFIG FAULT (R101, R107). -/
def State.mayDeclare (s : State) : Bool := decide (s.link.state = .joined) && decide (s.engine ≠ .configFault)

/-- Forms the own declaration and places it in the DEMAND slot, in place of an unsent one; the 50 ms period restarts
(R107). While the head may not place DEMAND only the declaration is formed. -/
def State.placeDemand (s : State) : State :=
  let s' := { s with share := { s.share with decl := s.ownDecl } }
  if s.mayDeclare then
    { s' with
      share := { s'.share with demandTimer := 0 }
      link := { s.link.markStale .demand with demandSlot := some s.ownDecl } }
  else s'

/-- A change of any field of the own declaration is placed at once (R107). -/
def State.declare (s : State) : State := if s.ownDecl = s.share.decl then s else s.placeDemand

/-! ### Contactor commands (R60, R104) -/

/-- An open command to the main contactor. Given while CONT_FB is asserted it starts the stuck-contactor hold at the
present load declared just before it (R104). -/
def State.openContactor (s : State) : State :=
  { s with
    out := { s.out with contactor := false }
    share := { s.share with hold := if s.level .contFb then some s.presentLoad else s.share.hold } }

/-- A close command to the main contactor, which ends a stuck-contactor hold (R104). -/
def State.closeContactor (s : State) : State :=
  { s with out := { s.out with contactor := true }, share := { s.share with hold := none } }

/-! ### Rating and budget (R108 to R110) -/

/-- The rating source the rating age and the configuration give (R109). -/
def State.sourceNow (s : State) : RatingSource :=
  match s.share.ratingAge with
  | some age =>
    if age < Config.ratingHeldMs then .generator
    else if age < Config.ratingLostMs then .held
    else if s.image.standalone && s.share.everJoined then .fallback else .none
  | none => if s.image.standalone && s.share.everJoined then .fallback else .none

/-- The rating in use (R109). -/
def State.ratingInUse (s : State) : Nat :=
  match s.share.source with
  | .generator | .held => s.share.rating.getD 0
  | .fallback => s.image.fallback
  | .none => 0

/-- The budget, kW (R110). -/
def State.budget (s : State) : Nat :=
  match s.share.source with
  | .none => 0
  | .generator | .held =>
    if s.share.genState = some .stopping then 0 else s.ratingInUse * (100 - s.image.reserve) / 100
  | .fallback => s.ratingInUse * (100 - s.image.reserve) / 100

/-! ### Counted load, rank, admission (R111 to R113) -/

/-- The counted load of an entry (R111). -/
def Peer.counted (p : Peer) : Nat := if p.rise.isSome then max p.present p.claim else p.present

/-- A rise of class `c` at station `st` ranks above one of class `c'` at station `st'` (R112). -/
def outranks (c st c' st' : Nat) : Bool := decide (c < c') || (decide (c = c') && decide (st < st'))

/-- The entry is a pending RISE that ranks above a rise of class `cls` at station `st`: LIVE with intent RISE (R112). -/
def Peer.above (p : Peer) (cls st : Nat) : Bool := p.live && (p.rise.elim false fun c => outranks c p.station cls st)

/-- The entry is a pending RISE that ranks below a rise of class `cls` at station `st` (R112). -/
def Peer.below (p : Peer) (cls st : Nat) : Bool := p.live && (p.rise.elim false fun c => outranks cls st c p.station)

/-- The load an entry adds to the sum for a rise of class `cls` at station `st`: its present load where it is a LIVE
lower-ranked pending RISE, its counted load otherwise (R113). -/
def Peer.countedFor (p : Peer) (cls st : Nat) : Nat := if p.below cls st then p.present else p.counted

/-- The table holds a pending RISE that ranks above an own rise of this class (R112). -/
def State.outranked (s : State) (cls : Nat) : Bool := s.share.peers.any fun p => p.above cls s.station.val

/-- The admission test of an own rise (R113). -/
def State.admissionMet (s : State) (claim cls : Nat) : Bool :=
  decide (claim ≤ s.presentLoad)
    || decide (claim + (s.share.peers.map fun p => p.countedFor cls s.station.val).sum ≤ s.budget)

/-! ### Raising and cancelling (R114, R115, R122) -/

/-- No rise is pending any more: state NONE, nothing held, and both timers stopped at the values they have (R120 to R122,
section 6.8). -/
def Rise.ended (r : Rise) : Rise := { state := .none, ask := none, settle := r.settle.stop, admitWait := r.admitWait.stop }

/-- Raises a rise: SETTLING with the settle timer at 0, or at once WITHDRAWN behind a higher-ranked pending RISE; the
admission-wait timer starts for a rise point of the Sequencer; a DEMAND is placed (R115). A pending RESUME rise gives
way to the Sequencer's (R114). -/
def State.raise (s : State) (source : RiseSource) (claim cls : Nat) : State :=
  State.placeDemand
    { s with share := { s.share with rise :=
        { state := if s.outranked cls then .withdrawn else .settling
          ask := some ⟨source, claim, cls⟩
          settle := if s.outranked cls then .stopped else .started
          admitWait := match source with
            | .sequencer => .started
            | .resume => s.share.rise.admitWait } } }

/-- Cancels a pending rise and an admitted one that still waits for its move: state NONE, both timers stopped (R122,
R105). The declaration's change is placed by `declare`. -/
def State.cancelRise (s : State) : State :=
  { s with share := { s.share with rise := s.share.rise.ended, admitted := none } }

/-- Clears the yielded flag without a resume: the yield time stops, the pause timer is discarded (R138), and a guard
setpoint is discarded (R77). -/
def State.clearYield (s : State) : State :=
  { s.onCtx fun c => { c with pause := none, guard := if s.yielded then none else c.guard } with yielded := false }

end Sys2Proof.Machine
end

