-- ==== Sys2Proof/Machine/Formats.lean ====
section
/-! DEFINITION. The codes and layouts of what the head sends: DEMAND, HEAD STATUS, NOTICE, RECORD DATA and TRACE BLOCK
(R181, R182, sections 11.8 and 11.9). -/

namespace Sys2Proof.Machine

/-! ### Codes (section 11.8) -/

/-- Engine state codes 0..13 in the order of R1. -/
def Engine.code : Engine → Nat
  | .starting => 0
  | .configFault => 1
  | .ready => 2
  | .clamping => 3
  | .pulling => 4
  | .admitting => 5
  | .preheat => 6
  | .flash => 7
  | .boost => 8
  | .upset => 9
  | .hold => 10
  | .trim => 11
  | .releasing => 12
  | .faultHold => 13

/-- Regulator mode codes. -/
def Mode.code : Mode → Nat
  | .idle => 0
  | .regulating => 1
  | .retracting => 2
  | .openGap => 3

/-- Preheat sub-state codes; 0 is absent (HEAD STATUS byte 14). -/
def SubState.code : SubState → Nat
  | .approach => 1
  | .pulseOn => 2
  | .pulseOff => 3

/-- Link state codes. -/
def LinkState.code : LinkState → Nat
  | .listening => 0
  | .joined => 1
  | .lost => 2

/-- Record kind codes 1..9. -/
def RecKind.code : RecKind → Nat
  | .clamp => 1
  | .pull => 2
  | .preheat => 3
  | .flash => 4
  | .boost => 5
  | .upset => 6
  | .hold => 7
  | .trim => 8
  | .release => 9

/-- Latch kind codes 1..11 in the order of R148. -/
def LatchKind.code : LatchKind → Nat
  | .pullEnd => 1
  | .contact => 2
  | .flashEnd => 3
  | .boostStart => 4
  | .upsetStart => 5
  | .currentOff => 6
  | .upsetEnd => 7
  | .holdEnd => 8
  | .short => 9
  | .yield => 10
  | .resume => 11

/-- Outcome codes. -/
def Verdict.code : Verdict → Nat
  | .accept => 0
  | .reject => 1
  | .aborted => 2

/-- Reason and cause codes 1..30. -/
def Reason.code : Reason → Nat
  | .burnOffLow => 1
  | .burnOffHigh => 2
  | .upsetShort => 3
  | .forceLow => 4
  | .forceHigh => 5
  | .currentTime => 6
  | .flashTime => 7
  | .energyLow => 8
  | .energyHigh => 9
  | .freeze => 10
  | .flashBreak => 11
  | .pullShort => 12
  | .forcedUpset => 13
  | .lateAbort => 14
  | .trimFail => 15
  | .consoleAbort => 16
  | .linkLost => 17
  | .admitTimeout => 18
  | .admitLost => 19
  | .preheatLost => 20
  | .yieldLimit => 21
  | .clampTimeout => 22
  | .emergency => 23
  | .position => 24
  | .contactor => 25
  | .clampLost => 26
  | .trainMoving => 27
  | .forceOver => 28
  | .releaseTimeout => 29
  | .shearTimeout => 30

/-- Phase class codes. -/
def PhaseClass.code : PhaseClass → Nat
  | .standby => 0
  | .preheat => 1
  | .flash => 2
  | .boost => 3

/-- Kind codes of the messages the head sends (00_scope.md, Message kinds). -/
def TxKind.code : TxKind → Nat
  | .demand => 2
  | .headStatus => 6
  | .notice => 7
  | .recordData => 11
  | .traceBlock => 13

/-- An identifier: the kind code × 16 plus the sender's station number (R181). -/
def State.identOf (s : State) (k : TxKind) : Nat := k.code * 16 + s.station.val

/-- 1 for true, 0 for false. -/
def bitOf (b : Bool) : Nat := if b then 1 else 0

/-! ### Runs of the head kinds (R182) -/

/-- Cuts bytes into groups of seven; the last may be shorter. `fuel` bounds the number of groups. -/
def sevens : Nat → List Byte → List (List Byte)
  | 0, _ => []
  | fuel + 1, bs => if bs.isEmpty then [] else bs.take 7 :: sevens fuel (bs.drop 7)

/-- Byte 0 of the frames of a run: 192 plus the run length on the first, the fragment index on the later ones. -/
def runHeads (n : Nat) : List Byte := BitVec.ofNat 8 (192 + n) :: (List.range (n - 1)).map fun i => BitVec.ofNat 8 (i + 1)

/-- The frames of a run of a head kind: byte 0, then seven payload bytes each (R182). -/
def headFrames (payload : List Byte) : List (List Byte) :=
  let parts := sevens payload.length payload
  List.zipWith List.cons (runHeads parts.length) parts

/-! ### Single-frame and run payloads -/

/-- DEMAND (section 11.8); the head's kind code is 0, HEAD. -/
def Declaration.bytes (d : Declaration) : List Byte :=
  BitVec.ofNat 8 (16 * d.phaseClass.code) :: BitVec.ofNat 8 (d.rise.elim 0 (· + 1))
    :: (fieldBytes 2 d.present ++ fieldBytes 2 d.claim ++ fieldBytes 2 (d.reduction + 32768 * bitOf d.yielded))

/-- HEAD STATUS as the state stands at placement (section 11.8, R25, R58, R150, R151). -/
def State.statusPayload (s : State) : List Byte :=
  let phase := ((s.ctx.bind fun c => c.phase)).getD 15
  let burn := ((s.ctx.map fun c => c.burnOff.toNat)).getD 0
  let pMeas := ((s.ctx.map fun c => c.pMeas)).getD 0
  let sub := (((s.ctx.bind fun c => c.sub)).map SubState.code).getD 0
  [BitVec.ofNat 8 (s.engine.code + 16 * phase),
   BitVec.ofNat 8 (s.mode.code + 4 * bitOf s.yielded + 8 * bitOf s.awaiting + 16 * bitOf s.meas.homed
     + 32 * bitOf s.meas.satI + 64 * bitOf s.meas.satU + 128 * bitOf s.meas.satF),
   inputByte (.build s.level), inputByte s.meas.capture]
    ++ fieldBytes 2 (min (burn / 10) 65535) ++ fieldBytes 2 s.meas.fm
    ++ fieldBytes 2 (s.meas.im + 8192 * s.link.state.code)
    ++ [BitVec.ofNat 8 (min (pMeas / 10) 255)] ++ fieldBytes 3 (s.lastSerial % 16777216)
    ++ [BitVec.ofNat 8 (s.out.step + 16 * sub)]

/-- A NOTICE payload, by type (section 11.8). Bytes up to 13 that its type does not use are sent as 0 (log 42). -/
def Notice.bytes (n : Notice) : List Byte :=
  let used := match n with
    | .accepted serial tag => 1 :: (fieldBytes 4 serial ++ fieldBytes 2 tag)
    | .refused tag code => 2 :: (fieldBytes 4 0 ++ fieldBytes 2 tag ++ [BitVec.ofNat 8 code])
    | .phase serial index kind time =>
      3 :: (fieldBytes 4 serial ++ [BitVec.ofNat 8 index, BitVec.ofNat 8 kind.code] ++ fieldBytes 4 time)
    | .outcome serial tag verdict => 4 :: (fieldBytes 4 serial ++ fieldBytes 2 tag ++ [BitVec.ofNat 8 verdict.code])
    | .fault serial cause time tag =>
      5 :: (fieldBytes 4 serial ++ [BitVec.ofNat 8 cause.code] ++ fieldBytes 4 time ++ fieldBytes 2 (tag.getD 0))
    | .programmeStored slot number count =>
      6 :: (fieldBytes 4 0 ++ [BitVec.ofNat 8 slot] ++ fieldBytes 2 number ++ [BitVec.ofNat 8 count])
    | .programmeRefused slot reason index =>
      7 :: (fieldBytes 4 0 ++ [BitVec.ofNat 8 slot, BitVec.ofNat 8 reason, BitVec.ofNat 8 (index.getD 255)])
    | .noRecord serial => 8 :: fieldBytes 4 serial
    | .traceGone serial index => 9 :: (fieldBytes 4 serial ++ fieldBytes 2 index)
    | .notYet serial index => 10 :: (fieldBytes 4 serial ++ fieldBytes 2 index)
  used ++ List.replicate (14 - used.length) 0

/-- One latch entry of RECORD DATA: kind, 4-byte position, 3-byte weld time held at 16,777,215 (section 11.9). -/
def Latch.bytes (l : Latch) : List Byte :=
  BitVec.ofNat 8 l.kind.code :: (signedBytes 4 l.position ++ fieldBytes 3 (min l.time 16777215))

/-- The presence flags of RECORD DATA, byte 16 (section 11.9). -/
def WeldRecord.presence (r : WeldRecord) : Nat :=
  bitOf r.abortTag.isSome + 2 * bitOf r.forceHold.isSome + 4 * bitOf r.flashTime.isSome + 8 * bitOf r.boostTime.isSome
    + 16 * bitOf r.distance.isSome + 32 * bitOf r.trace.isSome

/-- RECORD DATA (section 11.9): an absent field is sent as 0 with its presence flag clear. -/
def WeldRecord.bytes (r : WeldRecord) : List Byte :=
  fieldBytes 4 r.serial ++ fieldBytes 2 r.tag ++ fieldBytes 1 r.slot ++ fieldBytes 2 r.number
    ++ fieldBytes 1 r.outcome.code ++ fieldBytes 4 r.duration ++ fieldBytes 2 (r.abortTag.getD 0)
    ++ fieldBytes 1 r.presence ++ signedBytes 2 r.request.tr ++ signedBytes 2 r.request.tn
    ++ fieldBytes 2 r.request.l ++ signedBytes 4 r.request.g ++ fieldBytes 4 r.pReq ++ fieldBytes 4 r.pullAchieved
    ++ fieldBytes 2 (r.forceHold.getD 0) ++ fieldBytes 4 r.burnOff.toNat ++ fieldBytes 2 (r.flashTime.getD 0)
    ++ fieldBytes 2 (r.boostTime.getD 0) ++ fieldBytes 4 (r.distance.getD 0) ++ fieldBytes 2 (r.peak.getD 0)
    ++ fieldBytes 2 (r.curTime.getD 0) ++ fieldBytes 4 r.energy ++ fieldBytes 2 r.shortCount
    ++ fieldBytes 4 r.openTime ++ fieldBytes 1 r.pulses ++ fieldBytes 2 r.extra ++ fieldBytes 1 r.restarts
    ++ fieldBytes 2 r.yieldCount ++ fieldBytes 4 r.yieldTime ++ fieldBytes 2 r.guardCount ++ fieldBytes 2 r.omitted
    ++ fieldBytes 1 ((r.trace.map fun t => bitOf t.bank1).getD 0) ++ fieldBytes 2 ((r.trace.map TraceRef.blocks).getD 0)
    ++ fieldBytes 1 ((r.trace.map fun t => bitOf t.truncated).getD 0)
    ++ fieldBytes 1 r.reasons.length ++ fieldBytes 1 r.faults.length ++ fieldBytes 1 r.latches.length
    ++ r.reasons.map (fun x => BitVec.ofNat 8 x.code) ++ r.faults.map (fun x => BitVec.ofNat 8 x.reason.code)
    ++ (r.latches.map Latch.bytes).flatten

/-- The header frame of a TRACE BLOCK run of `n` samples sent from the offset used (section 11.9). -/
def Block.headerFrame (b : Block) (serial offset n : Nat) : List Byte :=
  BitVec.ofNat 8 (192 + (1 + n)) :: BitVec.ofNat 8 serial
    :: (fieldBytes 2 (b.index + 1024 * (b.samples.length - 1) + 32768 * bitOf (!b.fine))
      ++ fieldBytes 4 (fieldValue 18 b.time + 262144 * b.phase.getD 15 + 4194304 * offset + 134217728 * b.markers))

/-- One sample frame of a TRACE BLOCK run, with its fragment index (section 11.9). -/
def Sample.frame (x : Sample) (index : Nat) : List Byte :=
  BitVec.ofNat 8 (index + 64 * (x.voltage / 1024))
    :: (signedBytes 2 x.position ++ fieldBytes 2 x.force ++ fieldBytes 2 (x.current + 8192 * (x.voltage / 256 % 4))
      ++ [BitVec.ofNat 8 (x.voltage % 256)])

/-- The start offset a run uses: one at or above the sample count is the sample count less 1 (R178). -/
def Block.offsetUsed (b : Block) (offset : Nat) : Nat :=
  if offset < b.samples.length then offset else b.samples.length - 1

/-- The frames of a TRACE BLOCK run from the pending offset (R178, section 11.9). -/
def Block.frames (b : Block) (serial offset : Nat) : List (List Byte) :=
  let used := b.offsetUsed offset
  let sent := b.samples.drop used
  b.headerFrame serial used sent.length :: List.zipWith Sample.frame sent ((List.range sent.length).map (· + 1))

end Sys2Proof.Machine
end

