-- ==== Sys2Proof/Machine/Trace.lean ====
section
/-! DEFINITION. The Trace Store: banks, capture, the arbiter's operations, queries and readout (R169 to R180). -/

namespace Sys2Proof.Machine

/-! ### Banks -/

/-- A weld's trace is written to the bank numbered serial mod 2 (R170). -/
def bankOf (serial : Nat) : Bool := decide (serial % 2 = 1)

/-- One bank. -/
def TraceStore.bank (t : TraceStore) (b1 : Bool) : Bank := if b1 then t.bank1 else t.bank0

/-- The store with one bank replaced. -/
def TraceStore.setBank (t : TraceStore) (b1 : Bool) (b : Bank) : TraceStore :=
  if b1 then { t with bank1 := b } else { t with bank0 := b }

/-- A PAUSED stream of this bank fetches its block once that is closed, and ends when capture is over without it (R178). -/
def TraceStore.wake (t : TraceStore) (b1 : Bool) : TraceStore :=
  match t.readout, t.stream with
  | .paused, some st =>
    if st.bank1 = b1 then
      if st.index < (t.bank b1).blocks.length then { t with readout := .fetching }
      else if (t.bank b1).capturing then t
      else { t with readout := .idle, stream := none }
    else t
  | _, _ => t

/-- Closes the open block of a bank: it enters the directory under its index (R173). Block 575 closed for any reason but
the end of capture truncates the trace (R174). -/
def TraceStore.closeBlock (t : TraceStore) (b1 atEnd : Bool) : TraceStore :=
  match (t.bank b1).filling with
  | none => t
  | some blk =>
    let blocks := (t.bank b1).blocks ++ [blk]
    let full := decide (Config.bankBlocks ≤ blocks.length) && !atEnd
    let bk : Bank :=
      { t.bank b1 with
        blocks := blocks
        filling := none
        capturing := (t.bank b1).capturing && !full
        truncated := (t.bank b1).truncated || full }
    ({ t.setBank b1 bk with markers := if full then 0 else t.markers }).wake b1

/-! ### Capture (R171 to R174) -/

/-- Writes a sample into the open block, opening one where there is none; the markers handed over since the last sample
are counted in it. The block closes at its 32nd sample (R173). -/
def TraceStore.writeSample (t : TraceStore) (b1 fine : Bool) (phase : Option Nat) (time : Nat) (x : Sample) : TraceStore :=
  let bk := t.bank b1
  let blk : Block :=
    match bk.filling with
    | none => { index := bk.blocks.length, fine := fine, phase := phase, time := time, markers := t.markers, samples := [x] }
    | some b => { b with markers := b.markers + t.markers, samples := b.samples ++ [x] }
  let t' := { t.setBank b1 { bk with filling := some blk } with markers := 0 }
  if Config.blockSamples ≤ blk.samples.length then t'.closeBlock b1 false else t'

/-- Captures a sample of the given period: a sample of the other period closes the open block first (R173). -/
def TraceStore.capture (t : TraceStore) (b1 fine : Bool) (phase : Option Nat) (time : Nat) (x : Sample) : TraceStore :=
  let other := ((t.bank b1).filling.map fun b => decide (b.fine ≠ fine)).getD false
  let t' := if other then t.closeBlock b1 false else t
  if (t'.bank b1).capturing then t'.writeSample b1 fine phase time x else t'

/-- FINE in PREHEAT, FLASH, BOOST and UPSET; COARSE in the other phases (R171). -/
def Engine.fine : Engine → Bool
  | .preheat | .flash | .boost | .upset => true
  | .starting | .configFault | .ready | .clamping | .pulling | .admitting | .hold | .trim | .releasing
  | .faultHold => false

/-- Holds a value within the signed 16-bit range (R172). -/
def clamp16 (z : Int) : Int := max (-32768) (min 32767 z)

/-- Hands a 10 ms sample to the Trace Store: position and the three means, marked where it is a 100 ms sample (R143,
R171, R172). -/
def State.handSample (s : State) (position : Int) (i u f : Nat) (at100 : Bool) : State :=
  match s.ctx with
  | none => s
  | some c =>
    let b1 := bankOf c.serial
    let x : Sample := ⟨clamp16 ((position - c.startPos).tdiv 10), i, u, f⟩
    if (s.trace.bank b1).capturing && (s.engine.fine || at100) then
      { s with trace := s.trace.capture b1 s.engine.fine c.phase (c.weldTime / 10) x }
    else s

/-- Ends capture of a weld: the open block is closed where it holds a sample (R175). -/
def TraceStore.endCapture (t : TraceStore) (b1 : Bool) : TraceStore :=
  if (t.bank b1).capturing then
    let t' := t.closeBlock b1 true
    ({ t'.setBank b1 { t'.bank b1 with capturing := false } with markers := 0 }).wake b1
  else t

/-- The trace reference of a weld (R175). -/
def TraceStore.reference (t : TraceStore) (b1 : Bool) : TraceRef :=
  ⟨b1, (t.bank b1).blocks.length, (t.bank b1).truncated⟩

/-! ### Readout -/

/-- The readout stage back in IDLE, with no stream and no copy. -/
def TraceStore.stopStream (t : TraceStore) : TraceStore := { t with readout := .idle, stream := none, copy := none }

/-- Clears bank n mod 2 for weld n (R170), acting on a readout of that bank as R179 gives. -/
def State.clearBank (s : State) (n : Nat) : State :=
  let b1 := bankOf n
  let t : TraceStore :=
    { s.trace.setBank b1 { owner := some n, blocks := [], filling := none, capturing := true, truncated := false } with
      newest := some n, markers := 0 }
  match t.stream with
  | none => { s with trace := t }
  | some st =>
    if st.bank1 = b1 then
      match t.readout with
      | .sending => { s with trace := { t with gonePending := true } }
      | .fetching | .paused => State.notice { s with trace := t.stopStream } (.traceGone st.serial st.index)
      | .idle => { s with trace := t }
    else { s with trace := t }

/-- Looks a TRACE QUERY up (R177): the readout starts, or a notice answers and the stage is IDLE. A block index above 575 is
looked up as it stands (log 41). -/
def State.traceLookup (s : State) (q : TraceQuery) : State :=
  let t := s.trace.stopStream
  match (if q.serial = 0 then s.trace.newest else some q.serial) with
  | none => State.notice { s with trace := t } (.traceGone 0 q.index)
  | some n =>
    let bk := t.bank (bankOf n)
    if bk.owner ≠ some n then State.notice { s with trace := t } (.traceGone n q.index)
    else if q.index < bk.blocks.length then
      { s with trace := { t with
          readout := .fetching
          stream := some ⟨n, bankOf n, q.index, q.follow, q.offset⟩ } }
    else if bk.capturing then State.notice { s with trace := t } (.notYet n q.index)
    else State.notice { s with trace := t } (.traceGone n q.index)

/-- The fetch of the stream's block completes: the run is placed from the pending offset, SENDING is entered, and the
pending offset becomes 0 (R178). -/
def State.fetchDone (s : State) : State :=
  match s.trace.readout, s.trace.stream with
  | .fetching, some st =>
    match (s.trace.bank st.bank1).blocks[st.index]? with
    | none => s
    | some blk =>
      { s with
        trace := { s.trace with readout := .sending, copy := some blk, stream := some { st with offset := 0 } }
        link := { s.link with traceSlot := some ⟨blk.frames st.serial st.offset, 0⟩ } }
  | _, _ => s

/-- The next block of a stream: fetched where it is closed, awaited while capture goes on, otherwise the stream ends
(R178). -/
def TraceStore.nextBlock (t : TraceStore) (st : Stream) : TraceStore :=
  let st' := { st with index := st.index + 1 }
  let bk := t.bank st.bank1
  if st'.index < bk.blocks.length then { t with readout := .fetching, stream := some st', copy := none }
  else if st'.index = bk.blocks.length ∧ bk.capturing then { t with readout := .paused, stream := some st', copy := none }
  else t.stopStream

/-- A waiting TRACE QUERY is cleared and looked up; with none the stage is IDLE (R179). -/
def State.takeTraceWaiting (s : State) : State :=
  match s.trace.waiting with
  | none => { s with trace := s.trace.stopStream }
  | some q => State.traceLookup { s with trace := { s.trace with waiting := none } } q

/-- The last frame of a TRACE BLOCK run has been sent (R178, R179). -/
def State.traceRunSent (s : State) : State :=
  match s.trace.stream with
  | none => s
  | some st =>
    if s.trace.gonePending then
      State.takeTraceWaiting
        (State.notice { s with trace := { s.trace with gonePending := false } } (.traceGone st.serial st.index))
    else if s.trace.waiting.isSome then s.takeTraceWaiting
    else if st.follow then { s with trace := s.trace.nextBlock st }
    else { s with trace := s.trace.stopStream }

/-- The Bus Link has abandoned the readout: stream, copy, waiting query and gone pending are discarded (R180). -/
def TraceStore.abandon (t : TraceStore) : TraceStore := { t.stopStream with waiting := none, gonePending := false }

end Sys2Proof.Machine
end

