-- ==== Sys2Proof/Machine/Verdicts.lean ====
section
/-! DEFINITION. The Record Store: judging, making, changing and sending weld records (R157 to R168), and fixing the
outcome of a weld (R21). -/

namespace Sys2Proof.Machine

/-! ### Judging (R158, R159) -/

/-- Energy in kJ (R82, R158). -/
def WeldCtx.energy (c : WeldCtx) : Nat := c.eRaw / 5000000

/-- The weld time of the UPSET START latch (R158). -/
def WeldCtx.upsetStartTime (c : WeldCtx) : Option Nat :=
  (c.latches.find? fun l => decide (l.kind = .upsetStart)).map Latch.time

/-- The flash time in 0.1 s: UPSET START less the first FLASH entry, over 100; absent without an UPSET START (R158,
R161). -/
def WeldCtx.flashTime (c : WeldCtx) : Option Nat := c.upsetStartTime.map fun t => (t - c.firstFlash.getD 0) / 100

/-- The windows missed, in the order of R159's table. -/
def WeldCtx.missed (c : WeldCtx) : List Reason :=
  let w := c.prog.windows
  let peak := c.peak.getD 0
  let time := c.curTime.getD 0
  let flash := c.flashTime.getD 0
  let tests : List (Bool × Reason) :=
    [(decide (c.burnOff < (w.burnMin : Int)), .burnOffLow),
     (decide ((w.burnMax : Int) < c.burnOff), .burnOffHigh),
     (decide (c.distance.getD 0 < w.distanceMin), .upsetShort),
     (decide (peak < w.forceMin * 10), .forceLow),
     (decide (w.forceMax * 10 < peak), .forceHigh),
     (decide (time < w.curTimeMin) || decide (w.curTimeMax < time), .currentTime),
     (decide (flash < w.flashMin) || decide (w.flashMax < flash), .flashTime),
     (decide (c.energy < w.energyMin), .energyLow),
     (decide (w.energyMax < c.energy), .energyHigh),
     (decide (w.maxShorts < c.shortCount), .freeze),
     (decide (w.maxOpen < c.openTime), .flashBreak)]
  (tests.filter Prod.fst).map Prod.snd

/-- Adds a reason for each window missed (R159). -/
def WeldCtx.judge (c : WeldCtx) : WeldCtx := c.missed.foldl WeldCtx.addReason c

/-! ### Records (R160 to R164) -/

/-- The record of a weld whose outcome is fixed (R161). The pull achieved of a weld that ended in CLAMPING is 0, also where
its copy has a PULL record: DESIGN CHOICE, unsafe (log 49). -/
def WeldCtx.record (c : WeldCtx) (v : Verdict) (ref : TraceRef) : WeldRecord :=
  { serial := c.serial, tag := c.tag, slot := c.slot, number := c.prog.number, outcome := v, duration := c.weldTime,
    reasons := c.reasons, faults := c.faults, abortTag := c.abortTag, request := c.request, pReq := c.pReq,
    pullAchieved := c.pullAchieved.getD 0, forceHold := c.forceHold, burnOff := c.burnOff, flashTime := c.flashTime,
    boostTime := c.boostTime, distance := c.distance, peak := c.peak, curTime := c.curTime, energy := c.energy,
    shortCount := c.shortCount, openTime := c.openTime, pulses := c.counted, extra := c.extra, restarts := c.restarts,
    yieldCount := c.yieldCount, yieldTime := c.yieldTime, guardCount := c.guardCount, latches := c.latches,
    omitted := c.omitted, trace := some ref }

/-- Inserts a record at the newest end; a full list first drops the oldest (R164). -/
def RecordStore.insert (r : RecordStore) (x : WeldRecord) : RecordStore :=
  { r with list := (if Config.recordLimit ≤ r.list.length then r.list.drop 1 else r.list) ++ [x] }

/-- Appends a stop-class cause to a fault list that holds fewer than 4 (R14, R163). -/
def appendFault (l : List StopCause) (x : StopCause) : List StopCause := if l.length < 4 then l ++ [x] else l

/-- Appends a stop-class cause to the record of a serial (R163). -/
def RecordStore.appendFault (r : RecordStore) (serial : Nat) (x : StopCause) : RecordStore :=
  { r with list := r.list.map fun y => if y.serial = serial then { y with faults := Machine.appendFault y.faults x } else y }

/-- Marks the trace reference of a serial's record absent (R163). -/
def RecordStore.dropTrace (r : RecordStore) (serial : Nat) : RecordStore :=
  { r with list := r.list.map fun y => if y.serial = serial then { y with trace := none } else y }

/-! ### Fixing the outcome (R21) -/

/-- Fixes the outcome: the weld time stops with it, capture ends, the record is made, and NOTICE OUTCOME is queued, in
this order (R21, R160, R175). -/
def State.settle (s : State) (v : Verdict) : State :=
  match s.ctx with
  | none => s
  | some c =>
    let trace := s.trace.endCapture (bankOf c.serial)
    State.notice
      { s with
        ctx := some { c with outcome := some v }
        trace := trace
        records := s.records.insert (c.record v (trace.reference (bankOf c.serial))) }
      (.outcome c.serial c.tag v)

/-- The outcome at an entry to FAULT HOLD, where it is not yet fixed: ABORTED before UPSET START; REJECT, with the cause
among the reasons, after it (R21). -/
def State.settleAtStop (s : State) (cause : StopCause) : State :=
  match s.ctx with
  | none => s
  | some c =>
    if c.outcome.isSome then { s with records := s.records.appendFault c.serial cause }
    else if c.upsetBegun then State.settle { s with ctx := some (c.addReason cause.reason) } .reject
    else s.settle .aborted

/-- The outcome at RELEASING completion, where it is not yet fixed (R21). -/
def State.settleAtRelease (s : State) : State :=
  match s.ctx with
  | none => s
  | some c =>
    if c.outcome.isSome then s
    else if c.ending.isSome && !c.upsetBegun then s.settle .aborted
    else
      let c' := c.judge
      State.settle { s with ctx := some c' } (if c'.reasons = [] then .accept else .reject)

/-! ### Record queries (R165, R166) -/

/-- The record a query finds: serial 0 the newest, any other serial that record (R165). -/
def RecordStore.find (r : RecordStore) (serial : Nat) : Option WeldRecord :=
  if serial = 0 then r.list.getLast? else r.list.find? fun y => decide (y.serial = serial)

/-- Looks a RECORD QUERY up: a RECORD DATA run of the record found starts from a copy, or NOTICE NO RECORD is queued
(R165, R166). -/
def State.recordLookup (s : State) (serial : Nat) : State :=
  match s.records.find serial with
  | none => s.notice (.noRecord serial)
  | some r =>
    { s with
      records := { s.records with sending := some r }
      link := { s.link with recordSlot := some ⟨headFrames r.bytes, 0⟩ } }

/-- The last frame of a RECORD DATA run has been sent: the copy is discarded and a waiting query is looked up (R166). -/
def State.recordRunSent (s : State) : State :=
  match s.records.waiting with
  | none => { s with records := { s.records with sending := none } }
  | some n => State.recordLookup { s with records := { s.records with sending := none, waiting := none } } n

/-- The Bus Link has abandoned the run (R167). -/
def RecordStore.abandon (r : RecordStore) : RecordStore := { r with sending := none, waiting := none }

end Sys2Proof.Machine
end

