-- ==== Sys2Proof/Machine/Sequencer.lean ====
section
/-! DEFINITION. The walk through the phase records: the entry and the end of each record, from the last record back to
the first (R4 to R10, R22, R43 to R56, R60 to R69, R79 to R94). -/

namespace Sys2Proof.Machine

/-! ### Shared steps of an entry -/

/-- Sets the phase index and the phase timer on entry to a record, clears the yielded flag on a move to a state other
than PREHEAT and FLASH, and queues NOTICE PHASE where the record's notify flag is set (R10). -/
def State.enterRecord (s : State) (e : Engine) (i : Nat) : State :=
  let s1 := if e = .preheat ∨ e = .flash then s else s.clearYield
  let s2 := { s1.onCtx fun c => { c with phase := some i, phaseTimer := 0, exitMet := false, moveDue := false } with
    engine := e }
  match s2.ctx with
  | none => s2
  | some c =>
    match c.prog.records[i]? with
    | none => s2
    | some r => if r.notify then s2.notice (.phase c.serial i r.body.kind c.weldTime) else s2

/-- The runs start from 0, and no onset or open circuit stands due (R72 to R74, R79). -/
def WeldCtx.restartRuns (c : WeldCtx) : WeldCtx := { c with shortRun := 0, openRun := 0, onset := none, openMet := false }

/-- An OPEN episode in progress is added to the open time (R75, R83). -/
def State.closeEpisode (s : State) : State :=
  if s.mode = .openGap then s.onCtx fun c => { c with openTime := c.openTime + c.openRun, openRun := 0 } else s

/-- The regulator leaves FLASH or PREHEAT: an OPEN episode ends, the mode is IDLE, and sub-state, runs, retract target,
abort retract and guard setpoint are discarded (R79, R83). -/
def State.leaveRegulator (s : State) : State :=
  { s.closeEpisode.onCtx fun c =>
      { c.restartRuns with
        sub := none, drawTarget := none, retract := none, guard := none
        abortTarget := none, abortStill := 0 } with
    mode := .idle }

/-- The energy accumulator stops, the power window is discarded and P_meas becomes 0 (R76, R82). -/
def State.stopPower (s : State) : State :=
  s.onCtx fun c => { c with energyStopped := true, winSum := 0, winCount := 0, pMeas := 0 }

/-! ### RELEASE (R54 to R56, R22) -/

/-- RELEASING completes: the outcome is fixed if it is not yet fixed, the context is discarded, the commands go to 0 and
the step to 1, and READY is entered with the 1000 ms HEAD STATUS period (R22, R25, R43, R55, R61). The timers of the Stress
Unit and the Upset Unit are stopped at 0: DESIGN CHOICE, unsafe (log 52). -/
def State.completeRelease (s : State) : State :=
  let s1 := (s.setClamps false false).settleAtRelease
  { s1 with
    ctx := none
    engine := .ready
    mode := .idle
    out := { s1.out with velocity := 0, force := 0, step := 1 }
    stress := .reset
    upset := .reset
    statusPeriod := 1000
    statusTimer := 0 }

/-- Entry to OPENING: close lines off, open lines on, timer at 0; it ends at once where both clamps are open (R55). -/
def State.enterOpening (s : State) : State :=
  let s1 := { s.setClamps false true with
    stress := { s.stress with release := some .opening, releaseTimer := .started } }
  if s1.bothOpen then s1.completeRelease else s1

/-- Entry to WAITING, with both open lines off, the timer at 0 and NOTICE FAULT RELEASE TIMEOUT (R42, R56). -/
def State.enterWaiting (s : State) : State :=
  let s1 := { s.setClamps false false with
    stress := { s.stress with release := some .waiting, releaseTimer := .started } }
  let s2 := s1.noticeFault .releaseTimeout none
  if s2.bothOpen then s2.completeRelease else s2

/-- Entry to the RELEASE record: velocity 0, the force-limit command of the wiring as the ramp start force, RAMPING at
t = 0; with F0 = 0 OPENING is entered at once (R54). The force hold stops acting (R53), the power window ends (R76,
R82). A cause that ends CLAMPING stops the clamp-phase timer at its value: DESIGN CHOICE, unsafe (log 52). -/
def State.enterReleasing (s : State) : State :=
  let f0 := s.wireForce
  let i := ((s.ctx.bind fun c => c.prog.find .release)).getD 0
  let s1 := (s.leaveRegulator.enterRecord .releasing i).stopPower
  let s2 := { (s1.onCtx fun c => { c with releasingEntered := true }).setVelocity 0 with
    stress :=
      { s1.stress with
        clampTimer := s1.stress.clampTimer.stop
        release := some .ramping
        rampStart := some f0
        releaseTimer := .started }
    upset := { s1.upset with shear := none } }
  let s3 := s2.setForce f0
  if f0 = 0 then s3.enterOpening else s3

/-! ### TRIM (R92 to R94) -/

/-- TRIM exits: DONE with both shear lines off and the shear timer at 0, and RELEASING is entered, where no shear step is in
force (R84, R92, R94). -/
def State.endTrim (s : State) : State :=
  State.enterReleasing
    { s.setShear false false with upset := { s.upset with shear := some .done, shearTimer := 0 } }

/-- Entry to RETURNING: SHEAR RETRACT on, timer at 0; it ends at once where SHEAR_HOME is asserted (R94). -/
def State.enterReturning (s : State) : State :=
  let s1 := { s.setShear false true with upset := { s.upset with shear := some .returning, shearTimer := 0 } }
  if s1.level .shearHome then s1.endTrim else s1

/-- Entry to the TRIM record: ADVANCING from home, or TRIM FAIL and RETURNING (R92). Velocity and force keep HOLD's
values. -/
def State.enterTrim (s : State) (i : Nat) : State :=
  let s1 := s.enterRecord .trim i
  if s1.level .shearHome && !s1.level .shearEnd then
    { s1.setShear true false with upset := { s1.upset with shear := some .advancing, shearTimer := 0 } }
  else (s1.onCtx fun c => c.addReason .trimFail).enterReturning

/-! ### HOLD (R91) -/

/-- Entry to the HOLD record: the hold force, and the creep speed bounded by v_max (R91). -/
def State.enterHold (s : State) (i : Nat) : State :=
  let s1 := s.enterRecord .hold i
  let force := match s1.ctx.bind WeldCtx.body with
    | some (.hold f _) => f
    | _ => 0
  (s1.setVelocity (min s1.image.creep s1.image.vMax : Nat)).setForce (force * 10)

/-- HOLD ends: HOLD END is latched; TRIM or RELEASING is entered (R91). -/
def State.endHold (s : State) : State :=
  let s1 := s.latch .holdEnd s.meas.intervalPos
  match s1.ctx with
  | none => s1
  | some c => if c.prog.kindAt c.nextIndex = some .trim then s1.enterTrim c.nextIndex else s1.enterReleasing

/-! ### UPSET (R85 to R88) -/

/-- CURRENT OFF: the contactor opens, the upset current time is recorded, CURRENT OFF is latched, and the accumulator
and the power window stop (R86, R76, R82). -/
def State.takeCurrentOff (s : State) : State :=
  let s1 := s.openContactor
  let s2 := { s1.onCtx fun c => { c with curTime := some s1.upset.currentTimer.ms } with
    upset := { s1.upset with currentTimer := s1.upset.currentTimer.stop } }
  (s2.latch .currentOff s2.meas.intervalPos).stopPower

/-- Entry to the UPSET record (R85); with t_uc = 0 CURRENT OFF is taken at entry (R86). -/
def State.enterUpset (s : State) (i : Nat) : State :=
  let s1 := (s.leaveRegulator.enterRecord .upset i).latch .upsetStart s.meas.intervalPos
  let s2 := { s1.onCtx fun c =>
      { c with upStart := some s1.meas.intervalPos, upsetBegun := true, peak := some s1.meas.fm } with
    upset := { s1.upset with currentTimer := .started, stall := 0 } }
  match s2.ctx.bind WeldCtx.upset? with
  | none => s2
  | some r =>
    let s3 := (s2.setVelocity r.speed).setForce (r.fu * 10)
    if r.tuc = 0 then s3.takeCurrentOff else s3

/-- The platen advance since UPSET START at a position, 0 where negative (R88). -/
def WeldCtx.upsetAdvance (c : WeldCtx) (position : Int) : Nat := (position - c.upStart.getD position).toNat

/-- UPSET ends: CURRENT OFF if not yet taken, the upset distance, the peak force, UPSET END, and HOLD (R88). -/
def State.endUpset (s : State) : State :=
  let s1 := if (s.ctx.bind fun c => c.curTime).isSome then s else s.takeCurrentOff
  let s2 := s1.onCtx fun c =>
    { c with
      distance := some (c.upsetAdvance s1.meas.intervalPos)
      peak := some (max (c.peak.getD 0) s1.meas.fm) }
  let s3 := s2.latch .upsetEnd s2.meas.intervalPos
  match s3.ctx with
  | none => s3
  | some c => s3.enterHold c.nextIndex

/-! ### BOOST (R80, R81) -/

/-- Entry to the BOOST record (R80). -/
def State.enterBoost (s : State) (i : Nat) : State :=
  let s1 := s.leaveRegulator.enterRecord .boost i
  match s1.ctx.bind WeldCtx.boost? with
  | none => s1
  | some r =>
    let s2 := (s1.closeContactor.onCtx fun c => { c with boostEntry := some c.burnOff }).setStep r.step
    ((s2.setVelocity r.speed).setForce (s2.image.fMax * 10)).latch .boostStart s2.meas.position

/-- BOOST ends, by length, by time or cut short: the boost time is the phase timer, and UPSET is entered (R81, R90). -/
def State.endBoost (s : State) : State :=
  let s1 := s.onCtx fun c => { c with boostTime := some c.phaseTimer }
  match s1.ctx with
  | none => s1
  | some c => s1.enterUpset c.nextIndex

/-! ### FLASH (R67, R79) -/

/-- Entry to a FLASH record: contactor CLOSED, the record's step (its reduced step while yielded), any guard setpoint
discarded (R60, R61, R66, R77). A pending RESUME rise claims the new record's full load (R138); the pause timer and the
preheat sub-state end. The first FLASH record starts with contact pending at its approach speed (R67). -/
def State.enterFlash (s : State) (i : Nat) : State :=
  let s1 := (s.enterRecord .flash i).closeContactor
  match s1.ctx with
  | none => s1
  | some c =>
    match c.flash? with
    | none => s1
    | some r =>
      let rise := match s1.share.rise.ask with
        | some ⟨.resume, _, cls⟩ => { s1.share.rise with ask := some ⟨.resume, r.load, cls⟩ }
        | _ => s1.share.rise
      let c1 := { c with guard := none, pause := none, restartDue := false, sub := none, drawTarget := none }
      let s2 := ({ s1 with
        ctx := some c1
        share := { s1.share with rise := rise } }.setStep (if s1.yielded then r.reducedStep else r.step)).setForce
          (s1.image.fMax * 10)
      if c.prog.firstFlashAt i then
        State.setVelocity
          { s2 with
            mode := .regulating
            ctx := some { c1.restartRuns with contactPending := true, firstFlash := some c.weldTime } }
          r.approach
      else s2

/-- The step leaves FLASH as the record's step: the flag is cleared by the move, and the step returns with it (R66, R79). -/
def State.restoreStep (s : State) : State :=
  match s.yielded, s.ctx.bind WeldCtx.flash? with
  | true, some r => s.setStep r.step
  | _, _ => s

/-- The move out of the last FLASH record into BOOST or UPSET: an admitted rise's claim becomes the present load (R79,
R120). A RESUME rise still pending has no flag left to clear, and ends (log 20). -/
def State.makeMove (s : State) : State :=
  let s1 := s.cancelRise.restoreStep
  match s1.ctx with
  | none => s1
  | some c =>
    if c.prog.kindAt c.nextIndex = some .boost then s1.enterBoost c.nextIndex else s1.enterUpset c.nextIndex

/-- A move out of FLASH that needs no admission or has it: to the next FLASH record at once; to BOOST or UPSET at once
unless a short retraction is in progress, which it waits for (R79). `claim` is the admitted rise, kept in the
declaration until the move (R105, R120). -/
def State.leaveFlash (s : State) (claim : Option (Nat × Nat)) : State :=
  match s.ctx with
  | none => s
  | some c =>
    if c.prog.kindAt c.nextIndex = some .flash then s.enterFlash c.nextIndex
    else if s.mode = .retracting then
      { s.onCtx fun c => { c with moveDue := true } with share := { s.share with admitted := claim } }
    else s.makeMove

/-- The claim and rank class of the move out of the record in force (R7): the next record's load at class 1 into FLASH,
the class-0 claim into BOOST or UPSET. -/
def WeldCtx.moveClaim (c : WeldCtx) (standby : Nat) : Nat × Nat :=
  match c.prog.body c.nextIndex with
  | some (.flash r) => (r.load, 1)
  | some (.boost _) | some (.upset _) => (c.prog.classZero, 0)
  | some b => (b.load standby, 1)
  | none => (standby, 1)

/-- The exit criterion of a FLASH record is met: FLASH END is latched and the exit reported; a higher next load is a rise
point (R5, R7, R69). -/
def State.flashExit (s : State) : State :=
  let s1 := (s.latch .flashEnd s.meas.intervalPos).onCtx fun c => { c with exitMet := true }
  match s1.ctx with
  | none => s1
  | some c =>
    let m := c.moveClaim s1.image.standby
    if s1.presentLoad < m.1 then State.raise { s1 with awaiting := true } .sequencer m.1 m.2 else s1.leaveFlash none

/-! ### PREHEAT (R63 to R65) -/

/-- Entry to APPROACH: the contactor closes unless yielded, and the platen advances at the approach speed (R63, R64). -/
def State.enterApproach (s : State) : State :=
  match s.ctx.bind WeldCtx.preheat? with
  | none => s
  | some r =>
    let s1 := if s.yielded then s else s.closeContactor
    (s1.onCtx fun c => { c with sub := some .approach, subTimer := 0, drawTarget := none }).setVelocity r.approach

/-- Entry to the PREHEAT record (R63). -/
def State.enterPreheat (s : State) (i : Nat) : State :=
  let s1 := s.enterRecord .preheat i
  match s1.ctx.bind WeldCtx.preheat? with
  | none => s1
  | some r => ((s1.setStep r.step).setForce (r.contactForce * 10)).enterApproach

/-- Entry to PULSE OFF: the contactor opens, and the platen is drawn back by the open distance (R64). -/
def State.enterPulseOff (s : State) : State :=
  match s.ctx.bind WeldCtx.preheat? with
  | none => s.openContactor
  | some r =>
    let s1 := s.openContactor
    (s1.onCtx fun c =>
      { c with sub := some .pulseOff, subTimer := 0, drawTarget := some (s1.meas.position - r.openDistance) }).setVelocity
      (-(s1.image.vRetractMax : Int))

/-- The PREHEAT exit criterion is met: a higher FLASH load is a rise point and the pulses go on; otherwise FLASH is
entered at once (R5, R7, R65). -/
def State.preheatExit (s : State) : State :=
  let s1 := s.onCtx fun c => { c with exitMet := true }
  match s1.ctx with
  | none => s1
  | some c =>
    let m := c.moveClaim s1.image.standby
    if s1.presentLoad < m.1 then (State.raise { s1 with awaiting := true } .sequencer m.1 m.2).enterApproach
    else s1.enterFlash c.nextIndex

/-- PULSE OFF ends: the record is left where the counted pulses stand at the pulse count and the criterion was not met
before; otherwise the next approach starts (R64, R65). -/
def State.endPulseOff (s : State) : State :=
  match s.ctx with
  | none => s
  | some c =>
    match c.preheat? with
    | none => s
    | some r => if !c.exitMet && decide (r.pulses ≤ c.counted) then s.preheatExit else s.enterApproach

/-- PULSE OFF has run its off time and the yielded flag is clear (R64). -/
def State.pulseOffOver (s : State) : Bool :=
  match s.ctx with
  | none => false
  | some c =>
    decide (s.engine = .preheat) && decide (c.sub = some .pulseOff) && !s.yielded
      && (c.preheat?.elim false fun r => decide (r.offTime ≤ c.subTimer))

/-! ### ADMITTING, PULL, CLAMP (R6, R44, R49 to R52) -/

/-- Entry to ADMITTING: no record in force, the Stress Unit's own commands at 0, and the first current phase asked as a
rise of class 2 (PREHEAT) or 1 (FLASH), whatever its claim (R6). -/
def State.enterAdmitting (s : State) : State :=
  let s1 := ({ s.onCtx fun c => { c with phase := none, phaseTimer := 0, exitMet := false, moveDue := false } with
    engine := .admitting
    awaiting := true }.setVelocity 0).setForce 0
  match s1.ctx with
  | none => s1
  | some c =>
    match c.prog.firstCurrent.bind c.prog.body with
    | some (.preheat r) => s1.raise .sequencer r.load 2
    | some (.flash r) => s1.raise .sequencer r.load 1
    | _ => s1

/-- The pull achieved at the present position, 0 where negative (R51). -/
def WeldCtx.pulled (c : WeldCtx) (position : Int) : Nat := (position - c.pullStart.getD position).toNat

/-- The PULL phase ends: pull achieved, PULL END, the force hold, PULL SHORT where the deficit exceeds the tolerance, and
ADMITTING (R51, R52). The pull stall timer keeps its last count: DESIGN CHOICE, unsafe (log 52). -/
def State.endPull (s : State) : State :=
  let s1 := s.latch .pullEnd s.meas.position
  match s1.ctx with
  | none => s1
  | some c =>
    let achieved := c.pulled s1.meas.position
    let tolerance := ((c.pull?.map PullRec.tolerance)).getD 0
    let c1 := { c with
      pullAchieved := some achieved
      forceHold := some (min s1.meas.fm (s1.image.fMax * 10)) }
    let c2 := if achieved + tolerance < c.pReq then c1.addReason .pullShort else c1
    State.enterAdmitting { s1 with ctx := some c2 }

/-- Entry to the PULL record; with P_req = 0 the criterion is met at entry (R49). -/
def State.enterPull (s : State) (i : Nat) : State :=
  let s1 := s.enterRecord .pulling i
  match s1.ctx.bind WeldCtx.pull? with
  | none => s1
  | some r =>
    let s2 := { s1.onCtx fun c => { c with pullStart := some s1.meas.position } with
      stress := { s1.stress with pullStall := 0 } }
    let s3 := (s2.setVelocity r.speed).setForce (r.forceLimit * 10)
    if ((s3.ctx.map fun c => decide (c.pReq = 0))).getD false then s3.endPull else s3

/-- PULL is left without ending: the pull achieved is computed, nothing else (R51). The pull stall timer keeps its last count:
DESIGN CHOICE, unsafe (log 52). -/
def State.leavePull (s : State) : State :=
  if s.engine = .pulling then s.onCtx fun c => { c with pullAchieved := some (c.pulled s.meas.position) } else s

/-- The CLAMP exit criterion is met: the timer stops, CLAMPING counts as completed, and PULL or ADMITTING is entered
(R44). -/
def State.clampExit (s : State) : State :=
  let s1 := { s.onCtx fun c => { c with clampDone := true } with
    stress := { s.stress with clampTimer := s.stress.clampTimer.stop } }
  match s1.ctx with
  | none => s1
  | some c => if c.prog.kindAt c.nextIndex = some .pull then s1.enterPull c.nextIndex else s1.enterAdmitting

/-- Entry to the CLAMP record: close lines on, commands at 0, timer at 0; met at entry where both clamps stand closed
(R44). -/
def State.enterClamp (s : State) : State :=
  let s1 := { (((s.enterRecord .clamping 0).setClamps true false).setVelocity 0).setForce 0 with
    stress := { s.stress with clampTimer := .started } }
  if s1.bothClosed then s1.clampExit else s1

/-! ### An admitted rise of the Sequencer (R6, R8, R120) -/

/-- The Sequencer takes the admission of its rise: awaiting admission clears, and the next record is entered at the
boundary R65 and R79 give. The first current phase sets current begun (R6). -/
def State.sequencerAdmitted (s : State) (claim : Nat × Nat) : State :=
  let s1 := { s with awaiting := false }
  match s1.ctx with
  | none => s1
  | some c =>
    match s1.engine with
    | .admitting =>
      let s2 := s1.onCtx fun c => { c with currentBegun := true }
      match c.prog.firstCurrent with
      | none => s2
      | some i => if c.prog.kindAt i = some .preheat then s2.enterPreheat i else s2.enterFlash i
    | .preheat => s1.enterFlash c.nextIndex
    | .flash => s1.leaveFlash (some claim)
    | .starting | .configFault | .ready | .clamping | .pulling | .boost | .upset | .hold | .trim | .releasing
    | .faultHold => s1

end Sys2Proof.Machine
end

