-- ==== Sys2Proof/Machine/Causes.lean ====
section
/-! DEFINITION. Stop-class and end-class causes (R12 to R20, R51, R57, R83, R96). -/

namespace Sys2Proof.Machine

/-! ### Stop-class causes -/

/-- What the phase units do with their own state at a stop (R51, R57, R81, R83, R96). The upset distance of a stop taken in
UPSET is read from the position counter as it stands: DEDUCED, unsafe (log 18). The clamp-phase and the upset-current timer
stop at their values: DESIGN CHOICE, unsafe (log 52). -/
def State.unitsAtStop (s : State) : State :=
  let s1 := s.leavePull
  let s2 := if s1.engine = .boost then s1.onCtx fun c => { c with boostTime := some c.phaseTimer } else s1
  let s3 :=
    if s2.engine = .upset then
      s2.onCtx fun c =>
        { c with
          curTime := some (c.curTime.getD s2.upset.currentTimer.ms)
          distance := some (c.upsetAdvance s2.meas.position)
          peak := some (max (c.peak.getD 0) s2.meas.fm) }
    else s2
  let s4 := s3.leaveRegulator.stopPower
  { s4 with
    stress :=
      { s4.stress with
        clampTimer := s4.stress.clampTimer.stop
        release := none
        releaseTimer := s4.stress.releaseTimer.stop }
    upset := { s4.upset with currentTimer := s4.upset.currentTimer.stop, shear := none } }

/-- A stop-class cause stops the head, in the order of R13: contactor open, velocity 0, force-limit command and clamp
lines held, shear lines off, step unchanged, rise cancelled, flags cleared, cause appended, FAULT HOLD with NOTICE
FAULT, outcome. -/
def State.stopHead (s : State) (x : StopCause) : State :=
  let s1 := s.openContactor
  let s2 := ((s1.setVelocity 0).setForce s1.wireForce).setShear false false
  let s3 := { s2.cancelRise.clearYield with awaiting := false }
  let s4 := s3.unitsAtStop.onCtx fun c => { c with faults := appendFault c.faults x, phase := none }
  (State.noticeFault { s4 with engine := .faultHold } x.reason none).settleAtStop x

/-- A stop-class cause in FAULT HOLD: appended to the fault list and to the record, NOTICE FAULT, no state change
(R14, R163). -/
def State.appendStop (s : State) (x : StopCause) : State :=
  match s.ctx with
  | none => s
  | some c =>
    State.noticeFault
      { s with
        ctx := some { c with faults := appendFault c.faults x }
        records := s.records.appendFault c.serial x }
      x.reason none

/-- The Sequencer takes a stop-class cause (R12 to R15). -/
def State.stopCause (s : State) (x : StopCause) : State :=
  match s.engine with
  | .starting | .configFault | .ready => s
  | .faultHold => s.appendStop x
  | .clamping | .pulling | .admitting | .preheat | .flash | .boost | .upset | .hold | .trim | .releasing => s.stopHead x

/-! ### End-class causes -/

/-- Stores the cause as the ending cause if none is stored, with the tag of a CONSOLE ABORT so stored (R16). -/
def WeldCtx.storeEnding (c : WeldCtx) (x : EndCause) (tag : Option Nat) : WeldCtx :=
  if c.ending.isSome then c
  else { c with ending := some x, abortTag := if x = .consoleAbort then tag else c.abortTag }

/-- A cause before any current has flowed: RELEASING (R17). -/
def State.earlyEnd (s : State) (x : EndCause) : State :=
  let s1 := { s.cancelRise with awaiting := false }
  ((s1.onCtx fun c => c.addReason x.reason).leavePull).enterReleasing

/-- The restart of the pulse count is due in PREHEAT: the pause timer of a yield exceeds the pause tolerance and this pause
has not restarted the count, or it did so before an abort retract discarded the timer (R136, R137; log 48). -/
def State.pauseDue (s : State) : Bool :=
  decide (s.engine = .preheat)
    && s.ctx.elim false fun c =>
      c.restartDue
        || (s.yielded && !c.pauseTaken
          && (c.pause.elim false fun p => c.preheat?.elim false fun r => decide (r.pauseTolerance < p)))

/-- A cause in PREHEAT or FLASH starts the abort retract (R18, R83). The contactor is opened first, so that a
stuck-contactor hold keeps the load declared before the command (R104). A restart of the pulse count that fell due before
stays due (R137; log 48), and contact pending ends (log 36). The step output is left as it stands, also where it is the
reduced step of a yield in FLASH (R61, R66): DESIGN CHOICE, unsafe (log 50). -/
def State.startAbort (s : State) (x : EndCause) : State :=
  let s1 := { s.openContactor.cancelRise.clearYield with awaiting := false }
  let s2 := (s1.onCtx fun c => c.addReason x.reason).leaveRegulator
  { (s2.onCtx fun c =>
      { c with
        abortTarget := some (s2.meas.position - s2.image.abortDistance)
        abortStill := 0
        contactPending := false
        restartDue := s.pauseDue
        moveDue := false }).setVelocity (-(s2.image.vRetractMax : Int)) with
    mode := .retracting }

/-- A cause in BOOST makes a forced upset (R19, R90). -/
def State.forceUpset (s : State) (x : EndCause) : State :=
  (s.onCtx fun c => (c.addReason x.reason).addReason .forcedUpset).endBoost

/-- The Sequencer takes an end-class cause (R16 to R20); `tag` is the tag of an ABORT. -/
def State.endCause (s : State) (x : EndCause) (tag : Option Nat) : State :=
  let s1 := (s.onCtx fun c => c.storeEnding x tag).noticeFault x.reason tag
  match s.engine with
  | .starting | .configFault | .ready | .faultHold => s
  | .releasing => s.noticeFault x.reason tag
  | .clamping | .pulling | .admitting => s1.earlyEnd x
  | .preheat | .flash => if s.aborting then s1.onCtx fun c => c.addReason x.reason else s1.startAbort x
  | .boost => s1.forceUpset x
  | .upset | .hold | .trim => s1.onCtx fun c => (c.addReason x.reason).addReason .lateAbort

end Sys2Proof.Machine
end

