-- ==== Sys2Proof/Machine/Yielding.lean ====
section
/-! DEFINITION. What follows an admission, the evaluation of the own pending rise, and Yield Control (R115 to R122, R125
to R138). -/

namespace Sys2Proof.Machine

/-! ### The yield time limit and the pause restarts (R132, R136, R137) -/

/-- Yield Control cancels a pending RESUME rise (R122, R132, R137). -/
def State.cancelResume (s : State) : State :=
  match s.share.rise.ask with
  | some ⟨.resume, _, _⟩ => { s with share := { s.share with rise := s.share.rise.ended } }
  | _ => s

/-- The yield time has reached T_yield_max, and YIELD LIMIT has not been reported yet (R132; log 47). -/
def State.yieldLimitDue (s : State) : Bool :=
  s.ctx.elim false fun c => !c.limitReported && decide (c.prog.tYieldMax ≠ 0) && decide (c.yieldLimitMs ≤ c.yieldTime)

/-- YIELD LIMIT (R132). -/
def State.yieldLimited (s : State) : State :=
  (s.cancelResume.onCtx fun c => { c with limitReported := true }).endCause .yieldLimit none

/-- The pulse count restarts; the third restart is PREHEAT LOST (R136, R137). -/
def State.pauseRestarts (s : State) : State :=
  let s1 := s.onCtx fun c =>
    { c with pauseTaken := true, restartDue := false, counted := 0, restarts := c.restarts + 1 }
  if (s1.ctx.elim false fun c => decide (3 ≤ c.restarts)) then s1.cancelResume.endCause .preheatLost none else s1

/-! ### Admission (R120, R134) -/

/-- The Flash Regulator acts on the clearing of the flag by a resume: the record's step in FLASH; in PREHEAT a PULSE OFF
whose off time has run ends (R66, R134). -/
def State.regulatorResumes (s : State) : State :=
  match s.ctx.bind WeldCtx.flash? with
  | some r => s.setStep r.step
  | none => if s.pulseOffOver then s.endPulseOff else s

/-- A RESUME rise is admitted (R134). -/
def State.resumeAdmitted (s : State) : State :=
  let s1 := { s with yielded := false }.latch .resume s.meas.intervalPos
  (s1.onCtx fun c =>
    { c with sinceResume := some 0, minrunBar := true, pause := none, restartDue := false, guard := none }).regulatorResumes

/-- The admission test is met: the pending-rise state is NONE with its timers stopped, and the source takes the admission
(R120). A RESUME rise is admitted only while the yield time stands below its limit: a limit that has been reached is taken
first, and the rise ends with it (R132; log 47). -/
def State.admitRise (s : State) (a : Ask) : State :=
  let s1 := { s with share := { s.share with rise := s.share.rise.ended } }
  match a.source with
  | .sequencer => s1.sequencerAdmitted (a.claim, a.cls)
  | .resume => if s1.yieldLimitDue then s1.yieldLimited else s1.resumeAdmitted

/-! ### The own pending rise (R116 to R119) -/

/-- The own rise is withdrawn: the settle timer stops, and a DEMAND with intent NONE is placed (R116). -/
def State.withdrawRise (s : State) : State :=
  State.placeDemand
    { s with share := { s.share with rise :=
      { s.share.rise with state := .withdrawn, settle := s.share.rise.settle.stop } } }

/-- A withdrawn rise is raised again with a fresh settle interval; the admission wait goes on (R117). -/
def State.reraise (s : State) : State :=
  State.placeDemand
    { s with share := { s.share with rise := { s.share.rise with state := .settling, settle := .started } } }

/-- The evaluation of the own pending rise after an event of R98, R100, R101, R108 or R109; a withdrawn rise is tested
after a change of the table alone (R116, R117, R119). -/
def State.riseEval (s : State) (tableChanged : Bool) : State :=
  match s.share.rise.ask with
  | none => s
  | some a =>
    match s.share.rise.state with
    | .none => s
    | .settling => if s.outranked a.cls then s.withdrawRise else s
    | .waiting =>
      if s.outranked a.cls then s.withdrawRise
      else if s.admissionMet a.claim a.cls then s.admitRise a else s
    | .withdrawn => if tableChanged && !s.outranked a.cls then s.reraise else s

/-! ### Standing (R126, R127) -/

/-- The standing class of a phase class (R126). -/
def PhaseClass.standing : PhaseClass → Option Nat
  | .preheat => some 2
  | .flash => some 1
  | .boost | .standby => none

/-- A head of standing class `c` at station `st` stands below one of class `c'` at station `st'` (R126). -/
def standsBelow (c st c' st' : Nat) : Bool := decide (c' < c) || (decide (c = c') && decide (st' < st))

/-- The entry is a yielding candidate (R127). -/
def Peer.candidate (p : Peer) : Bool :=
  p.live && decide (p.kind = .head) && p.phaseClass.standing.isSome && !p.yielded && decide (0 < p.reduction)

/-- R_below: the reductions of the candidates below the own head, the peer `except` left out (R127). -/
def State.rBelow (s : State) (cls : Nat) (except : Option Nat) : Nat :=
  ((s.share.peers.filter fun p =>
    p.candidate && standsBelow (p.phaseClass.standing.getD 0) p.station cls s.station.val
      && decide (some p.station ≠ except)).map Peer.reduction).sum

/-! ### Shortfalls (R129, R130) -/

/-- Whether an entry is a pending RISE that ranks above another entry (R112). -/
def Peer.ranksAbove (p q : Peer) : Bool :=
  match p.rise, q.rise with
  | some c, some c' => outranks c p.station c' q.station
  | some _, none => true
  | none, _ => false

/-- Y, the highest-ranked pending RISE in the table (R129). -/
def State.highestRise (s : State) : Option Peer :=
  (s.share.peers.filter fun p => p.live && p.rise.isSome).foldl
    (fun best p =>
      match best with
      | none => some p
      | some q => if p.ranksAbove q then some p else some q)
    none

/-- excess_Y for the pending RISE Y of rank class `c` (R129). -/
def State.excessRise (s : State) (y : Peer) (c : Nat) : Int :=
  (y.claim : Int)
    + (((s.share.peers.filter fun p => decide (p.station ≠ y.station)).map fun p => p.countedFor c y.station).sum : Nat)
    + (s.presentLoad : Int) - (s.budget : Int)

/-- The rise-shortfall evaluation of a head of standing class `cls` decides to yield (R129). -/
def State.riseShortfall (s : State) (cls : Nat) : Bool :=
  match s.highestRise with
  | none => false
  | some y =>
    match y.rise with
    | none => false
    | some c =>
      let ownStands := decide (s.share.rise.state = .settling) || decide (s.share.rise.state = .waiting)
      !ownStands && decide (c < cls) && decide (0 < s.excessRise y c)
        && decide ((s.rBelow cls (some y.station) : Int) < s.excessRise y c)

/-- excess_B (R130). -/
def State.excessBudget (s : State) : Int :=
  ((s.share.peers.map Peer.counted).sum : Nat) + (s.presentLoad : Int) - (s.budget : Int)

/-- The budget-shortfall evaluation of a head of standing class `cls` decides to yield (R130). -/
def State.budgetShortfall (s : State) (cls : Nat) : Bool :=
  decide (0 < s.excessBudget) && decide ((s.rBelow cls none : Int) < s.excessBudget)

/-! ### Yielding (R66, R131) -/

/-- Yield Control's part of an accepted yield (R131). -/
def State.countYield (s : State) : State :=
  { s with yielded := true }.onCtx fun c =>
    { c with
      yieldCount := countUp c.yieldCount
      guard := none
      pause := if s.engine = Engine.preheat then some 0 else none
      restartDue := false
      pauseTaken := if s.engine = Engine.preheat then false else c.pauseTaken }

/-- The Flash Regulator takes the flag: refused outside PREHEAT and FLASH and in an abort retract (R66). In PREHEAT a
pulse in progress is abandoned for PULSE OFF, a PULSE OFF is left as it is, and the open command is given in either case at
the load declared before it (R60, R104); in FLASH the reduced step is set. -/
def State.applyYield (s : State) : State :=
  match s.ctx with
  | none => s
  | some c =>
    if c.aborting then s
    else
      match s.engine with
      | .preheat =>
        ((if c.sub = some .pulseOff then s.openContactor else s.enterPulseOff).latch .yield s.meas.intervalPos).countYield
      | .flash =>
        let s1 := (s.latch .yield s.meas.intervalPos).countYield
        match c.flash? with
        | none => s1
        | some r => s1.setStep r.reducedStep
      | .starting | .configFault | .ready | .clamping | .pulling | .admitting | .boost | .upset | .hold | .trim
      | .releasing | .faultHold => s

/-! ### Resuming (R133) -/

/-- The full load of the record in force (R133). -/
def State.fullLoad (s : State) : Nat := ((s.ctx.bind WeldCtx.body).map (RecBody.load s.image.standby)).getD 0

/-- The resume evaluation (R133). -/
def State.resumeEval (s : State) : State :=
  match s.phaseClass.standing with
  | none => s
  | some cls =>
    if s.share.rise.state = .none ∧ !s.outranked cls ∧ s.admissionMet s.fullLoad cls then
      s.raise .resume s.fullLoad cls
    else s

/-- Yield Control evaluates an event; `lowered` where the event lowered the budget (R128). -/
def State.yieldEval (s : State) (lowered : Bool) : State :=
  if s.yielded then s.resumeEval
  else if 0 < s.reduction then
    match s.phaseClass.standing with
    | none => s
    | some cls => if s.riseShortfall cls || (lowered && s.budgetShortfall cls) then s.applyYield else s
  else s

/-- The two evaluations that follow a change of the table or of the budget's terms: the own pending rise first, then
Yield Control (R98, R108, R124). -/
def State.shareEvent (s : State) (tableChanged lowered : Bool) : State := (s.riseEval tableChanged).yieldEval lowered

/-- A change of the peer table (R98, R100, R101). -/
def State.withPeers (s : State) (peers : List Peer) : State :=
  State.shareEvent { s with share := { s.share with peers := peers } } true false

/-- A change of the budget's terms, from the state before it: the rating source is formed anew and the two evaluations are
made (R108, R109, R130). -/
def State.budgetEvent (s before : State) : State :=
  let s1 := { s with share := { s.share with source := s.sourceNow } }
  s1.shareEvent false (decide (s1.budget < before.budget))

end Sys2Proof.Machine
end

