-- ==== Sys2Proof/Machine/Link.lean ====
section
/-! DEFINITION. The Bus Link: reception, run assembly, sending, and the loss of the link (R181 to R187). -/

namespace Sys2Proof.Machine

/-! ### Link states (R185, R186) -/

/-- The Configuration Loader has finished, with either report (R185, R188). -/
def Loader.finished : Loader → Bool
  | .held | .reading => false
  | .good | .unreadable | .wrongSum => true

/-- Frames are received: the bit rate is known once the Loader has finished, and the controller is on the bus outside
LOST (R185; log 11). -/
def State.receives (s : State) : Bool := s.loader.finished && decide (s.link.state ≠ .lost)

/-- The run of a slot is sent again from its first frame (R186). -/
def TxRun.restart (r : TxRun) : TxRun := { r with next := 0 }

/-- The Bus Link's own part of a loss, steps 1 to 4 of R186. -/
def Link.lose (l : Link) : Link :=
  { l with
    state := .lost
    listen := .stopped
    lostTimer := 0
    onBus := none
    demandSlot := none
    statusSlot := l.statusSlot.map TxRun.restart
    noticeNext := 0
    recordSlot := none
    traceSlot := none }

/-- The link is lost (R186): the readouts are abandoned (R167, R180) and the Sequencer takes LINK LOST (R11). -/
def State.loseLink (s : State) : State :=
  State.declare
    ({ s with link := s.link.lose, records := s.records.abandon, trace := s.trace.abandon }.endCause .linkLost none)

/-- A frame from another station that uses this head's number (R187). -/
def State.duplicate (s : State) : State :=
  match s.link.state with
  | .joined => s.loseLink
  | .listening => { s with link := { s.link with listen := .started } }
  | .lost => s

/-- A frame is received from a sender: one of the own number goes to duplicate-station detection and no further (R187;
log 19). -/
def State.onRx (s : State) (sender : Station) (f : State → State) : State :=
  if !s.receives then s else if sender = s.station then s.duplicate else f s

/-- The message passes to its owner in JOINED alone (R183). -/
def State.ifJoined (s : State) (f : State → State) : State := if s.link.state = .joined then f s else s

/-- RATING and DEMAND pass in JOINED and in LISTENING, and are not taken in CONFIG FAULT (R183, R101). -/
def State.ifSharing (s : State) (f : State → State) : State := if s.engine = .configFault then s else f s

/-- The message names this head as its target in byte 0 and has the bytes of its layout (R181, R183, section 11.8). -/
def State.targeted (s : State) (data : List Byte) (length : Nat) : Bool :=
  decide (length ≤ data.length) && decide (natAt data 0 1 = s.station.val)

/-! ### Assembly (R37, R182) -/

/-- A frame of the sender restarts its silence. -/
def Assembly.heard (a : Assembly) : Assembly := { a with silence := 0 }

/-- The assembly that a first frame starts. -/
def Assembly.start (sender length : Nat) (data : List Byte) : Assembly :=
  { sender := sender, length := length, got := 1, payload := data.drop 2, silence := 0, elsewhere := false }

/-- The assembly holds as many frames as its first frame declared. -/
def Assembly.complete (a : Assembly) : Bool := decide (a.length ≤ a.got)

/-- The assembly after a later frame: appended where its index is the next, discarded where it is any other (R182). A frame
that follows a PROGRAMME first frame for another station is not assembled (R37; log 43). -/
def Assembly.take (a : Assembly) (data : List Byte) : Option Assembly :=
  if natAt data 0 1 % 64 = a.got then
    some (if a.elsewhere then a.heard
      else { a with got := a.got + 1, payload := a.payload ++ data.drop 1, silence := 0 })
  else none

/-- A PROGRAMME run after a first frame of its own sender that starts no run: the frames that follow one for another station
are not assembled (R37). -/
def Assembly.passedOver (a : Assembly) (own : Nat) (data : List Byte) : Assembly :=
  { a.heard with elsewhere := a.elsewhere || (decide (2 ≤ data.length) && decide (natAt data 1 1 ≠ own)) }

/-- The first frame starts an assembly of this head: its target is this head and its run length lies in 1..48 (R182). -/
def State.acceptsFirst (s : State) (data : List Byte) : Bool :=
  decide (2 ≤ data.length) && decide (natAt data 1 1 = s.station.val)
    && decide (193 ≤ natAt data 0 1) && decide (natAt data 0 1 ≤ 240)

/-- A WELD REQUEST first frame: a run of two frames replaces the sender's partial run (R182). -/
def State.weldFirst (s : State) (sender : Nat) (data : List Byte) : State :=
  let others := s.link.weldRuns.filter fun a => decide (a.sender ≠ sender)
  if s.acceptsFirst data && decide (natAt data 0 1 = 194) then
    { s with link := { s.link with weldRuns := others ++ [Assembly.start sender 2 data] } }
  else
    { s with link := { s.link with weldRuns := s.link.weldRuns.map fun a => if a.sender = sender then a.heard else a } }

/-- The buffer of PROGRAMME runs with a run in it: a complete one is handed to validation and leaves the buffer FREE; one
completed while the link is not JOINED is discarded (R37, R183). -/
def State.settleProg (s : State) (a : Assembly) : State :=
  if a.complete then
    { s with link :=
      { s.link with
        progRun := none
        progReady := if s.link.state = .joined then s.link.progReady ++ [⟨a.got, a.payload⟩] else s.link.progReady } }
  else { s with link := { s.link with progRun := some a } }

/-- A PROGRAMME first frame: it takes the buffer where that is FREE or its own, and is dropped otherwise (R37, R182). -/
def State.progFirst (s : State) (sender : Nat) (data : List Byte) : State :=
  let mine := s.link.progRun.elim true fun a => decide (a.sender = sender)
  if s.acceptsFirst data then
    if mine then s.settleProg (Assembly.start sender (natAt data 0 1 - 192) data) else s
  else
    { s with link :=
      { s.link with
        progRun := s.link.progRun.map fun a => if a.sender = sender then a.passedOver s.station.val data else a } }

/-- Check 1 of R3. -/
def State.isBusy (s : State) : Bool :=
  (decide (s.engine ≠ .ready) && decide (s.engine ≠ .faultHold)) || decide (Config.serialMax < s.nextSerial)

/-- Checks 1 to 3 of R3, which read the engine, the serial counter and the link state alone. -/
def State.standingFault (s : State) : Option RequestFault :=
  if s.isBusy then some .busy
  else if s.engine = .faultHold then some .faultHold
  else if s.link.state ≠ .joined then some .isolated
  else none

/-- The complete run as it is passed to the Sequencer: in LISTENING with the check that it fails there, so that a join
before the Sequencer takes it does not let it through; in JOINED with none, since R3 tests it when it is taken (R183;
log 7). -/
def State.weldRun (s : State) (payload : List Byte) : WeldRun :=
  ⟨payload, if s.link.state = .joined then none else s.standingFault⟩

/-- A later frame of a WELD REQUEST run (R182, R183). -/
def State.weldLater (s : State) (sender : Nat) (data : List Byte) : State :=
  match s.link.weldRuns.find? fun a => decide (a.sender = sender) with
  | none => s
  | some a =>
    let others := s.link.weldRuns.filter fun b => decide (b.sender ≠ sender)
    match a.take data with
    | none => { s with link := { s.link with weldRuns := others } }
    | some b =>
      if b.complete then
        { s with link := { s.link with weldRuns := others, weldReady := s.link.weldReady ++ [s.weldRun b.payload] } }
      else { s with link := { s.link with weldRuns := others ++ [b] } }

/-- A later frame of a PROGRAMME run (R182). -/
def State.progLater (s : State) (sender : Nat) (data : List Byte) : State :=
  match s.link.progRun with
  | none => s
  | some a =>
    if a.sender = sender then
      match a.take data with
      | none => { s with link := { s.link with progRun := none } }
      | some b => s.settleProg b
    else s

/-- A later frame of a run: byte 0 is below 192 (R182; log 12). -/
def State.laterFrame (s : State) (kind : RunKind) (sender : Nat) (data : List Byte) : State :=
  if data.isEmpty || decide (192 ≤ natAt data 0 1) then s
  else
    match kind with
    | .weldRequest => s.weldLater sender data
    | .programme => s.progLater sender data

/-! ### Sending (R184) -/

/-- The next frame of a run. -/
def TxRun.frame (r : TxRun) : Option (List Byte) := r.frames[r.next]?

/-- The first frame of the run in this slot has been sent. -/
def startedRun (r : Option TxRun) : Bool := r.elim false fun r => decide (0 < r.next)

/-- The next frame of the oldest queued notice. -/
def Link.noticeFrame (l : Link) : Option (List Byte) :=
  l.notices.head?.bind fun n => (headFrames n.bytes)[l.noticeNext]?

/-- The frame ready with the lowest identifier: DEMAND outside the 5 ms after the last one, then HEAD STATUS, NOTICE, and
RECORD DATA or TRACE BLOCK, whichever of the two has started, RECORD DATA where neither has (R184). -/
def Link.ready (l : Link) : Option (TxKind × List Byte) :=
  let demand := if Config.demandGapMs ≤ l.demandGap then l.demandSlot.map Declaration.bytes else none
  let record := if startedRun l.traceSlot then none else l.recordSlot.bind TxRun.frame
  let trace := if startedRun l.recordSlot then none else l.traceSlot.bind TxRun.frame
  (demand.map fun d => (TxKind.demand, d))
    |>.or ((l.statusSlot.bind TxRun.frame).map fun d => (TxKind.headStatus, d))
    |>.or (l.noticeFrame.map fun d => (TxKind.notice, d))
    |>.or (record.map fun d => (TxKind.recordData, d))
    |>.or (trace.map fun d => (TxKind.traceBlock, d))

/-- The ready frame is taken onto the bus (R184). -/
def State.startFrame (s : State) (k : TxKind) (d : List Byte) : State :=
  { s with link :=
    { s.link with
      onBus := some ⟨k, s.identOf k, d, false⟩
      demandGap := if k = .demand then 0 else s.link.demandGap } }

/-- A run one frame further, absent once its last frame has left. -/
def TxRun.advance (r : TxRun) : Option TxRun :=
  if r.next + 1 < r.frames.length then some { r with next := r.next + 1 } else none

/-- A notice frame has left: at its last frame the notice leaves the queue (R184). -/
def Link.noticeSent (l : Link) : Link :=
  match l.notices with
  | [] => l
  | n :: rest =>
    if l.noticeNext + 1 < (headFrames n.bytes).length then { l with noticeNext := l.noticeNext + 1 }
    else { l with notices := rest, noticeNext := 0 }

/-- A RECORD DATA frame has left; at the last one the Record Store is told (R166, R184). -/
def State.recordFrameSent (s : State) : State :=
  match s.link.recordSlot.bind TxRun.advance with
  | some r => { s with link := { s.link with recordSlot := some r } }
  | none => State.recordRunSent { s with link := { s.link with recordSlot := none } }

/-- A TRACE BLOCK frame has left; at the last one the Trace Store is told (R178, R184). -/
def State.traceFrameSent (s : State) : State :=
  match s.link.traceSlot.bind TxRun.advance with
  | some r => { s with link := { s.link with traceSlot := some r } }
  | none => State.traceRunSent { s with link := { s.link with traceSlot := none } }

/-- The frame has left; a frame whose slot was filled anew meanwhile leaves the slot as it is (R184; log 23). -/
def State.frameSent (s : State) (f : TxFrame) : State :=
  let s1 := { s with link := { s.link with onBus := none, failed := 0 } }
  if f.stale then s1
  else
    match f.kind with
    | .demand => { s1 with link := { s1.link with demandSlot := none } }
    | .headStatus => { s1 with link := { s1.link with statusSlot := s1.link.statusSlot.bind TxRun.advance } }
    | .notice => { s1 with link := s1.link.noticeSent }
    | .recordData => s1.recordFrameSent
    | .traceBlock => s1.traceFrameSent

/-- The frame ended without acknowledgement (R186). -/
def State.frameFailed (s : State) : State :=
  let s1 := { s with link := { s.link with onBus := none, failed := s.link.failed + 1 } }
  if Config.failedLimit ≤ s1.link.failed then s1.loseLink else s1

/-! ### HEAD STATUS placement (R25, R142, R184) -/

/-- Places HEAD STATUS in its slot as the state stands; the saturation flags are then cleared, and the period restarts. -/
def State.placeStatus (s : State) : State :=
  { s with
    link := { s.link.markStale .headStatus with statusSlot := some ⟨headFrames s.statusPayload, 0⟩ }
    meas := { s.meas with satI := false, satU := false, satF := false }
    statusTimer := 0 }

end Sys2Proof.Machine
end

