-- ==== Sys2Proof/Machine/Operands.lean ====
section
/-! DEFINITION. Reading the operands of the commands: the messages of section 11.8, the PROGRAMME encoding of section
11.9, and the configuration image of R188. -/

namespace Sys2Proof.Machine

/-! ### DEMAND and RATING (R97, R99, R108, section 11.8) -/

/-- A load brought within 0..4,000 kW (R99, R108). -/
def clampLoad (n : Nat) : Nat := min n Config.loadLimit

/-- The station kind of a code; one that names no kind is AUXILIARY (R99). -/
def stationKindOf (code : Nat) : StationKind := if code = 0 then .head else .auxiliary

/-- The phase class of a code; one that names no class is STANDBY (R99). -/
def phaseClassOf : Nat → PhaseClass
  | 1 => .preheat
  | 2 => .flash
  | 3 => .boost
  | _ => .standby

/-- The rank class of an intent byte: absent for NONE, and 2 for a class above 2 (R99). -/
def rankOf : Nat → Option Nat
  | 0 => none
  | n + 1 => some (min n 2)

/-- The entry a DEMAND makes, with its values brought within the ranges of R97 (R98, R99). -/
def Peer.ofDemand (station : Nat) (data : List Byte) : Peer :=
  let kind := stationKindOf (natAt data 0 1 % 16)
  let present := clampLoad (natAt data 2 2)
  let rise := rankOf (natAt data 1 1)
  { station := station
    kind := kind
    phaseClass := phaseClassOf (natAt data 0 1 / 16)
    present := present
    claim := if rise.isSome then clampLoad (natAt data 4 2) else present
    rise := rise
    reduction :=
      match kind with
      | .head => min (clampLoad (natAt data 6 2 % 32768)) present
      | .auxiliary => 0
    yielded :=
      match kind with
      | .head => decide (32768 ≤ natAt data 6 2)
      | .auxiliary => false
    live := true
    silence := 0 }

/-- Enters a peer in its place in the station order, over the entry of the same station where there is one (R97, R98). -/
def insertPeer (p : Peer) : List Peer → List Peer
  | [] => [p]
  | q :: rest =>
    if p.station < q.station then p :: q :: rest
    else if p.station = q.station then p :: rest
    else q :: insertPeer p rest

/-- The generator state of a code; one that names none is STOPPING (R108). -/
def genStateOf : Nat → GenState
  | 0 => .running
  | 1 => .derated
  | _ => .stopping

/-! ### Requests and queries (section 11.8) -/

/-- A WELD REQUEST as received (R3). -/
structure Request where
  tag : Nat
  slot : Nat
  data : RequestData
deriving DecidableEq, Repr

/-- The WELD REQUEST of a payload; one shorter than its layout is none (log 12). -/
def Request.parse (payload : List Byte) : Option Request :=
  if payload.length < 13 then none
  else
    some
      { tag := natAt payload 0 2
        slot := natAt payload 2 1
        data := { tr := intAt payload 3 2, tn := intAt payload 5 2, l := natAt payload 7 2, g := intAt payload 9 4 } }

/-- The TRACE QUERY of a frame. The two upper bits of its byte 7 are read by nothing, and a block index above 575 is taken as
it stands: DESIGN CHOICE, unsafe (log 41). -/
def TraceQuery.parse (data : List Byte) : TraceQuery :=
  { serial := natAt data 1 4
    index := natAt data 5 2
    offset := natAt data 7 1 % 32
    follow := decide (natAt data 7 1 / 32 % 2 = 1) }

/-! ### PROGRAMME payloads (section 11.9) -/

/-- The record kind of a code. -/
def recKindOf : Nat → Option RecKind
  | 1 => some .clamp
  | 2 => some .pull
  | 3 => some .preheat
  | 4 => some .flash
  | 5 => some .boost
  | 6 => some .upset
  | 7 => some .hold
  | 8 => some .trim
  | 9 => some .release
  | _ => none

/-- The encoded length of a record, in bytes. -/
def RecKind.size : RecKind → Nat
  | .clamp => 3
  | .pull => 11
  | .preheat => 17
  | .flash => 31
  | .boost => 10
  | .upset => 13
  | .hold => 5
  | .trim => 3
  | .release => 3

/-- The fields of a record of a kind from its bytes, the kind code at offset 0 (R31 to R35). -/
def recBodyOf (b : List Byte) : RecKind → RecBody
  | .clamp => .clamp (natAt b 1 2)
  | .pull => .pull { speed := natAt b 1 2, forceLimit := natAt b 3 2, tolerance := natAt b 5 2, timeout := natAt b 7 4 }
  | .preheat =>
    .preheat
      { load := natAt b 1 2, step := natAt b 3 1, pulses := natAt b 4 1, onTime := natAt b 5 2, offTime := natAt b 7 2
        contactForce := natAt b 9 2, openDistance := natAt b 11 2, approach := natAt b 13 2
        pauseTolerance := natAt b 15 2 }
  | .flash =>
    .flash
      { load := natAt b 1 2, reducedLoad := natAt b 3 2, step := natAt b 5 1, reducedStep := natAt b 6 1
        va := natAt b 7 2, vb := natAt b 9 2, lf := natAt b 11 2, is := natAt b 13 2, isRed := natAt b 15 2
        k := natAt b 17 1, isc := natAt b 18 2, tsc := natAt b 20 1, dr := natAt b 21 2, vr := natAt b 23 2
        iOpen := natAt b 25 2, tOpen := natAt b 27 2, approach := natAt b 29 2 }
  | .boost =>
    .boost
      { load := natAt b 1 2, step := natAt b 3 1, speed := natAt b 4 2, length := natAt b 6 2, time := natAt b 8 2 }
  | .upset =>
    .upset
      { load := natAt b 1 2, speed := natAt b 3 2, fu := natAt b 5 2, tuc := natAt b 7 2, du := natAt b 9 2
        timeout := natAt b 11 2 }
  | .hold => .hold (natAt b 1 2) (natAt b 3 2)
  | .trim => .trim (natAt b 1 2)
  | .release => .release (natAt b 1 2)

/-- The records from byte 42 on: none where the payload ends inside a record; otherwise the records, and whether parsing
stopped at a kind code that names no kind. `fuel` bounds the number of records. -/
def parseRecords : Nat → List Byte → Option (List PhaseRec × Bool)
  | 0, _ => some ([], false)
  | fuel + 1, bytes =>
    if bytes.isEmpty then some ([], false)
    else
      match recKindOf (natAt bytes 0 1 % 128) with
      | none => some ([], true)
      | some k =>
        if bytes.length < k.size then none
        else
          (parseRecords fuel (bytes.drop k.size)).map fun r =>
            (⟨decide (128 ≤ natAt bytes 0 1), recBodyOf bytes k⟩ :: r.1, r.2)

/-- The windows at bytes 9 to 41. -/
def windowsOf (p : List Byte) : Windows :=
  { burnMin := natAt p 9 4, burnMax := natAt p 13 4, distanceMin := natAt p 17 2, forceMin := natAt p 19 2
    forceMax := natAt p 21 2, curTimeMin := natAt p 23 2, curTimeMax := natAt p 25 2, flashMin := natAt p 27 2
    flashMax := natAt p 29 2, energyMin := natAt p 31 4, energyMax := natAt p 35 4, maxShorts := natAt p 39 1
    maxOpen := natAt p 40 2 }

/-- The programme of a payload, with the records parsed from it. -/
def programmeOf (p : List Byte) (records : List PhaseRec) : Programme :=
  { number := natAt p 1 2, recordCount := natAt p 3 1, tAdmit := natAt p 4 1, tYieldMax := natAt p 5 1
    tMinrun := natAt p 6 1, overrun := natAt p 7 2, windows := windowsOf p, records := records }

/-! ### Received frames (R181) -/

/-- A frame as the CAN controller delivers it: whether its identifier has 29 bits, whether it is a remote frame, its
identifier and its data bytes. -/
structure BusFrame where
  extended : Bool
  remote : Bool
  ident : Nat
  data : List Byte
deriving DecidableEq, Repr

/-- The sender part of an identifier (R181). -/
def senderOf (ident : Nat) : Station := Fin.ofNat 16 ident

/-- The frame is ignored but for the duplicate-station check: a 29-bit identifier, a remote frame, an identifier above 223, or
a kind code 0 (R181). The kind codes 14 and 15 lie above 223. -/
def BusFrame.ignored (f : BusFrame) : Bool := f.extended || f.remote || decide (223 < f.ident) || decide (f.ident < 16)

/-- The command a received frame is to the head of station `own`: every frame of the own number is a duplicate (R187), an
ignored one is none, and a run of a head kind is not assembled (R181 to R183; logs 19 and 46). -/
def BusFrame.command (f : BusFrame) (own : Station) : Option Instr :=
  let n := senderOf f.ident
  let first := decide (192 ≤ natAt f.data 0 1)
  if n = own then some .duplicateStationFrame
  else if f.ignored then none
  else
    match f.ident / 16 with
    | 1 => some (.rating n f.data)
    | 2 => some (.demand n f.data)
    | 3 => some (.abort n f.data)
    | 4 => some (if first then .runFirstFrame n f.data else .runLaterFrame .weldRequest n f.data)
    | 5 => some (.clear n f.data)
    | 8 => some (if first then .programmeFirstFrame n f.data else .runLaterFrame .programme n f.data)
    | 9 => some (.captureClear n f.data)
    | 10 => some (.recordQuery n f.data)
    | 12 => some (.traceQuery n f.data)
    | _ => none

/-! ### The configuration image (R188) -/

/-- The bit rate in force once the Loader has finished, kbit/s: that of the image's code, and 250 in CONFIG FAULT (R181,
R188). -/
def bitRateInForce (report : Loader) (code : Nat) : Nat := if report = .good then 125 * 2 ^ code else 250

/-- The edge sense of a 2-bit code; 0 names none. -/
def senseOf : Nat → Option Sense
  | 1 => some .rising
  | 2 => some .falling
  | 3 => some .both
  | _ => none

/-- The 2-bit edge-sense code of an input. -/
def senseCode (b : List Byte) (i : Input) : Nat := natAt b 60 2 / 4 ^ inputBit i % 4

/-- The fields of an image (R188). -/
def imageOf (b : List Byte) : Image :=
  { bitRate := natAt b 1 1, generator := natAt b 2 1, standalone := decide (natAt b 3 1 = 1), reserve := natAt b 4 1
    standby := natAt b 5 2, fallback := natAt b 7 2, tPeer := natAt b 9 2, tLinger := natAt b 11 2
    fMax := natAt b 13 2, vMax := natAt b 15 2, vRetractMax := natAt b 17 2, stroke := natAt b 19 4
    travelReserve := natAt b 23 4, clearanceMin := natAt b 27 2, iContact := natAt b 29 2
    abortDistance := natAt b 31 2, rampTime := natAt b 33 2, creep := natAt b 35 2, fbTime := natAt b 37 2
    current := ⟨natAt b 39 2, natAt b 41 2⟩, voltage := ⟨natAt b 43 2, natAt b 45 2⟩
    force := ⟨natAt b 47 2, natAt b 49 2⟩, resolution := natAt b 51 1, refPosition := intAt b 52 4
    refTolerance := natAt b 56 2, assertedLow := inputsOfByte (BitVec.ofNat 8 (natAt b 58 1))
    filterTime := natAt b 59 1, senses := .build fun i => (senseOf (senseCode b i)).getD .both }

/-- A value lies in a range. -/
def within (low high n : Nat) : Bool := decide (low ≤ n) && decide (n ≤ high)

/-- Offset and scale of a channel lie in their ranges. -/
def Channel.inRange (c : Channel) : Bool := within 0 1023 c.offset && within 1 65535 c.scale

/-- Every field of an image lies in its range, and no edge-sense code is 0 (R188). -/
def imageInRange (b : List Byte) : Bool :=
  let m := imageOf b
  within 0 3 m.bitRate && within 0 15 m.generator && within 0 1 (natAt b 3 1) && within 0 50 m.reserve
    && within 0 4000 m.standby && within 0 4000 m.fallback && within 150 1000 m.tPeer && within 1000 10000 m.tLinger
    && within 1 4000 m.fMax && within 1 60000 m.vMax && within 1 60000 m.vRetractMax && within 0 2000000 m.stroke
    && within 0 2000000 m.travelReserve && within 0 20000 m.clearanceMin && within 1 6000 m.iContact
    && within 0 50000 m.abortDistance && within 100 10000 m.rampTime && within 100 2000 m.creep
    && within 20 500 m.fbTime && m.current.inRange && m.voltage.inRange && m.force.inRange
    && within 1 50 m.resolution && within 0 1000 m.refTolerance && within 2 20 m.filterTime
    && decide (m.filterTime % 2 = 0) && (allInputs.all fun i => (senseOf (senseCode b i)).isSome)

/-- The sum of bytes 0..61 modulo 65,536 (R188). -/
def imageSum (b : List Byte) : Nat := ((b.take 62).map BitVec.toNat).sum % 65536

/-- The Loader's report on the 64 bytes it read (R188). Where byte 0 is not 166 and the check word or a field is wrong too,
unreadable alone is reported: DESIGN CHOICE, unsafe (log 57). -/
def loaderReport (b : List Byte) : Loader :=
  if natAt b 0 1 ≠ 166 then .unreadable
  else if natAt b 62 2 ≠ imageSum b || !imageInRange b then .wrongSum
  else .good

/-- The station number of the straps tied to ground: their weights' sum (R188). -/
def stationOf (grounded : BitVec 4) : Station := grounded.toFin

end Sys2Proof.Machine
end

