-- ==== Sys2Proof/Machine/Flags.lean ====
section
/-! DEFINITION. What the Measurement Unit computes and flags: channel values and saturation, input filters, capture
flags, quadrature errors, and the conditions of the stop-class causes (R141 to R156). -/

namespace Sys2Proof.Machine

/-! ### Channels (R141, R142) -/

/-- The scaled value of a raw reading before it is held at the full scale; a negative result is 0 (R141). -/
def Channel.value (c : Channel) (raw : BitVec 12) : Nat := (raw.toNat - c.offset) * c.scale / 4000

/-- The mean of the ten scaled and held values of a channel (R141). -/
def Channel.mean (c : Channel) (full : Nat) (raws : Vector (BitVec 12) 10) : Nat :=
  ((raws.toList.map fun r => min (c.value r) full).sum) / 10

/-- At least one of the ten readings is saturated (R142). -/
def Channel.saturated (c : Channel) (full : Nat) (raws : Vector (BitVec 12) 10) : Bool :=
  raws.toList.any fun r => decide (full < c.value r)

/-- The interval's means and saturation flags; without a good image the means are 0 and the flags are left as they are
(R141, R142, R156; log 11). -/
def State.takeReadings (s : State) (r : Readings) : State :=
  if s.loader = .good then
    { s with meas :=
      { s.meas with
        im := s.image.current.mean Config.fullScaleI r.current
        um := s.image.voltage.mean Config.fullScaleU r.voltage
        fm := s.image.force.mean Config.fullScaleF r.force
        satI := s.meas.satI || s.image.current.saturated Config.fullScaleI r.current
        satU := s.meas.satU || s.image.voltage.saturated Config.fullScaleU r.voltage
        satF := s.meas.satF || s.image.force.saturated Config.fullScaleF r.force } }
  else { s with meas := { s.meas with im := 0, um := 0, fm := 0 } }

/-! ### Inputs (R150, R151, R156) -/

/-- The filter time in ms: the image's, or 6 ms in CONFIG FAULT (R150, R156). -/
def State.filterMs (s : State) : Nat := if s.loader = .good then s.image.filterTime else 6

/-- The samples that cover the filter time (R150). -/
def State.filterSamples (s : State) : Nat := s.filterMs / Config.intervalMs

/-- The sampled state of an input: its line by the configured polarity, asserted-high in CONFIG FAULT (R150, R156). -/
def State.sampledState (s : State) (pins : Byte) (i : Input) : Bool :=
  pins.getLsbD (inputBit i) != (decide (s.loader = .good) && s.image.assertedLow.get i)

/-- A filter after one more sample: the run of equal samples goes on or starts at 1; ten samples cover every filter time. -/
def InputFilter.sampled (f : InputFilter) (x : Bool) : InputFilter :=
  if f.run = 0 ∨ f.sample ≠ x then { f with sample := x, run := 1 } else { f with run := min (f.run + 1) 10 }

/-- All eight inputs are sampled (R150); before the Loader has finished nothing is (log 11). -/
def State.sampleInputs (s : State) (pins : Byte) : State :=
  if s.loader.finished then
    { s with meas := { s.meas with inputs := .build fun i => (s.meas.inputs.get i).sampled (s.sampledState pins i) } }
  else s

/-- The filter accepts a level: the run covers the filter time, and the level is not established or differs (R150). -/
def State.inputDue (s : State) (i : Input) : Bool :=
  let f := s.meas.inputs.get i
  s.loader.finished && decide (1 ≤ f.run) && decide (s.filterSamples ≤ f.run)
    && (!f.established || (f.sample != f.level))

/-- The level of an input as the interval just sampled leaves it: a change that the filter accepts in this interval counts
already (R150). -/
def State.levelNow (s : State) (i : Input) : Bool :=
  if s.inputDue i then (s.meas.inputs.get i).sample else s.level i

/-- CLAMP_F and CLAMP_M stand asserted together, and neither is deasserted in the interval just sampled (R44). -/
def State.clampsClosed (s : State) : Bool := s.bothClosed && s.levelNow .clampF && s.levelNow .clampM

/-- CLAMP_F and CLAMP_M stand deasserted together, and neither is asserted in the interval just sampled (R55, R56). -/
def State.clampsOpen (s : State) : Bool := s.bothOpen && !s.levelNow .clampF && !s.levelNow .clampM

/-- The edge sense in force: the image's, BOTH in CONFIG FAULT (R151, R156). -/
def State.senseInForce (s : State) (i : Input) : Sense := if s.loader = .good then s.image.senses.get i else .both

/-- A change to this level matches the sense (R151). -/
def Sense.hits (x : Sense) (level : Bool) : Bool :=
  match x with
  | .rising => level
  | .falling => !level
  | .both => true

/-- The filter accepts the new level; a change of an established level that matches the sense sets the capture flag
(R150, R151). -/
def State.acceptLevel (s : State) (i : Input) : State :=
  let f := s.meas.inputs.get i
  let captured := s.meas.capture.get i || (f.established && (s.senseInForce i).hits f.sample)
  { s with meas :=
    { s.meas with
      inputs := s.meas.inputs.set i { f with established := true, level := f.sample }
      capture := s.meas.capture.set i captured } }

/-! ### Position (R145 to R147) -/

/-- The position lies in the signed 32-bit range (R140). -/
def inRange32 (z : Int) : Bool := decide (-2147483648 ≤ z) && decide (z ≤ 2147483647)

/-- A quadrature error: the homed flag clears, and POSITION is reported where no position error stood (R147). -/
def State.quadratureError (s : State) : State :=
  let s1 := { s with meas := { s.meas with homed := false, positionError := true } }
  if s.meas.positionError then s1 else s1.stopCause .position

/-- One encoder edge (R145, R147). -/
def State.countEdge (s : State) (toward : Bool) : State :=
  let p := if toward then s.meas.position + s.image.resolution else s.meas.position - s.image.resolution
  if inRange32 p then { s with meas := { s.meas with position := p } }
  else State.quadratureError { s with meas := { s.meas with position := if toward then 2147483647 else -2147483648 } }

/-- The reference mark passes (R146). A homing lies in the 10 ms sample in progress, which is the next one where a complete
sample still stands to be taken (R144). -/
def State.passMark (s : State) : State :=
  if s.meas.homed then
    if s.image.refTolerance < (s.meas.position - s.image.refPosition).natAbs then s.quadratureError else s
  else
    { s with meas :=
      { s.meas with
        position := s.image.refPosition
        homed := true
        positionError := false
        homedInSample := s.meas.homedInSample || decide (s.meas.sampleIntervals < 5)
        homedNext := s.meas.homedNext || decide (5 ≤ s.meas.sampleIntervals) } }

/-! ### Stop-class conditions (R12, R153) -/

/-- F_max × 105 / 10, in 0.1 kN (R12). -/
def State.forceOverLimit (s : State) : Nat := s.image.fMax * 105 / 10

/-- The measured force stands above the FORCE OVER threshold (R12, R3). -/
def State.forceOver (s : State) : Bool := decide (s.forceOverLimit < s.meas.fm)

/-- The condition of CLAMP LOST, by whether both clamp inputs stand asserted (R153). -/
def State.clampLost (s : State) (closed : Bool) : Bool :=
  (s.ctx.elim false fun c => c.clampDone && !c.releasingEntered) && !closed

/-- One condition: what stands now is kept, and an onset is reported to the Sequencer (R12, R153). -/
def State.testCondition (s : State) (now before : Bool) (x : StopCause) : State :=
  if now && !before then s.stopCause x else s

/-- The test of EMERGENCY (R153). -/
def State.testEmergency (s : State) : State :=
  State.testCondition { s with meas := { s.meas with condEmergency := s.level .emergency } } (s.level .emergency)
    s.meas.condEmergency .emergency

/-- The test of TRAIN MOVING (R153). -/
def State.testTrain (s : State) : State :=
  State.testCondition { s with meas := { s.meas with condTrain := s.level .trainMove } } (s.level .trainMove)
    s.meas.condTrain .trainMoving

/-- The test of CLAMP LOST, by whether both clamp inputs stand asserted (R153). -/
def State.testClamp (s : State) (closed : Bool) : State :=
  State.testCondition { s with meas := { s.meas with condClamp := s.clampLost closed } } (s.clampLost closed)
    s.meas.condClamp .clampLost

/-- The test of FORCE OVER (R153). -/
def State.testForce (s : State) : State :=
  State.testCondition { s with meas := { s.meas with condForce := s.forceOver } } s.forceOver s.meas.condForce .forceOver

/-- The condition tests of an interval, in the order of R12's table (R153; log 21); none in CONFIG FAULT (R156). -/
def State.testConditions (s : State) : State :=
  if s.engine = .configFault then s else ((s.testEmergency.testClamp s.bothClosed).testTrain).testForce

/-! ### Contactor feedback (R154) -/

/-- The contactor command and CONT_FB agree (R154). -/
def State.contactorAgrees (s : State) : Bool := s.out.contactor == s.levelNow .contFb

/-- The comparison of an interval, after its inputs are sampled: the timer adds 2 ms or returns to 0 (R154); none in CONFIG
FAULT (R156). A command that the evaluation of this interval gives counts from the next one: DEDUCED, unsafe (log 54). -/
def State.compareContactor (s : State) : State :=
  if s.engine = .configFault then s
  else if s.contactorAgrees then { s with meas := { s.meas with fbTimer := 0, fbReported := false } }
  else { s with meas := { s.meas with fbTimer := s.meas.fbTimer + Config.intervalMs } }

/-- The timer exceeds the feedback time and has not been reported since it did (R154). -/
def State.contactorDue (s : State) : Bool :=
  decide (s.engine ≠ .configFault) && decide (s.image.fbTime < s.meas.fbTimer) && !s.meas.fbReported

/-- The stop-class cause CONTACTOR (R154). -/
def State.contactorFault (s : State) : State :=
  State.stopCause { s with meas := { s.meas with fbReported := true } } .contactor

end Sys2Proof.Machine
end

