-- ==== Sys2Proof/Machine/Regulation.lean ====
section
/-! DEFINITION. What the phase units do with one completed regulation interval (R49, R50, R54, R59 to R82, R87, R89). -/

namespace Sys2Proof.Machine

/-! ### Energy and the power window (R76, R82) -/

/-- The sums of step 1 of R59: from the first interval with the contactor command CLOSED until they stop, the energy
accumulator and the power window add U_m × I_m. A close undone before an interval completes starts neither: DESIGN CHOICE,
unsafe (log 51). -/
def State.addPower (s : State) : State :=
  s.onCtx fun c =>
    let on := c.energyOn || s.out.contactor
    let ui := s.meas.um * s.meas.im
    if on && !c.energyStopped then
      { c with
        energyOn := true
        eRaw := min (c.eRaw + ui) Config.energyMax
        winSum := c.winSum + ui
        winCount := c.winCount + 1 }
    else { c with energyOn := on }

/-- The setpoint base: I_s, or I_s_red while yielded (R70). -/
def FlashRec.base (r : FlashRec) (yielded : Bool) : Nat := if yielded then r.isRed else r.is

/-- The power window holds 50 intervals (R76). -/
def State.windowDue (s : State) : Bool := s.ctx.elim false fun c => decide (50 ≤ c.winCount)

/-- The guard setpoint of a window: present where P_meas is above 110 % of the declared load D (R77). -/
def guardSetpoint (base d pMeas : Nat) : Option Nat :=
  if d * 110 / 100 < pMeas then some (max (base * d / pMeas) (base / 2)) else none

/-- A power window is complete: P_meas, and in FLASH outside an abort retract the demand guard (R76, R77). -/
def State.takeWindow (s : State) : State :=
  let d := s.presentLoad
  s.onCtx fun c =>
    let p := c.winSum / 500000
    let c1 := { c with pMeas := p, winSum := 0, winCount := 0 }
    match c.flash? with
    | none => c1
    | some r =>
      if c.aborting || decide (s.engine ≠ .flash) then c1
      else
        let g := guardSetpoint (r.base s.yielded) d p
        { c1 with guard := g, guardCount := if g.isSome then countUp c.guardCount else c.guardCount }

/-- Step 1 of R59, with the power window that the interval completes and its demand guard (R76, R77; log 45). -/
def State.countPower (s : State) : State := if s.addPower.windowDue then s.addPower.takeWindow else s.addPower

/-! ### Burn-off (R68, R69) -/

/-- Step 2 of R59: from the interval after CONTACT the burn-off takes p − p_c where that exceeds it. -/
def State.updateBurnOff (s : State) : State :=
  s.onCtx fun c =>
    match c.contactPos with
    | none => c
    | some pc => { c with burnOff := max c.burnOff (s.meas.intervalPos - pc) }

/-- The cumulative target of the record in force (R69). -/
def WeldCtx.target (c : WeldCtx) : Nat := c.prog.lfSum c.nextIndex

/-- b_k, the burn-off within the FLASH record at index `i`, capped at its L_f for the speed law (R69). -/
def WeldCtx.within (c : WeldCtx) (i lf : Nat) : Nat := min (c.burnOff - (c.prog.lfSum i : Int)).toNat lf

/-! ### The speed law (R70, R71) -/

/-- v_p of a record at a within-record burn-off (R70). -/
def FlashRec.programmedSpeed (r : FlashRec) (bk : Nat) : Int := r.va + (((r.vb : Int) - r.va) * bk).tdiv r.lf

/-- The correction c = K × (I_e − I_m) / 10, truncated toward zero (R71). -/
def FlashRec.correction (r : FlashRec) (ie im : Nat) : Int := ((r.k : Int) * ((ie : Int) - im)).tdiv 10

/-- v = v_p + c clamped to 0..v_max (R71). -/
def FlashRec.speed (r : FlashRec) (bk ie im vMax : Nat) : Int :=
  max 0 (min (vMax : Int) (r.programmedSpeed bk + r.correction ie im))

/-- The speed law for the state, by the FLASH record `r` at index `i` (R70, R71). -/
def State.lawSpeed (s : State) (c : WeldCtx) (i : Nat) (r : FlashRec) : Int :=
  r.speed (c.within i r.lf) (c.guard.getD (r.base s.yielded)) s.meas.im s.image.vMax

/-! ### FLASH (R67, R69, R72 to R75, R78, R79) -/

/-- The burn-off that the exit criterion reads: in RETRACTING the one at the onset, since a first crossing in RETRACTING does
not meet it (R69, R73; log 17). -/
def State.exitBurn (s : State) (c : WeldCtx) : Int :=
  match s.mode, c.retract with
  | .retracting, some k => k.burnOff
  | _, _ => c.burnOff

/-- Step 3 of R59 in FLASH: the exit criterion is tested while it has not been met (R69). -/
def State.testFlashExit (s : State) : State :=
  match s.ctx with
  | none => s
  | some c => if !c.exitMet && decide ((c.target : Int) ≤ s.exitBurn c) then s.flashExit else s

/-- The burn-off stands past the cumulative target by more than the overrun allowance (R78). -/
def WeldCtx.overrun (c : WeldCtx) : Bool := decide (((c.target + c.prog.overrun : Nat) : Int) < c.burnOff)

/-- Steps 3 and 4 of R59 in FLASH: while a rise out of the record already waits the overrun allowance is tested, otherwise
the exit criterion (R69, R78). -/
def State.testFlash (s : State) : State :=
  match s.ctx with
  | none => s
  | some c =>
    if s.awaiting && c.exitMet then (if c.overrun then s.endCause .admitLost none else s) else s.testFlashExit

/-- CONTACT: p_c is the position of the interval (R67). -/
def State.takeContact (s : State) : State :=
  (s.latch .contact s.meas.intervalPos).onCtx fun c =>
    { c with contactPending := false, contactPos := some s.meas.intervalPos }

/-- The short and open tests of an interval in REGULATING by the record in force: the runs, whether the interval is a short
onset, with the retraction from its position, and whether the open run has reached t_open (R72, R74). -/
def WeldCtx.runs (c : WeldCtx) (r : FlashRec) (im : Nat) (p : Int) : WeldCtx :=
  { c with
    shortRun := if r.isc ≤ im then c.shortRun + Config.intervalMs else 0
    openRun := if im < r.iOpen then c.openRun + Config.intervalMs else 0
    onset := if r.isc ≤ im ∧ r.tsc ≤ c.shortRun + Config.intervalMs then some ⟨p - r.dr, r.vr, c.burnOff⟩ else none
    openMet := decide (im < r.iOpen) && decide (r.tOpen ≤ c.openRun + Config.intervalMs) }

/-- An interval evaluated in OPEN counts in the episode where its current stands below I_open of the record (R75). -/
def State.countOpen (s : State) (r : FlashRec) : State :=
  if s.mode = .openGap ∧ s.meas.im < r.iOpen then s.onCtx fun c => { c with openRun := c.openRun + Config.intervalMs } else s

/-- The end of an OPEN episode by the return of current (R74, R75). -/
def State.closeGap (s : State) : State :=
  { s.closeEpisode.onCtx WeldCtx.restartRuns with mode := .regulating }

/-- The end of a short retraction: REGULATING, the runs from 0; a move that waited for it is made. The velocity command
stays −v_r for this interval, since the law applies from the next (R73, R79; log 15). -/
def State.endRetraction (s : State) : State :=
  let s1 := { s.onCtx fun c => { c.restartRuns with retract := none } with mode := .regulating }
  if (s.ctx.elim false fun c => c.moveDue) then s1.makeMove else s1

/-- Steps 5 and 6 of R59 in FLASH. Step 5 tests by the record that step 3 left in force, `now`; the speed law of step 6
is that of the record `r` at index `i` in force when the evaluation began, since a record moved to in step 3 has its law
from the next interval (R67, R70 to R75, R79; log 16). The interval that latches CONTACT still commands the approach speed:
DEDUCED, unsafe (log 55). -/
def State.regulateFlash (s : State) (i : Nat) (r now : FlashRec) : State :=
  match s.ctx with
  | none => s
  | some c =>
    if c.contactPending then (if s.image.iContact ≤ s.meas.im then s.takeContact else s).setVelocity r.approach
    else
      match s.mode with
      | .regulating => (s.setVelocity (s.lawSpeed c i r)).onCtx fun c => c.runs now s.meas.im s.meas.intervalPos
      | .retracting =>
        match c.retract with
        | none => s
        | some k =>
          let s1 := s.setVelocity (-(k.speed : Int))
          if s1.meas.intervalPos ≤ k.target then s1.endRetraction else s1
      | .openGap =>
        if now.iOpen ≤ s.meas.im then s.closeGap.setVelocity (s.lawSpeed c i r)
        else (s.countOpen now).setVelocity s.image.vMax
      | .idle => s

/-- Whether FLASH still regulates after steps 3 and 4: no move to another state and no abort retract. -/
def State.stillFlash (s : State) : Bool := decide (s.engine = .flash) && !s.aborting

/-- An interval in FLASH (R59). Where steps 3 and 4 leave FLASH it is still counted in an OPEN episode, as the last interval
evaluated in FLASH (R75). -/
def State.evalFlash (s : State) : State :=
  match s.ctx.bind WeldCtx.flash? with
  | none => s
  | some r =>
    let i := (s.ctx.bind fun c => c.phase).getD 0
    let s1 := s.testFlash
    if s1.stillFlash then s1.regulateFlash i r ((s1.ctx.bind WeldCtx.flash?).getD r) else (s.countOpen r).testFlash

/-! ### The abort retract (R18, R83) -/

/-- An interval of the abort retract: it ends at its target; the still time is kept (R18, R58). -/
def State.evalAbort (s : State) (target : Int) : State :=
  if s.meas.intervalPos ≤ target then s.enterReleasing
  else
    (s.setVelocity (-(s.image.vRetractMax : Int))).onCtx fun c =>
      { c with abortStill := if s.meas.velocity.natAbs ≤ 100 then c.abortStill + Config.intervalMs else 0 }

/-! ### PREHEAT (R62 to R64) -/

/-- An interval in PREHEAT: the sub-state timer, contact in APPROACH, and the draw-back in PULSE OFF (R62 to R64). -/
def State.evalPreheat (s : State) : State :=
  match s.ctx with
  | none => s
  | some c =>
    match c.preheat? with
    | none => s
    | some r =>
      let s1 := s.onCtx fun c => { c with subTimer := c.subTimer + Config.intervalMs }
      match c.sub with
      | some .approach =>
        State.setVelocity
          (if s.image.iContact ≤ s.meas.im then s1.onCtx fun c => { c with sub := some .pulseOn, subTimer := 0 } else s1)
          r.approach
      | some .pulseOn => s1.setVelocity r.approach
      | some .pulseOff =>
        match c.drawTarget with
        | none => s1.setVelocity 0
        | some t =>
          if s.meas.intervalPos ≤ t then (s1.onCtx fun c => { c with drawTarget := none }).setVelocity 0
          else s1.setVelocity (-(s.image.vRetractMax : Int))
      | none => s1

/-! ### BOOST, UPSET, PULL, RELEASE (R50, R54, R81, R87, R89) -/

/-- An interval in BOOST: the boost length (R81). -/
def State.evalBoost (s : State) : State :=
  match s.ctx with
  | none => s
  | some c =>
    match c.boost? with
    | none => s
    | some r => if (r.length : Int) ≤ c.burnOff - c.boostEntry.getD 0 then s.endBoost else s

/-- The stall condition of PULL and UPSET: force at or above 98 % of the limit, and velocity below +100 µm/s (R50, R87). -/
def State.stalls (s : State) (limit : Nat) : Bool := decide (limit * 98 / 10 ≤ s.meas.fm) && decide (s.meas.velocity < 100)

/-- An interval in UPSET: peak force, stall timer, and the distance (R87, R89). -/
def State.evalUpset (s : State) : State :=
  match s.ctx.bind WeldCtx.upset? with
  | none => s
  | some r =>
    let s1 := { s.onCtx fun c => { c with peak := some (max (c.peak.getD 0) s.meas.fm) } with
      upset := { s.upset with stall := if s.stalls r.fu then s.upset.stall + Config.intervalMs else 0 } }
    if (s1.ctx.elim false fun c => decide (r.du ≤ c.upsetAdvance s1.meas.intervalPos)) then s1.endUpset else s1

/-- An interval in PULL: stall timer and exit criterion (R49, R50). -/
def State.evalPull (s : State) : State :=
  match s.ctx.bind WeldCtx.pull? with
  | none => s
  | some r =>
    let s1 := { s with stress :=
      { s.stress with pullStall := if s.stalls r.forceLimit then s.stress.pullStall + Config.intervalMs else 0 } }
    if (s1.ctx.elim false fun c => decide (c.pReq ≤ c.pulled s1.meas.position)) then s1.endPull else s1

/-- The ramp command F0 × (T_ramp − t) / T_ramp, truncated (R54). -/
def rampForce (f0 ramp t : Nat) : Nat := f0 * (ramp - t) / ramp

/-- An interval in RELEASING: the ramp while RAMPING (R54). -/
def State.evalRelease (s : State) : State :=
  if s.stress.release = some .ramping then
    s.setForce (rampForce (s.stress.rampStart.getD 0) s.image.rampTime s.stress.releaseTimer.ms)
  else s

/-! ### The evaluation of an interval -/

/-- An interval in PREHEAT or FLASH: steps 1 and 2, then the abort retract or the record (R59). -/
def State.evalCurrent (s : State) : State :=
  let s1 := s.countPower.updateBurnOff
  match s1.ctx.bind fun c => c.abortTarget with
  | some t => s1.evalAbort t
  | none => if s1.engine = .preheat then s1.evalPreheat else s1.evalFlash

/-- The phase unit in force takes the completed interval (R143). -/
def State.evalUnits (s : State) : State :=
  match s.engine with
  | .pulling => s.evalPull
  | .preheat | .flash => s.evalCurrent
  | .boost => s.countPower.updateBurnOff.evalBoost
  | .upset => s.countPower.evalUpset
  | .releasing => s.evalRelease
  | .starting | .configFault | .ready | .clamping | .admitting | .hold | .trim | .faultHold => s

end Sys2Proof.Machine
end

