-- ==== Sys2Proof/Machine/Timed.lean ====
section
/-! DEFINITION. The timed events: when each is due by the timers State holds, and what it does. An event that is not due is
no event and leaves the state as it is (log 4). -/

namespace Sys2Proof.Machine

/-- An event: where it is due it acts, and a changed declaration is placed at once (R107). -/
def State.event (s : State) (due : Bool) (act : State → State) : State := if due then (act s).declare else s

/-- A field of the record in force, by its kind. -/
def State.recordHas (s : State) (f : RecBody → Option Nat) (test : Nat → Bool) : Bool :=
  ((s.ctx.bind WeldCtx.body).bind f).elim false test

/-- The phase timer (R2). -/
def State.phaseTimer (s : State) : Nat := (s.ctx.map fun c => c.phaseTimer).getD 0

/-! ### Samples -/

/-- The velocity at the end of a 10 ms sample; a sample with a homing in it, and the first one, leave it (R144). -/
def Meas.nextVelocity (m : Meas) : Int :=
  if m.homedInSample then m.velocity
  else
    match m.prevSample with
    | none => m.velocity
    | some p => (m.intervalPos - p) * 100

/-- Five intervals have been completed since the last sample (R143). -/
def State.sampleDue (s : State) : Bool := decide (5 ≤ s.meas.sampleIntervals)

/-- A 10 ms sample ends: velocity, and the sample handed to the Trace Store, every tenth as a 100 ms sample (R143,
R144). A homing that came after its fifth interval lies in the sample that follows. -/
def State.takeSample (s : State) : State :=
  let m := s.meas
  State.handSample
    { s with meas :=
      { m with
        velocity := m.nextVelocity
        prevSample := some m.intervalPos
        homedInSample := m.homedNext
        homedNext := false
        sumI := 0
        sumU := 0
        sumF := 0
        sampleIntervals := 0
        sampleNo := (m.sampleNo + 1) % 10 } }
    m.intervalPos (m.sumI / 5) (m.sumU / 5) (m.sumF / 5) (decide (m.sampleNo = 9))

/-! ### Inputs (R150) -/

/-- The Upset Unit's answer to a shear input: the end of the cut, or the return home (R93, R94). -/
def State.shearMoved (s : State) : State :=
  if s.engine = .trim then
    match s.upset.shear with
    | some .advancing => if s.level .shearEnd then s.enterReturning else s
    | some .returning => if s.level .shearHome then s.endTrim else s
    | _ => s
  else s

/-- The Stress Unit's answer to a clamp input: the CLAMP exit, or the end of OPENING and WAITING (R44, R55, R56). Both clamps
are read as the interval that brought the change leaves them. -/
def State.clampMoved (s : State) : State :=
  match s.engine with
  | .clamping => if s.clampsClosed then s.clampExit else s
  | .releasing =>
    match s.stress.release with
    | some .opening | some .waiting => if s.clampsOpen then s.completeRelease else s
    | _ => s
  | _ => s

/-- The deassertion of CONT_FB ends the stuck-contactor hold (R104, R154). -/
def State.feedbackMoved (s : State) : State :=
  if s.level .contFb then s else { s with share := { s.share with hold := none } }

/-- The test of CLAMP LOST at a change of a clamp input, on the levels of both in the interval that brought it, whichever of
two changes is taken first (R153). -/
def State.testClampNow (s : State) : State := s.testClamp (s.levelNow .clampF && s.levelNow .clampM)

/-- A level change is taken by each block that reads the input; the stop-class tests come first (R150, R153). -/
def State.inputMoved (s : State) (i : Input) : State :=
  if s.engine = .configFault then s
  else
    match i with
    | .emergency => s.testEmergency
    | .trainMove => s.testTrain
    | .clampF => s.testClampNow.clampMoved
    | .clampM => s.testClampNow.clampMoved
    | .shearHome => s.shearMoved
    | .shearEnd => s.shearMoved
    | .contFb => s.feedbackMoved
    | .pressOk => s

/-- The filter accepts an input's level, and the blocks take it (R150 to R153), after the phase units have evaluated the
interval of its last sample: DESIGN CHOICE, unsafe (log 53). Of two clamp inputs accepted in one interval both are read as
that interval leaves them; any other level not yet taken still reads as before: DESIGN CHOICE, unsafe (log 56). -/
def State.takeLevel (s : State) (i : Input) : State := (s.acceptLevel i).inputMoved i

/-! ### Stress Unit -/

/-- The clamp-phase timer has reached the clamp timeout (R45). -/
def State.clampTimeoutDue (s : State) : Bool :=
  decide (s.engine = .clamping) && s.recordHas (fun b => match b with | .clamp t => some t | _ => none)
    fun t => decide (t ≤ s.stress.clampTimer.ms)

/-- CLAMP TIMEOUT (R45). -/
def State.clampTimedOut (s : State) : State :=
  State.endCause { s with stress := { s.stress with clampTimer := s.stress.clampTimer.stop } } .clampTimeout none

/-- The pull stall timer has reached 500 ms (R50). -/
def State.pullStallDue (s : State) : Bool := decide (s.engine = .pulling) && decide (Config.pullStallMs ≤ s.stress.pullStall)

/-- The phase timer has reached the pull timeout (R50). -/
def State.pullTimeoutDue (s : State) : Bool :=
  decide (s.engine = .pulling) && s.recordHas (fun b => b.asPull.map PullRec.timeout) fun t => decide (t ≤ s.phaseTimer)

/-- The release ramp has run (R54). -/
def State.rampEndDue (s : State) : Bool :=
  decide (s.engine = .releasing) && decide (s.stress.release = some .ramping)
    && decide (s.image.rampTime ≤ s.stress.releaseTimer.ms)

/-- The ramp ends: the command is 0 and OPENING is entered (R54, R55). -/
def State.rampEnds (s : State) : State := (s.setForce 0).enterOpening

/-- The clamp-open timeout has run in OPENING (R56). -/
def State.clampOpenDue (s : State) : Bool :=
  decide (s.engine = .releasing) && decide (s.stress.release = some .opening)
    && s.recordHas (fun b => match b with | .release t => some t | _ => none) fun t => decide (t ≤ s.stress.releaseTimer.ms)

/-! ### Flash Regulator -/

/-- The PREHEAT record in force outside an abort retract, in this sub-state, with the sub-state timer at a bound. -/
def State.pulseDue (s : State) (sub : SubState) (bound : PreheatRec → Nat) : Bool :=
  decide (s.engine = .preheat)
    && s.ctx.elim false fun c =>
      !c.aborting && decide (c.sub = some sub) && (c.preheat?.elim false fun r => decide (bound r ≤ c.subTimer))

/-- PULSE ON has run its on time (R64). -/
def State.pulseOnDue (s : State) : Bool := s.pulseDue .pulseOn PreheatRec.onTime

/-- The pulse is complete: counted, or extra once the exit criterion is met (R64). -/
def State.pulseOnEnds (s : State) : State :=
  (s.onCtx fun c =>
    if c.exitMet then { c with extra := countUp c.extra } else { c with counted := c.counted + 1 }).enterPulseOff

/-- A short onset is due: in REGULATING the interval evaluated last was one (R72). -/
def State.shortDue (s : State) : Bool :=
  s.stillFlash && decide (s.mode = .regulating)
    && s.ctx.elim false fun c => !c.contactPending && c.onset.isSome

/-- The short onset: counted, latched, and the retraction of its interval begun, by the record in force then (R72, R73). -/
def State.shortBegins (s : State) : State :=
  match s.ctx.bind WeldCtx.onset with
  | none => s
  | some k =>
    State.setVelocity
      { (s.latch .short s.meas.intervalPos).onCtx fun c =>
          { c.restartRuns with shortCount := countUp c.shortCount, retract := some k } with
        mode := .retracting }
      (-(k.speed : Int))

/-- An open circuit is due: in REGULATING the open run reached t_open in the interval evaluated last (R74). -/
def State.openDue (s : State) : Bool :=
  s.stillFlash && decide (s.mode = .regulating)
    && s.ctx.elim false fun c => !c.contactPending && c.openMet

/-- Mode OPEN is entered at v_max, the run kept as the start of the episode (R74). -/
def State.openBegins (s : State) : State :=
  { s.onCtx fun c => { c with openMet := false } with mode := .openGap }.setVelocity s.image.vMax

/-- The abort retract has stood still for 500 ms (R18). -/
def State.abortStillDue (s : State) : Bool :=
  (decide (s.engine = .preheat) || decide (s.engine = .flash))
    && s.ctx.elim false fun c => c.aborting && decide (Config.abortStillMs ≤ c.abortStill)

/-- The phase timer has reached the boost time (R81). -/
def State.boostTimeDue (s : State) : Bool :=
  decide (s.engine = .boost) && s.recordHas (fun b => b.asBoost.map BoostRec.time) fun t => decide (t ≤ s.phaseTimer)

/-! ### Upset Unit -/

/-- The upset-current timer has reached t_uc before CURRENT OFF (R86). -/
def State.currentOffDue (s : State) : Bool :=
  decide (s.engine = .upset) && (s.ctx.elim false fun c => c.curTime.isNone)
    && s.recordHas (fun b => b.asUpset.map UpsetRec.tuc) fun t => decide (t ≤ s.upset.currentTimer.ms)

/-- The upset stall timer has reached 200 ms (R87). -/
def State.upsetStallDue (s : State) : Bool := decide (s.engine = .upset) && decide (Config.upsetStallMs ≤ s.upset.stall)

/-- The phase timer has reached the upset timeout (R87). -/
def State.upsetTimeoutDue (s : State) : Bool :=
  decide (s.engine = .upset) && s.recordHas (fun b => b.asUpset.map UpsetRec.timeout) fun t => decide (t ≤ s.phaseTimer)

/-- The phase timer has reached the hold time (R91). -/
def State.holdEndDue (s : State) : Bool :=
  decide (s.engine = .hold)
    && s.recordHas (fun b => match b with | .hold _ t => some t | _ => none) fun t => decide (t * 1000 ≤ s.phaseTimer)

/-- The shear timer has reached the shear timeout in this shear step (R93, R94). -/
def State.shearDue (s : State) (step : ShearStep) : Bool :=
  decide (s.engine = .trim) && decide (s.upset.shear = some step)
    && s.recordHas (fun b => match b with | .trim t => some t | _ => none) fun t => decide (t ≤ s.upset.shearTimer)

/-- The shear has not moved in time: TRIM FAIL and NOTICE FAULT SHEAR TIMEOUT (R93, R94). -/
def State.shearFails (s : State) : State := (s.onCtx fun c => c.addReason .trimFail).noticeFault .shearTimeout none

/-! ### Load Share Unit -/

/-- The settle timer has reached 120 ms in SETTLING (R118). -/
def State.settleDue (s : State) : Bool :=
  decide (s.share.rise.state = .settling) && decide (Config.settleMs ≤ s.share.rise.settle.ms)

/-- The settle expiry: the rise is admitted or waits (R118). -/
def State.settleExpires (s : State) : State :=
  match s.share.rise.ask with
  | none => s
  | some a =>
    let s1 := { s with share := { s.share with rise :=
      { s.share.rise with state := .waiting, settle := s.share.rise.settle.stop } } }
    if s1.admissionMet a.claim a.cls then s1.admitRise a else s1

/-- The admission-wait timer of a Sequencer's rise has reached T_admit (R121). -/
def State.admitTimeoutDue (s : State) : Bool :=
  s.share.rise.admitWait.running && decide (s.share.rise.state ≠ .none)
    && s.ctx.elim false fun c => decide (c.prog.tAdmit * 1000 ≤ s.share.rise.admitWait.ms)

/-- T_admit expires: the rise ends, DEMAND is placed, and ADMIT TIMEOUT is reported (R121). -/
def State.admitTimedOut (s : State) : State :=
  (State.placeDemand { s with share := { s.share with rise := s.share.rise.ended } }).endCause .admitTimeout none

/-- An entry of the table is due to lapse (R100). -/
def State.lapseDue (s : State) (station : Nat) : Bool :=
  s.share.peers.any fun p => decide (p.station = station) && p.live && decide (s.image.tPeer ≤ p.silence)

/-- The lapse of an entry, which keeps its other fields (R100). -/
def State.lapse (s : State) (station : Nat) : State :=
  s.withPeers (s.share.peers.map fun p => if p.station = station then { p with live := false } else p)

/-- A LAPSED entry of the table is due to be removed (R100). -/
def State.removalDue (s : State) (station : Nat) : Bool :=
  s.share.peers.any fun p =>
    decide (p.station = station) && !p.live && decide (s.image.tPeer + s.image.tLinger ≤ p.silence)

/-- The removal of an entry (R100). -/
def State.removePeer (s : State) (station : Nat) : State :=
  s.withPeers (s.share.peers.filter fun p => decide (p.station ≠ station))

/-- The rating age has crossed a threshold that changes the source (R109). -/
def State.ratingAgeDue (s : State) : Bool := decide (s.sourceNow ≠ s.share.source)

/-- DEMAND is due: 50 ms since its last placement (R107). -/
def State.demandDue (s : State) : Bool := s.mayDeclare && decide (Config.demandPeriodMs ≤ s.share.demandTimer)

/-! ### Yield Control -/

/-- The time since the last resume has reached t_minrun (R135). -/
def State.minrunDue (s : State) : Bool :=
  s.ctx.elim false fun c => c.minrunBar && (c.sinceResume.elim false fun t => decide (c.prog.tMinrun * 100 ≤ t))

/-- t_minrun runs out: the reduction stands again, and the rise-shortfall evaluation is made (R135). -/
def State.minrunExpires (s : State) : State := (s.onCtx fun c => { c with minrunBar := false }).yieldEval false

/-! ### Bus Link -/

/-- The listen period has run (R185). -/
def State.listenDue (s : State) : Bool :=
  decide (s.link.state = .listening) && s.link.listen.running && decide (Config.listenMs ≤ s.link.listen.ms)

/-- JOINED is reached: the first one takes the Sequencer to READY, and the rating source may change; DEMAND is placed at
once (R24, R107, R109, R185). -/
def State.join (s : State) : State :=
  let s1 := { s with
    link := { s.link with state := .joined, listen := .stopped }
    share := { s.share with everJoined := true }
    engine := if s.engine = Engine.starting then Engine.ready else s.engine }
  State.placeDemand (if s1.ratingAgeDue then s1.budgetEvent s else s1)

/-- The second in LOST has run (R186). -/
def State.lostDue (s : State) : Bool := decide (s.link.state = .lost) && decide (Config.lostMs ≤ s.link.lostTimer)

/-- LISTENING is entered again with a full listen period, and the peer table is emptied (R101, R186). -/
def State.rejoin (s : State) : State :=
  State.withPeers { s with link := { s.link with state := .listening, listen := .started, failed := 0 } } []

/-- HEAD STATUS is due (R25). -/
def State.statusDue (s : State) : Bool := decide (s.statusPeriod ≤ s.statusTimer)

/-- A partial WELD REQUEST run of a sender has been silent for 100 ms (R182). -/
def State.runSilent (s : State) (sender : Nat) : Bool :=
  s.link.weldRuns.any fun a => decide (a.sender = sender) && decide (Config.runSilenceMs ≤ a.silence)

/-- The partial run is discarded (R182). -/
def State.dropRun (s : State) (sender : Nat) : State :=
  { s with link := { s.link with weldRuns := s.link.weldRuns.filter fun a => decide (a.sender ≠ sender) } }

/-- The PROGRAMME buffer's sender has been silent for 100 ms (R37). -/
def State.progSilent (s : State) : Bool := s.link.progRun.elim false fun a => decide (Config.runSilenceMs ≤ a.silence)

/-- The partial PROGRAMME run is discarded and the buffer is FREE (R37). -/
def State.dropProg (s : State) : State := { s with link := { s.link with progRun := none } }

end Sys2Proof.Machine
end

