-- ==== Sys2Proof/Machine/Requests.lean ====
section
/-! DEFINITION. Acceptance of a WELD REQUEST (R3, R4, R46 to R48) and validation of a PROGRAMME run (R27 to R40). -/

namespace Sys2Proof.Machine

/-! ### Pull, gap and travel (R46 to R48) -/

/-- P_req (R46). -/
def RequestData.pReq (d : RequestData) : Nat := if d.tr < d.tn then 115 * d.l * (d.tn - d.tr).toNat / 100 else 0

/-- The travel needed: G + the sum of the L_f + boost length + d_u (R48). -/
def Programme.travel (p : Programme) (g : Int) : Int :=
  g + (p.lfSum p.records.length : Nat) + ((p.boost?.map BoostRec.length).getD 0 : Nat)
    + ((p.upset?.map UpsetRec.du).getD 0 : Nat)

/-! ### The checks of R3 -/

/-- The code NOTICE REFUSED carries (section 11.8). -/
def RequestFault.code : RequestFault → Nat
  | .busy => 1
  | .faultHold => 2
  | .isolated => 3
  | .notHomed => 4
  | .noProgramme => 5
  | .badRequest => 6
  | .interlock => 7
  | .pullMissing => 8
  | .gapShort => 9
  | .travel => 10

/-- The content of a slot by its number 1..4 (R27). -/
def State.slot (s : State) (n : Nat) : Option Programme := if n = 0 then none else (s.slots.toList[n - 1]?).join

/-- Check 6: a temperature, L or G out of its range (R3). -/
def RequestData.bad (d : RequestData) : Bool :=
  decide (d.tr < -400) || decide (700 < d.tr) || decide (d.tn < -400) || decide (700 < d.tn) || decide (1200 < d.l)
    || decide (d.g ≤ 0)

/-- Check 7: an interlock input stands wrong, or the force is above the FORCE OVER threshold (R3). -/
def State.interlocked (s : State) : Bool :=
  s.level .trainMove || !s.level .pressOk || s.level .emergency || s.level .contFb || s.forceOver

/-- Checks 8 to 10, against the programme of the slot (R3, R46 to R48). -/
def State.checkProgramme (s : State) (d : RequestData) (p : Programme) : Option RequestFault :=
  if decide (0 < d.pReq) && !p.has .pull then some .pullMissing
  else if d.g - (d.pReq : Int) < s.image.clearanceMin then some .gapShort
  else if (s.image.stroke : Int) - s.image.travelReserve < p.travel d.g then some .travel
  else none

/-- Checks 4 to 10 (R3). -/
def State.checkWeld (s : State) (q : Request) : Option RequestFault :=
  if !s.meas.homed then some .notHomed
  else
    match s.slot q.slot with
    | none => some .noProgramme
    | some p =>
      if q.data.bad then some .badRequest
      else if s.interlocked then some .interlock
      else s.checkProgramme q.data p

/-- The first check of R3 that fails. -/
def State.checkRequest (s : State) (q : Request) : Option RequestFault := s.standingFault.or (s.checkWeld q)

/-! ### Acceptance (R4) -/

/-- The new weld context, every field at its value at acceptance (R2, R4, R42, R58, R84, R125). -/
def State.newCtx (s : State) (q : Request) (p : Programme) : WeldCtx :=
  { serial := s.nextSerial, tag := q.tag, slot := q.slot, prog := p, request := q.data, phase := none, phaseTimer := 0
    weldTime := 0, startPos := s.meas.position, currentBegun := false, upsetBegun := false, ending := none
    abortTag := none, outcome := none, reasons := [], faults := [], pReq := q.data.pReq, pullStart := none
    pullAchieved := none, forceHold := none, clampDone := false, releasingEntered := false, sub := none, subTimer := 0
    drawTarget := none, counted := 0, extra := 0, exitMet := false, moveDue := false, contactPending := false
    contactPos := none, burnOff := 0, shortRun := 0, onset := none, retract := none, abortTarget := none, abortStill := 0
    shortCount := 0, openRun := 0, openMet := false, openTime := 0, energyOn := false, energyStopped := false, eRaw := 0
    winSum := 0, winCount := 0, pMeas := 0, guard := none, guardCount := 0, firstFlash := none, boostEntry := none
    boostTime := none, upStart := none, curTime := none, distance := none, peak := none, yieldCount := 0
    yieldTime := 0, limitReported := false, sinceResume := none, minrunBar := false, pause := none, pauseTaken := false
    restartDue := false, restarts := 0
    latches := [], omitted := 0 }

/-- Acceptance: the context, the serial, the cleared bank with the record of serial − 2 marked, NOTICE ACCEPTED, the
100 ms HEAD STATUS period, and the CLAMP record (R4, R25, R163, R170). -/
def State.acceptWeld (s : State) (q : Request) (p : Programme) : State :=
  let n := s.nextSerial
  let s1 :=
    { s with
      ctx := some (s.newCtx q p)
      nextSerial := n + 1
      lastSerial := n
      mode := .idle
      upset := .reset
      records := s.records.dropTrace (n - 2) }
  let s2 := (s1.clearBank n).notice (.accepted n q.tag)
  State.enterClamp { s2 with statusPeriod := 100, statusTimer := 0 }

/-- A WELD REQUEST addressed to this head is refused with the code of the first check that fails, or accepted (R3, R4). One
that was completed while the link was not JOINED is refused with the check it failed then (R183). -/
def State.takeRequest (s : State) (refusal : Option RequestFault) (q : Request) : State :=
  match refusal.or (s.checkRequest q), s.slot q.slot with
  | some f, _ => s.notice (.refused q.tag f.code)
  | none, some p => s.acceptWeld q p
  | none, none => s

/-! ### Validation (R28 to R38) -/

/-- The reasons of NOTICE PROGRAMME REFUSED, with the index of the record where one is named (R38). -/
inductive ProgrammeFault where
  | noConfig | slot | format
  | order (index : Option Nat)
  | range (index : Option Nat)
  | window
  | limit (index : Nat)
deriving DecidableEq, Repr

/-- The reason codes (section 11.8). -/
def ProgrammeFault.code : ProgrammeFault → Nat
  | .noConfig => 1
  | .slot => 2
  | .format => 3
  | .order _ => 4
  | .range _ => 5
  | .window => 6
  | .limit _ => 7

/-- The record index a refusal names. -/
def ProgrammeFault.index : ProgrammeFault → Option Nat
  | .order i => i
  | .range i => i
  | .limit i => some i
  | .noConfig | .slot | .format | .window => none

/-- A kind may stand after the last one, with `n` FLASH records so far (R30). -/
def mayFollow (last : Option RecKind) (n : Nat) (k : RecKind) : Bool :=
  match last with
  | none => decide (k = .clamp)
  | some .clamp => decide (k = .pull ∨ k = .preheat ∨ k = .flash)
  | some .pull => decide (k = .preheat ∨ k = .flash)
  | some .preheat => decide (k = .flash)
  | some .flash => decide (k = .flash ∧ n < 3) || decide (k = .boost ∨ k = .upset)
  | some .boost => decide (k = .upset)
  | some .upset => decide (k = .hold)
  | some .hold => decide (k = .trim ∨ k = .release)
  | some .trim => decide (k = .release)
  | some .release => false

/-- The walk over the kinds from index 0 upward, as far as RELEASE: the index of the first record that cannot stand, or
whether the list ends with RELEASE; a record after RELEASE counts as a count mismatch and has no index (R30). -/
def orderScan : Option RecKind → Nat → Nat → List RecKind → Option Nat × Bool
  | last, _, _, [] => (none, decide (last = some .release))
  | last, n, i, k :: rest =>
    if last = some .release then (none, false)
    else if mayFollow last n k then orderScan (some k) (if k = .flash then n + 1 else n) (i + 1) rest
    else (some i, false)

/-- Check 4 of R38 (R28, R30; log 13). -/
def Programme.checkOrder (p : Programme) (unknown : Bool) : Option ProgrammeFault :=
  let scan := orderScan none 0 0 (p.records.map fun r => r.body.kind)
  match scan.1 with
  | some i => some (.order (some i))
  | none =>
    if unknown || !scan.2 || decide (p.recordCount ≠ p.records.length) || !within 5 11 p.recordCount then some (.order none)
    else none

/-- Every header field lies in its range (R28). -/
def Programme.headerInRange (p : Programme) : Bool :=
  within 1 65535 p.number && within 1 120 p.tAdmit && within 0 60 p.tYieldMax && within 5 100 p.tMinrun
    && within 0 10000 p.overrun

/-- Every window bound lies in its range (R29). -/
def Windows.inRange (w : Windows) : Bool :=
  within 0 100000 w.burnMin && within 0 100000 w.burnMax && within 0 50000 w.distanceMin && within 0 4000 w.forceMin
    && within 0 4000 w.forceMax && within 0 5000 w.curTimeMin && within 0 5000 w.curTimeMax && within 0 6000 w.flashMin
    && within 0 6000 w.flashMax && within 0 100000 w.energyMin && within 0 100000 w.energyMax
    && within 0 255 w.maxShorts && within 0 60000 w.maxOpen

/-- Every lower bound is at or below its upper bound (R29). -/
def Windows.ordered (w : Windows) : Bool :=
  decide (w.burnMin ≤ w.burnMax) && decide (w.forceMin ≤ w.forceMax) && decide (w.curTimeMin ≤ w.curTimeMax)
    && decide (w.flashMin ≤ w.flashMax) && decide (w.energyMin ≤ w.energyMax)

/-- The ranges of a FLASH record and its five relations; `first` where it is the first FLASH record (R33). -/
def FlashRec.inRange (r : FlashRec) (first : Bool) : Bool :=
  within 0 4000 r.load && within 0 4000 r.reducedLoad && within 1 8 r.step && within 1 8 r.reducedStep
    && within 0 5000 r.va && within 0 5000 r.vb && within 1000 30000 r.lf && within 1 6000 r.is
    && within 1 6000 r.isRed && within 0 255 r.k && within 1 6000 r.isc && within 2 100 r.tsc
    && within 100 20000 r.dr && within 100 20000 r.vr && within 0 6000 r.iOpen && within 10 2000 r.tOpen
    && decide (r.reducedLoad ≤ r.load) && decide (r.iOpen < r.isRed) && decide (r.isRed ≤ r.is) && decide (r.is < r.isc)
    && decide (r.va ≤ r.vb) && (if first then within 100 5000 r.approach else decide (r.approach = 0))
    && decide (r.reducedStep ≤ r.step)

/-- The fields of a record lie in their ranges and keep their relations (R31 to R35). -/
def RecBody.inRange (first : Bool) : RecBody → Bool
  | .clamp t => within 1000 60000 t
  | .pull r => within 200 20000 r.speed && within 1 4000 r.forceLimit && within 0 20000 r.tolerance
      && within 1000 300000 r.timeout
  | .preheat r => within 0 4000 r.load && within 1 8 r.step && within 1 40 r.pulses && within 100 10000 r.onTime
      && within 100 10000 r.offTime && within 1 4000 r.contactForce && within 100 20000 r.openDistance
      && within 100 5000 r.approach && within 0 30000 r.pauseTolerance
  | .flash r => r.inRange first
  | .boost r => within 0 4000 r.load && within 1 8 r.step && within 100 20000 r.speed && within 500 20000 r.length
      && within 100 20000 r.time
  | .upset r => within 0 4000 r.load && within 1000 60000 r.speed && within 1 4000 r.fu && within 0 5000 r.tuc
      && within 1000 30000 r.du && within 500 20000 r.timeout
  | .hold f t => within 0 4000 f && within 1 600 t
  | .trim t => within 1000 60000 t
  | .release t => within 1000 60000 t

/-- The limited fields of a record respect the configured limits (R36). -/
def RecBody.inLimits (m : Image) : RecBody → Bool
  | .pull r => decide (r.speed ≤ m.vMax) && decide (r.forceLimit ≤ m.fMax)
  | .preheat r => decide (r.contactForce ≤ m.fMax) && decide (r.approach ≤ m.vMax)
  | .flash r => decide (r.va ≤ m.vMax) && decide (r.vb ≤ m.vMax) && decide (r.vr ≤ m.vRetractMax)
      && decide (r.approach ≤ m.vMax)
  | .boost r => decide (r.speed ≤ m.vMax)
  | .upset r => decide (r.speed ≤ m.vMax) && decide (r.fu ≤ m.fMax)
  | .hold f _ => decide (f ≤ m.fMax)
  | .clamp _ | .trim _ | .release _ => true

/-- Checks 7 and 8, record by record in index order; `seen` where a FLASH record stood before (R38). -/
def checkRecords (m : Image) : Bool → Nat → List PhaseRec → Option ProgrammeFault
  | _, _, [] => none
  | seen, i, r :: rest =>
    if !r.body.inRange (!seen) then some (.range (some i))
    else if !r.body.inLimits m then some (.limit i)
    else checkRecords m (seen || decide (r.body.kind = .flash)) (i + 1) rest

/-- Checks 4 to 8 of R38 on a parsed programme. -/
def Programme.check (p : Programme) (m : Image) (unknown : Bool) : Option ProgrammeFault :=
  match p.checkOrder unknown with
  | some f => some f
  | none =>
    if !p.headerInRange || !p.windows.inRange then some (.range none)
    else if !p.windows.ordered then some .window
    else checkRecords m false 0 p.records

/-- What validation decides: a refusal, or the programme to hold in the slot, none for an empty-slot run. -/
inductive Validation where
  | refused (f : ProgrammeFault)
  | empty
  | stored (p : Programme)
deriving DecidableEq, Repr

/-- The header of an empty-slot run: programme number 0 and record count 0 (R40). -/
def isEmptyRun (payload : List Byte) : Bool := decide (natAt payload 1 2 = 0) && decide (natAt payload 3 1 = 0)

/-- The records of a payload: none where it has the header's first four bytes alone; a failure where it ends inside the
windows or a record (section 11.9). -/
def payloadRecords (payload : List Byte) : Option (List PhaseRec × Bool) :=
  if payload.length = 4 then some ([], false)
  else if payload.length < 42 then none
  else parseRecords payload.length (payload.drop 42)

/-- The frames of a PROGRAMME run whose payload has this many bytes: six in the first frame, seven in each later one (R182,
section 11.9). -/
def programmeFrames (bytes : Nat) : Nat := 1 + (bytes - 6 + 6) / 7

/-- The frame count of a run is the one its payload takes (R38, check 3). -/
def ProgRun.framed (r : ProgRun) : Bool := decide (r.frames = programmeFrames r.payload.length)

/-- Validation of a complete run (R38, R40). Where a kind code that names no kind stops the parsing, the length of the
encoding is not known, and the frame count is not tested (section 11.9; log 44). -/
def State.validate (s : State) (run : ProgRun) : Validation :=
  let payload := run.payload
  if s.engine = .configFault then .refused .noConfig
  else if !within 1 4 (natAt payload 0 1) then .refused .slot
  else if payload.length < 4 then .refused .format
  else if isEmptyRun payload then (if payload.length = 4 ∧ run.framed then .empty else .refused .format)
  else
    match payloadRecords payload with
    | none => .refused .format
    | some (records, unknown) =>
      let p := programmeOf payload records
      if !unknown && !run.framed then .refused .format
      else
        match p.check s.image unknown with
        | some f => .refused f
        | none => .stored p

/-- The slots with one slot's content replaced, by its number 1..4 (R27). -/
def setSlot (v : Vector (Option Programme) 4) (n : Nat) (x : Option Programme) : Vector (Option Programme) 4 :=
  Vector.ofFn fun i => if i.val + 1 = n then x else v[i]

/-- The Programme Store acts on a complete run (R38 to R40). -/
def State.takeProgramme (s : State) (run : ProgRun) : State :=
  let n := natAt run.payload 0 1
  match s.validate run with
  | .refused f => s.notice (.programmeRefused n f.code f.index)
  | .empty => State.notice { s with slots := setSlot s.slots n none } (.programmeStored n 0 0)
  | .stored p => State.notice { s with slots := setSlot s.slots n (some p) } (.programmeStored n p.number p.recordCount)

/-! ### Runs waiting for their owner (log 7) -/

/-- The Sequencer takes the oldest complete WELD REQUEST run; one shorter than its layout is ignored (R3, R181; log 12). -/
def State.nextRequest (s : State) : State :=
  match s.link.weldReady with
  | [] => s
  | run :: rest =>
    let s1 := { s with link := { s.link with weldReady := rest } }
    match Request.parse run.payload with
    | none => s1
    | some q => s1.takeRequest run.refusal q

/-- The Programme Store takes the oldest complete PROGRAMME run (R38). -/
def State.nextProgramme (s : State) : State :=
  match s.link.progReady with
  | [] => s
  | run :: rest => State.takeProgramme { s with link := { s.link with progReady := rest } } run

end Sys2Proof.Machine
end

