-- ==== Sys2Proof/Machine/Interval.lean ====
section
/-! DEFINITION. The regulation interval: what falls due before it, the outputs, the timers, and the order of its parts
(R125, R143, R150 to R155; logs 3 to 6). -/

namespace Sys2Proof.Machine

/-! ### The events, each with its own guard -/

/-- A 10 ms sample (R143). -/
def State.sampleEvent (s : State) : State := s.event s.sampleDue State.takeSample
/-- A power window (R76). -/
def State.windowEvent (s : State) : State := s.event s.windowDue State.takeWindow
/-- An input level (R150). -/
def State.inputEvent (s : State) (i : Input) : State := s.event (s.inputDue i) fun t => t.takeLevel i
/-- The contactor feedback time (R154). -/
def State.contactorEvent (s : State) : State := s.event s.contactorDue State.contactorFault
/-- A short onset (R72). -/
def State.shortEvent (s : State) : State := s.event s.shortDue State.shortBegins
/-- An open circuit (R74). -/
def State.openEvent (s : State) : State := s.event s.openDue State.openBegins
/-- The end of PULSE ON (R64). -/
def State.pulseOnEvent (s : State) : State := s.event s.pulseOnDue State.pulseOnEnds
/-- The end of PULSE OFF (R64). -/
def State.pulseOffEvent (s : State) : State := s.event (s.pulseOffOver && !s.aborting) State.endPulseOff
/-- The boost time (R81). -/
def State.boostEvent (s : State) : State := s.event s.boostTimeDue State.endBoost
/-- CURRENT OFF (R86). -/
def State.currentOffEvent (s : State) : State := s.event s.currentOffDue State.takeCurrentOff
/-- The upset stall (R87). -/
def State.upsetStallEvent (s : State) : State := s.event s.upsetStallDue State.endUpset
/-- The upset timeout (R87). -/
def State.upsetTimeoutEvent (s : State) : State := s.event s.upsetTimeoutDue State.endUpset
/-- The hold time (R91). -/
def State.holdEvent (s : State) : State := s.event s.holdEndDue State.endHold
/-- The shear timeout in ADVANCING (R93). -/
def State.shearEvent (s : State) : State := s.event (s.shearDue .advancing) fun t => t.shearFails.enterReturning
/-- The shear timeout in RETURNING (R94). -/
def State.shearReturnEvent (s : State) : State := s.event (s.shearDue .returning) fun t => t.shearFails.endTrim
/-- The clamp timeout (R45). -/
def State.clampTimeoutEvent (s : State) : State := s.event s.clampTimeoutDue State.clampTimedOut
/-- The pull stall (R50). -/
def State.pullStallEvent (s : State) : State := s.event s.pullStallDue State.endPull
/-- The pull timeout (R50). -/
def State.pullTimeoutEvent (s : State) : State := s.event s.pullTimeoutDue State.endPull
/-- The end of the release ramp (R54). -/
def State.rampEvent (s : State) : State := s.event s.rampEndDue State.rampEnds
/-- The clamp-open timeout (R56). -/
def State.clampOpenEvent (s : State) : State := s.event s.clampOpenDue State.enterWaiting
/-- The still time of the abort retract (R18). -/
def State.abortStillEvent (s : State) : State := s.event s.abortStillDue State.enterReleasing
/-- YIELD LIMIT (R132). -/
def State.yieldLimitEvent (s : State) : State := s.event s.yieldLimitDue State.yieldLimited
/-- The expiry of t_minrun (R135). -/
def State.minrunEvent (s : State) : State := s.event s.minrunDue State.minrunExpires
/-- The restart of the pulse count (R136). -/
def State.pauseEvent (s : State) : State := s.event s.pauseDue State.pauseRestarts
/-- The settle expiry (R118). -/
def State.settleEvent (s : State) : State := s.event s.settleDue State.settleExpires
/-- The expiry of T_admit (R121). -/
def State.admitTimeoutEvent (s : State) : State := s.event s.admitTimeoutDue State.admitTimedOut
/-- The lapse of a peer (R100). -/
def State.lapseEvent (s : State) (n : Nat) : State := s.event (s.lapseDue n) fun t => t.lapse n
/-- The removal of a peer (R100). -/
def State.removalEvent (s : State) (n : Nat) : State := s.event (s.removalDue n) fun t => t.removePeer n
/-- A rating age threshold (R109). -/
def State.ratingAgeEvent (s : State) : State := s.event s.ratingAgeDue fun t => t.budgetEvent t
/-- The end of the listen period (R185). -/
def State.listenEvent (s : State) : State := s.event s.listenDue State.join
/-- The end of the stay in LOST (R186). -/
def State.lostEvent (s : State) : State := s.event s.lostDue State.rejoin
/-- The silence of a WELD REQUEST run (R182). -/
def State.runSilenceEvent (s : State) (n : Nat) : State := s.event (s.runSilent n) fun t => t.dropRun n
/-- The silence of the PROGRAMME run (R37). -/
def State.progSilenceEvent (s : State) : State := s.event s.progSilent State.dropProg
/-- A complete PROGRAMME run (R38). -/
def State.programmeEvent (s : State) : State := s.event (!s.link.progReady.isEmpty) State.nextProgramme
/-- A complete WELD REQUEST run (R3). -/
def State.requestEvent (s : State) : State := s.event (!s.link.weldReady.isEmpty) State.nextRequest
/-- HEAD STATUS (R25). -/
def State.statusEvent (s : State) : State := s.event s.statusDue State.placeStatus
/-- DEMAND at its 50 ms period (R107). -/
def State.demandEvent (s : State) : State := s.event s.demandDue State.placeDemand

/-! ### What stands due when an interval starts (log 5) -/

/-- Takes an event for each of a list of keys. -/
def forEach {α : Type} (f : State → α → State) (keys : List α) (s : State) : State := keys.foldl f s

/-- Events of the Measurement Unit. Levels accepted in one interval are taken one after the other, in the order of the
inputs: DESIGN CHOICE, unsafe (log 56). The two clamp inputs are read together (R44, R55, R153). -/
def State.dueMeasured (s : State) : State := (forEach State.inputEvent allInputs s.sampleEvent.windowEvent).contactorEvent

/-- Events of the phase units. -/
def State.duePhases (s : State) : State :=
  s.shortEvent.openEvent.pulseOnEvent.pulseOffEvent.boostEvent.currentOffEvent.upsetStallEvent.upsetTimeoutEvent
    |>.holdEvent |>.shearEvent |>.shearReturnEvent |>.clampTimeoutEvent |>.pullStallEvent |>.pullTimeoutEvent
    |>.rampEvent |>.clampOpenEvent |>.abortStillEvent

/-- Events of the Load Share Unit and Yield Control. -/
def State.dueShare (s : State) : State :=
  let s1 := s.yieldLimitEvent.minrunEvent.pauseEvent.settleEvent.admitTimeoutEvent
  (forEach State.removalEvent (List.range 16) (forEach State.lapseEvent (List.range 16) s1)).ratingAgeEvent

/-- Events of the Bus Link and its owners. -/
def State.dueLink (s : State) : State :=
  (forEach State.runSilenceEvent (List.range 16) s.listenEvent.lostEvent).progSilenceEvent.programmeEvent.requestEvent
    |>.statusEvent |>.demandEvent

/-- Every event that stands due and has not been taken, before the interval (log 5). -/
def State.takeDue (s : State) : State := s.dueMeasured.duePhases.dueShare.dueLink

/-! ### The parts of an interval -/

/-- The outputs are forwarded to the head wiring, the force-limit command with the force hold applied (R53, R155). -/
def State.forwardOutputs (s : State) : State := { s with wire := { s.out with force := s.wireForce } }

/-- 2 ms pass for a count. -/
def tick2 (n : Nat) : Nat := n + Config.intervalMs

/-- The engine states in which the time since the last resume runs (R135). -/
def Engine.resumeRuns : Engine → Bool
  | .preheat | .flash | .boost | .upset | .hold | .trim => true
  | .starting | .configFault | .ready | .clamping | .pulling | .admitting | .releasing | .faultHold => false

/-- The timers of the weld context (R2, R125, R132, R136). -/
def WeldCtx.tick (c : WeldCtx) (e : Engine) (yielded : Bool) : WeldCtx :=
  { c with
    weldTime := if c.outcome.isNone then tick2 c.weldTime else c.weldTime
    phaseTimer := if e = .faultHold then c.phaseTimer else tick2 c.phaseTimer
    yieldTime := if yielded then min (tick2 c.yieldTime) c.yieldLimitMs else c.yieldTime
    sinceResume := if e.resumeRuns then c.sinceResume.map tick2 else c.sinceResume
    pause := if yielded && decide (e = .preheat) then c.pause.map tick2 else c.pause }

/-- The timers of the Load Share Unit (R100, R107, R108, R114). -/
def Share.tick (h : Share) : Share :=
  { h with
    peers := h.peers.map fun p => { p with silence := tick2 p.silence }
    rise := { h.rise with settle := h.rise.settle.tick, admitWait := h.rise.admitWait.tick }
    ratingAge := h.ratingAge.map tick2
    demandTimer := tick2 h.demandTimer }

/-- The timers of the Bus Link (R107, R182, R185, R186). -/
def Link.tick (l : Link) : Link :=
  { l with
    listen := l.listen.tick
    lostTimer := if l.state = .lost then tick2 l.lostTimer else l.lostTimer
    weldRuns := l.weldRuns.map fun a => { a with silence := tick2 a.silence }
    progRun := l.progRun.map fun a => { a with silence := tick2 a.silence }
    demandGap := if Config.demandGapMs ≤ l.demandGap then l.demandGap else tick2 l.demandGap }

/-- 2 ms pass (log 3). -/
def State.tick (s : State) : State :=
  { s with
    ctx := s.ctx.map fun c => c.tick s.engine s.yielded
    stress := { s.stress with clampTimer := s.stress.clampTimer.tick, releaseTimer := s.stress.releaseTimer.tick }
    upset :=
      { s.upset with
        currentTimer := s.upset.currentTimer.tick
        shearTimer := if s.engine = .trim then tick2 s.upset.shearTimer else s.upset.shearTimer }
    share := s.share.tick
    link := s.link.tick
    statusTimer := tick2 s.statusTimer }

/-- The Measurement Unit's own part of a completed interval: means, position, the 10 ms sums, inputs and the contactor
comparison (R141 to R143, R150, R154). The comparison is made before the phase units evaluate the interval: DEDUCED, unsafe
(log 54). -/
def State.measure (s : State) (r : Readings) : State :=
  let s1 := s.takeReadings r
  let m := s1.meas
  let s2 := { s1 with meas :=
    { m with
      intervalPos := m.position
      sumI := m.sumI + m.im
      sumU := m.sumU + m.um
      sumF := m.sumF + m.fm
      sampleIntervals := m.sampleIntervals + 1 } }
  (s2.sampleInputs r.pins).compareContactor

/-- The evaluation of the phase units and the condition tests, in the order of the two hand-overs (R59, R153; log 6). What
the evaluation makes due, a short onset or an open circuit among them, is taken after both (log 35), and so is a level that
the filter accepts in this interval, in either order: DESIGN CHOICE, unsafe (log 53). -/
def State.evaluate (s : State) (causesFirst : Bool) : State :=
  if causesFirst then s.testConditions.evalUnits else s.evalUnits.testConditions

/-- One regulation interval; while RESET is asserted there is none (R143, R155). The tests of a fifth interval read the velocity
of the sample before, and a state they enter is the one in which that sample is handed over (logs 39 and 40). -/
def State.interval (s : State) (causesFirst : Bool) (r : Readings) : State :=
  if s.loader = .held then s
  else ((s.takeDue.forwardOutputs.tick.measure r).evaluate causesFirst).declare

end Sys2Proof.Machine
end

