-- ==== Sys2Proof/Machine/Bus.lean ====
section
/-! DEFINITION. The commands of the bus itself: offering frames and their ends, the loss of the link, and the assembly of
runs (R37, R181 to R187). -/

namespace Sys2Proof.Machine

/-- The bus is free for an own frame: JOINED, and none of its own on it (R184). -/
def State.mayOffer (s : State) : Bool := decide (s.link.state = .joined) && s.link.onBus.isNone

/-- The ready frame of the lowest identifier is offered; an arbitration lost changes nothing, and the frame is offered
again (R181, R184). -/
def State.offer (s : State) (won : Bool) : State :=
  if s.mayOffer && won then
    match s.link.ready with
    | none => s
    | some (k, d) => s.startFrame k d
  else s

/-- FRAME_OFFER (R184). -/
def execFrameOffer (won : Bool) (s : State) : Host.Outcome State Fault Refusal := .next (s.offer won)

/-- The frame on the bus is acknowledged (R184, R186). -/
def State.acknowledged (s : State) : State := s.link.onBus.elim s s.frameSent

/-- FRAME_ACKNOWLEDGED (R184). -/
def execFrameAcknowledged (s : State) : Host.Outcome State Fault Refusal := .next s.acknowledged

/-- The frame on the bus ends without acknowledgement (R186). -/
def State.notAcknowledged (s : State) : State :=
  if s.link.state = .joined ∧ s.link.onBus.isSome then s.frameFailed else s

/-- FRAME_NOT_ACKNOWLEDGED (R186). -/
def execFrameNotAcknowledged (s : State) : Host.Outcome State Fault Refusal := .next s.notAcknowledged

/-- BUS_OFF, in JOINED (R186). -/
def execBusOff (s : State) : Host.Outcome State Fault Refusal :=
  .next (if s.link.state = .joined then s.loseLink else s)

/-- DUPLICATE_STATION_FRAME: a frame of the own number that belongs to no other command (R187). -/
def execDuplicateStationFrame (s : State) : Host.Outcome State Fault Refusal :=
  .next (if s.receives then s.duplicate else s)

/-- RUN_FIRST_FRAME: the first frame of a WELD REQUEST run (R182). -/
def execRunFirstFrame (sender : Station) (data : List Byte) (s : State) : Host.Outcome State Fault Refusal :=
  .next (s.onRx sender fun t => t.weldFirst sender.val data)

/-- PROGRAMME_FIRST_FRAME (R37, R182). -/
def execProgrammeFirstFrame (sender : Station) (data : List Byte) (s : State) : Host.Outcome State Fault Refusal :=
  .next (s.onRx sender fun t => t.progFirst sender.val data)

/-- RUN_LATER_FRAME (R182). -/
def execRunLaterFrame (kind : RunKind) (sender : Station) (data : List Byte) (s : State) :
    Host.Outcome State Fault Refusal :=
  .next (s.onRx sender fun t => t.laterFrame kind sender.val data)

/-- RUN_ASSEMBLY_SILENCE (R182). -/
def execRunAssemblySilence (sender : Station) (s : State) : Host.Outcome State Fault Refusal :=
  .next (s.runSilenceEvent sender.val)

/-- PROGRAMME_SILENCE (R37). -/
def execProgrammeSilence (s : State) : Host.Outcome State Fault Refusal := .next s.progSilenceEvent

end Sys2Proof.Machine
end

