-- ==== Sys2Proof/Machine/Messages.lean ====
section
/-! DEFINITION. The messages of other stations, taken by their owners (R3, R16, R23, R38, R98, R108, R152, R165, R177,
R183), and the trace memory arbiter's fetch (R178). -/

namespace Sys2Proof.Machine

/-- A RATING from the generator station is taken (R108). -/
def State.takeRating (s : State) (sender : Station) (data : List Byte) : State :=
  if sender.val = s.image.generator ∧ 3 ≤ data.length then
    State.declare
      (State.budgetEvent
        { s with share :=
          { s.share with
            rating := some (clampLoad (natAt data 0 2))
            genState := some (genStateOf (natAt data 2 1))
            ratingAge := some 0 } }
        s)
  else s

/-- RATING (R108). -/
def execRating (sender : Station) (data : List Byte) (s : State) : Host.Outcome State Fault Refusal :=
  .next (s.onRx sender fun t => t.ifSharing fun u => u.takeRating sender data)

/-- A DEMAND makes or refreshes its sender's entry, and the two evaluations follow (R98). -/
def State.takeDemand (s : State) (sender : Station) (data : List Byte) : State :=
  if 8 ≤ data.length then (s.withPeers (insertPeer (Peer.ofDemand sender.val data) s.share.peers)).declare else s

/-- DEMAND (R98). -/
def execDemand (sender : Station) (data : List Byte) (s : State) : Host.Outcome State Fault Refusal :=
  .next (s.onRx sender fun t => t.ifSharing fun u => u.takeDemand sender data)

/-- An ABORT addressed to this head is the end-class cause CONSOLE ABORT (R16). -/
def State.takeAbort (s : State) (data : List Byte) : State :=
  if s.targeted data 3 then (s.endCause .consoleAbort (some (natAt data 1 2))).declare else s

/-- ABORT (R16). -/
def execAbort (sender : Station) (data : List Byte) (s : State) : Host.Outcome State Fault Refusal :=
  .next (s.onRx sender fun t => t.ifJoined fun u => u.takeAbort data)

/-- WELD_REQUEST: the Sequencer checks the oldest complete run passed to it (R3; log 7). -/
def execWeldRequest (s : State) : Host.Outcome State Fault Refusal := .next s.requestEvent

/-- CLEAR may be taken: FAULT HOLD with EMERGENCY, TRAIN_MOVE and CONT_FB deasserted (R23). -/
def State.mayClear (s : State) : Bool :=
  decide (s.engine = .faultHold) && !s.level .emergency && !s.level .trainMove && !s.level .contFb

/-- A CLEAR addressed to this head enters RELEASING from FAULT HOLD (R23). -/
def State.takeClear (s : State) (data : List Byte) : State :=
  if s.targeted data 1 && s.mayClear then s.enterReleasing.declare else s

/-- CLEAR (R23). -/
def execClear (sender : Station) (data : List Byte) (s : State) : Host.Outcome State Fault Refusal :=
  .next (s.onRx sender fun t => t.ifJoined fun u => u.takeClear data)

/-- PROGRAMME: the Programme Store validates the oldest complete run handed to it (R38; log 7). -/
def execProgramme (s : State) : Host.Outcome State Fault Refusal := .next s.programmeEvent

/-- A CAPTURE CLEAR addressed to this head clears the flags its mask names (R152). -/
def State.takeCaptureClear (s : State) (data : List Byte) : State :=
  if s.targeted data 2 then
    let mask := inputsOfByte (BitVec.ofNat 8 (natAt data 1 1))
    { s with meas := { s.meas with capture := .build fun i => s.meas.capture.get i && !mask.get i } }
  else s

/-- CAPTURE_CLEAR (R152). -/
def execCaptureClear (sender : Station) (data : List Byte) (s : State) : Host.Outcome State Fault Refusal :=
  .next (s.onRx sender fun t => t.ifJoined fun u => u.takeCaptureClear data)

/-- A RECORD QUERY addressed to this head is looked up in IDLE and held in SENDING (R165, R166). -/
def State.takeRecordQuery (s : State) (data : List Byte) : State :=
  if s.targeted data 5 then
    if s.records.sending.isSome then { s with records := { s.records with waiting := some (natAt data 1 4) } }
    else s.recordLookup (natAt data 1 4)
  else s

/-- RECORD_QUERY (R165). -/
def execRecordQuery (sender : Station) (data : List Byte) (s : State) : Host.Outcome State Fault Refusal :=
  .next (s.onRx sender fun t => t.ifJoined fun u => u.takeRecordQuery data)

/-- A TRACE QUERY addressed to this head is held in SENDING and looked up otherwise (R177, R179). -/
def State.takeTraceQuery (s : State) (data : List Byte) : State :=
  if s.targeted data 8 then
    if s.trace.readout = .sending then { s with trace := { s.trace with waiting := some (TraceQuery.parse data) } }
    else s.traceLookup (TraceQuery.parse data)
  else s

/-- TRACE_QUERY (R177). -/
def execTraceQuery (sender : Station) (data : List Byte) (s : State) : Host.Outcome State Fault Refusal :=
  .next (s.onRx sender fun t => t.ifJoined fun u => u.takeTraceQuery data)

/-- FETCH_COMPLETION: the arbiter has fetched the stream's block (R176, R178; log 31). -/
def execFetchCompletion (s : State) : Host.Outcome State Fault Refusal := .next s.fetchDone

end Sys2Proof.Machine
end

