-- ==== Sys2Proof/Machine/Phases.lean ====
section
/-! DEFINITION. The timed commands of the phase units: Stress Unit, Flash Regulator and Upset Unit (R18, R45, R50, R54, R56,
R64, R72 to R76, R81, R86 to R94). -/

namespace Sys2Proof.Machine

/-- CLAMP_TIMEOUT (R45). -/
def execClampTimeout (s : State) : Host.Outcome State Fault Refusal := .next s.clampTimeoutEvent

/-- PULL_STALL (R50). -/
def execPullStall (s : State) : Host.Outcome State Fault Refusal := .next s.pullStallEvent

/-- PULL_TIMEOUT (R50). -/
def execPullTimeout (s : State) : Host.Outcome State Fault Refusal := .next s.pullTimeoutEvent

/-- PULSE_ON_END (R64). -/
def execPulseOnEnd (s : State) : Host.Outcome State Fault Refusal := .next s.pulseOnEvent

/-- PULSE_OFF_END (R64). -/
def execPulseOffEnd (s : State) : Host.Outcome State Fault Refusal := .next s.pulseOffEvent

/-- SHORT_ONSET (R72). -/
def execShortOnset (s : State) : Host.Outcome State Fault Refusal := .next s.shortEvent

/-- OPEN_CIRCUIT (R74). -/
def execOpenCircuit (s : State) : Host.Outcome State Fault Refusal := .next s.openEvent

/-- ABORT_RETRACT_STILL (R18). -/
def execAbortRetractStill (s : State) : Host.Outcome State Fault Refusal := .next s.abortStillEvent

/-- POWER_WINDOW_COMPLETE (R76). -/
def execPowerWindowComplete (s : State) : Host.Outcome State Fault Refusal := .next s.windowEvent

/-- BOOST_TIME_REACHED (R81). -/
def execBoostTimeReached (s : State) : Host.Outcome State Fault Refusal := .next s.boostEvent

/-- CURRENT_OFF (R86). -/
def execCurrentOff (s : State) : Host.Outcome State Fault Refusal := .next s.currentOffEvent

/-- UPSET_STALL (R87). -/
def execUpsetStall (s : State) : Host.Outcome State Fault Refusal := .next s.upsetStallEvent

/-- UPSET_TIMEOUT (R87). -/
def execUpsetTimeout (s : State) : Host.Outcome State Fault Refusal := .next s.upsetTimeoutEvent

/-- HOLD_TIME_END (R91). -/
def execHoldTimeEnd (s : State) : Host.Outcome State Fault Refusal := .next s.holdEvent

/-- SHEAR_TIMEOUT (R93). -/
def execShearTimeout (s : State) : Host.Outcome State Fault Refusal := .next s.shearEvent

/-- SHEAR_RETURN_TIMEOUT (R94). -/
def execShearReturnTimeout (s : State) : Host.Outcome State Fault Refusal := .next s.shearReturnEvent

/-- RELEASE_RAMP_END (R54). -/
def execReleaseRampEnd (s : State) : Host.Outcome State Fault Refusal := .next s.rampEvent

/-- CLAMP_OPEN_TIMEOUT (R56). -/
def execClampOpenTimeout (s : State) : Host.Outcome State Fault Refusal := .next s.clampOpenEvent

end Sys2Proof.Machine
end

