-- ==== Sys2Proof/Machine/Sharing.lean ====
section
/-! DEFINITION. The timed commands of the Load Share Unit and Yield Control (R100, R109, R118, R121, R132 to R137). -/

namespace Sys2Proof.Machine

/-- PEER_LAPSE (R100). -/
def execPeerLapse (station : Station) (s : State) : Host.Outcome State Fault Refusal := .next (s.lapseEvent station.val)

/-- PEER_REMOVAL (R100). -/
def execPeerRemoval (station : Station) (s : State) : Host.Outcome State Fault Refusal := .next (s.removalEvent station.val)

/-- SETTLE_EXPIRY (R118). -/
def execSettleExpiry (s : State) : Host.Outcome State Fault Refusal := .next s.settleEvent

/-- ADMIT_TIMEOUT (R121). -/
def execAdmitTimeout (s : State) : Host.Outcome State Fault Refusal := .next s.admitTimeoutEvent

/-- RATING_AGE_THRESHOLD (R109). -/
def execRatingAgeThreshold (s : State) : Host.Outcome State Fault Refusal := .next s.ratingAgeEvent

/-- YIELD_LIMIT (R132). -/
def execYieldLimit (s : State) : Host.Outcome State Fault Refusal := .next s.yieldLimitEvent

/-- MINRUN_EXPIRY (R135). -/
def execMinrunExpiry (s : State) : Host.Outcome State Fault Refusal := .next s.minrunEvent

/-- PREHEAT_PAUSE_RESTART (R136). -/
def execPreheatPauseRestart (s : State) : Host.Outcome State Fault Refusal := .next s.pauseEvent

end Sys2Proof.Machine
end

