-- ==== Sys2Proof/Machine/Startup.lean ====
section
/-! DEFINITION. Reset, the straps, the configuration memory, and the link's periods (R24, R26, R185, R186, R188). -/

namespace Sys2Proof.Machine

/-- RESET asserted: every block at its value after reset; the waiting commands are the model's own (R26, R188). -/
def execReset (s : State) : Host.Outcome State Fault Refusal := .next { State.reset with pending := s.pending }

/-- RESET released: the straps are latched and the Loader starts to read (R188). -/
def State.latchStraps (s : State) (grounded : BitVec 4) : State :=
  if s.loader = .held then { s with station := stationOf grounded, loader := .reading } else s

/-- RESET_RELEASE (R188). -/
def execResetRelease (grounded : BitVec 4) (s : State) : Host.Outcome State Fault Refusal := .next (s.latchStraps grounded)

/-- The Loader has finished: a good image stands, any other report is CONFIG FAULT; the Bus Link starts its listen period
at the bit rate that then stands in force (R24, R181, R185, R188). -/
def State.loadImage (s : State) (b : List Byte) : State :=
  let s1 := { s with
    loader := loaderReport b
    link := { s.link with listen := .started, bitRate := bitRateInForce (loaderReport b) (imageOf b).bitRate } }
  if loaderReport b = .good then State.declare { s1 with image := imageOf b } else { s1 with engine := .configFault }

/-- CONFIGURATION_READ: taken while the Loader reads (R188). -/
def execConfigurationRead (image : Vector Byte 64) (s : State) : Host.Outcome State Fault Refusal :=
  .next (if s.loader = .reading then s.loadImage image.toList else s)

/-- LISTEN_PERIOD_END (R185). -/
def execListenPeriodEnd (s : State) : Host.Outcome State Fault Refusal := .next s.listenEvent

/-- LOST_PERIOD_END (R186). -/
def execLostPeriodEnd (s : State) : Host.Outcome State Fault Refusal := .next s.lostEvent

end Sys2Proof.Machine
end

