-- ==== Sys2Proof/Machine/Wiring.lean ====
section
/-! DEFINITION. The block's clock and the head wiring: intervals, samples, reports, the encoder and the inputs (R25, R107,
R143 to R154). -/

namespace Sys2Proof.Machine

/-- REGULATION_INTERVAL (R143). -/
def execRegulationInterval (causesFirst : Bool) (readings : Readings) (s : State) : Host.Outcome State Fault Refusal :=
  .next (s.interval causesFirst readings)

/-- TEN_MS_SAMPLE (R143, R144). -/
def execTenMsSample (s : State) : Host.Outcome State Fault Refusal := .next s.sampleEvent

/-- HEAD_STATUS_PERIOD (R25). -/
def execHeadStatusPeriod (s : State) : Host.Outcome State Fault Refusal := .next s.statusEvent

/-- DEMAND_PERIOD (R107). -/
def execDemandPeriod (s : State) : Host.Outcome State Fault Refusal := .next s.demandEvent

/-- The encoder is decoded with a good image, in every engine state but CONFIG FAULT (R145, R156; log 11). -/
def State.ifDecoding (s : State) (f : State → State) : State := if s.loader = .good then (f s).declare else s

/-- ENCODER_EDGE (R145). -/
def execEncoderEdge (toward : Bool) (s : State) : Host.Outcome State Fault Refusal :=
  .next (s.ifDecoding fun t => t.countEdge toward)

/-- REFERENCE_MARK (R146). -/
def execReferenceMark (s : State) : Host.Outcome State Fault Refusal := .next (s.ifDecoding State.passMark)

/-- QUADRATURE_ERROR: the two faults act alike (R147). -/
def execQuadratureError (what : EncoderFault) (s : State) : Host.Outcome State Fault Refusal :=
  match what with
  | .bothChanged | .lineFault => .next (s.ifDecoding State.quadratureError)

/-- INPUT_LEVEL_CHANGE (R150). -/
def execInputLevelChange (input : Input) (s : State) : Host.Outcome State Fault Refusal := .next (s.inputEvent input)

/-- CONTACTOR_FEEDBACK_TIMEOUT (R154). -/
def execContactorFeedbackTimeout (s : State) : Host.Outcome State Fault Refusal := .next s.contactorEvent

end Sys2Proof.Machine
end

