-- ==== Sys2Proof/Machine/Dispatch.lean ====
section
/-! DEFINITION. One arm for each command: its meaning. -/

namespace Sys2Proof.Machine

/-- The effect of a command on everything but the queue. -/
def exec (i : Instr) (s : State) : Host.Outcome State Fault Refusal :=
  match i with
  | .reset => Sys2Proof.Machine.execReset s
  | .configurationRead image => Sys2Proof.Machine.execConfigurationRead image s
  | .listenPeriodEnd => Sys2Proof.Machine.execListenPeriodEnd s
  | .lostPeriodEnd => Sys2Proof.Machine.execLostPeriodEnd s
  | .frameOffer won => Sys2Proof.Machine.execFrameOffer won s
  | .frameAcknowledged => Sys2Proof.Machine.execFrameAcknowledged s
  | .frameNotAcknowledged => Sys2Proof.Machine.execFrameNotAcknowledged s
  | .busOff => Sys2Proof.Machine.execBusOff s
  | .duplicateStationFrame => Sys2Proof.Machine.execDuplicateStationFrame s
  | .runFirstFrame sender data => Sys2Proof.Machine.execRunFirstFrame sender data s
  | .programmeFirstFrame sender data => Sys2Proof.Machine.execProgrammeFirstFrame sender data s
  | .runLaterFrame kind sender data => Sys2Proof.Machine.execRunLaterFrame kind sender data s
  | .runAssemblySilence sender => Sys2Proof.Machine.execRunAssemblySilence sender s
  | .programmeSilence => Sys2Proof.Machine.execProgrammeSilence s
  | .rating sender data => Sys2Proof.Machine.execRating sender data s
  | .demand sender data => Sys2Proof.Machine.execDemand sender data s
  | .abort sender data => Sys2Proof.Machine.execAbort sender data s
  | .weldRequest => Sys2Proof.Machine.execWeldRequest s
  | .clear sender data => Sys2Proof.Machine.execClear sender data s
  | .programme => Sys2Proof.Machine.execProgramme s
  | .captureClear sender data => Sys2Proof.Machine.execCaptureClear sender data s
  | .recordQuery sender data => Sys2Proof.Machine.execRecordQuery sender data s
  | .traceQuery sender data => Sys2Proof.Machine.execTraceQuery sender data s
  | .fetchCompletion => Sys2Proof.Machine.execFetchCompletion s
  | .regulationInterval causesFirst readings => Sys2Proof.Machine.execRegulationInterval causesFirst readings s
  | .tenMsSample => Sys2Proof.Machine.execTenMsSample s
  | .headStatusPeriod => Sys2Proof.Machine.execHeadStatusPeriod s
  | .demandPeriod => Sys2Proof.Machine.execDemandPeriod s
  | .encoderEdge toward => Sys2Proof.Machine.execEncoderEdge toward s
  | .referenceMark => Sys2Proof.Machine.execReferenceMark s
  | .quadratureError what => Sys2Proof.Machine.execQuadratureError what s
  | .inputLevelChange input => Sys2Proof.Machine.execInputLevelChange input s
  | .contactorFeedbackTimeout => Sys2Proof.Machine.execContactorFeedbackTimeout s
  | .clampTimeout => Sys2Proof.Machine.execClampTimeout s
  | .pullStall => Sys2Proof.Machine.execPullStall s
  | .pullTimeout => Sys2Proof.Machine.execPullTimeout s
  | .settleExpiry => Sys2Proof.Machine.execSettleExpiry s
  | .admitTimeout => Sys2Proof.Machine.execAdmitTimeout s
  | .peerLapse station => Sys2Proof.Machine.execPeerLapse station s
  | .peerRemoval station => Sys2Proof.Machine.execPeerRemoval station s
  | .ratingAgeThreshold => Sys2Proof.Machine.execRatingAgeThreshold s
  | .yieldLimit => Sys2Proof.Machine.execYieldLimit s
  | .minrunExpiry => Sys2Proof.Machine.execMinrunExpiry s
  | .preheatPauseRestart => Sys2Proof.Machine.execPreheatPauseRestart s
  | .pulseOnEnd => Sys2Proof.Machine.execPulseOnEnd s
  | .pulseOffEnd => Sys2Proof.Machine.execPulseOffEnd s
  | .shortOnset => Sys2Proof.Machine.execShortOnset s
  | .openCircuit => Sys2Proof.Machine.execOpenCircuit s
  | .abortRetractStill => Sys2Proof.Machine.execAbortRetractStill s
  | .powerWindowComplete => Sys2Proof.Machine.execPowerWindowComplete s
  | .boostTimeReached => Sys2Proof.Machine.execBoostTimeReached s
  | .currentOff => Sys2Proof.Machine.execCurrentOff s
  | .upsetStall => Sys2Proof.Machine.execUpsetStall s
  | .upsetTimeout => Sys2Proof.Machine.execUpsetTimeout s
  | .holdTimeEnd => Sys2Proof.Machine.execHoldTimeEnd s
  | .shearTimeout => Sys2Proof.Machine.execShearTimeout s
  | .shearReturnTimeout => Sys2Proof.Machine.execShearReturnTimeout s
  | .releaseRampEnd => Sys2Proof.Machine.execReleaseRampEnd s
  | .clampOpenTimeout => Sys2Proof.Machine.execClampOpenTimeout s
  | .resetRelease grounded => Sys2Proof.Machine.execResetRelease grounded s

end Sys2Proof.Machine
end

