-- ==== Sys2Proof/Safety.lean ====
section
/-! DEFINITION. What a safe run is: the promises the manual makes of every state the head can be in. -/

namespace Sys2Proof.Machine

/-- A clamp line is never on together with the other line of its clamp (R43). -/
def Outputs.clampsApart (o : Outputs) : Bool := !(o.fixedClose && o.fixedOpen) && !(o.movingClose && o.movingOpen)

/-- The two shear lines are never on together (R92). -/
def Outputs.shearApart (o : Outputs) : Bool := !(o.shearAdvance && o.shearRetract)

/-- No pair of valve lines is on together, as commanded and at the wiring (R43, R92). -/
def State.linesApart (s : State) : Bool :=
  s.out.clampsApart && s.out.shearApart && s.wire.clampsApart && s.wire.shearApart

/-- The station numbers of a list of entries rise strictly (R97). -/
def risingStations : List Peer → Bool
  | [] => true
  | [_] => true
  | p :: q :: rest => decide (p.station < q.station) && risingStations (q :: rest)

/-- The peer table keeps its form: stations of the bus in strictly ascending order, the own number not among them (R97). -/
def State.peersFormed (s : State) : Bool :=
  risingStations s.share.peers
    && s.share.peers.all fun p => decide (p.station < 16) && decide (p.station ≠ s.station.val)

/-- Until the Loader has finished the table is empty: no frame has been received (R101, R185). -/
def State.peersSound (s : State) : Bool := s.peersFormed && (s.loader.finished || s.share.peers.isEmpty)

/-! ### Bounded stores -/

/-- The bounds of a weld context: 4 causes, 16 repeated latches, the energy accumulator, and the yield time (R14, R82, R132,
R149). -/
def WeldCtx.bounded (c : WeldCtx) : Bool :=
  decide (c.faults.length ≤ 4) && decide ((c.latches.filter fun l => l.kind.repeated).length ≤ 16)
    && decide (c.eRaw ≤ Config.energyMax) && decide (c.yieldTime ≤ c.yieldLimitMs)

/-- The bounded stores keep their bounds (R14, R82, R132, R149, R163, R164, R184). -/
def State.storesBounded (s : State) : Bool :=
  decide (s.link.notices.length ≤ Config.noticeLimit) && decide (s.records.list.length ≤ Config.recordLimit)
    && (s.records.list.all fun r => decide (r.faults.length ≤ 4)) && s.ctx.all WeldCtx.bounded

/-- A bank holds at most 576 blocks of 1 to 32 samples, and has room for the block being filled (R169, R173, R174). -/
def Bank.formed (b : Bank) : Bool :=
  decide (b.blocks.length ≤ Config.bankBlocks)
    && (!(b.capturing || b.filling.isSome) || decide (b.blocks.length < Config.bankBlocks))
    && (b.blocks.all fun k => decide (1 ≤ k.samples.length) && decide (k.samples.length ≤ Config.blockSamples))
    && b.filling.all fun k => decide (1 ≤ k.samples.length) && decide (k.samples.length < Config.blockSamples)

/-- Both banks are formed. -/
def State.banksFormed (s : State) : Bool := s.trace.bank0.formed && s.trace.bank1.formed

/-! ### The main contactor (R60) -/

/-- The weld context holds an upset current time: CURRENT OFF, or a stop in UPSET, lies behind (R86, R96). -/
def State.currentDone (s : State) : Bool := (s.ctx.bind fun c => c.curTime).isSome

/-- Where the contactor command may be CLOSED: PREHEAT in APPROACH or PULSE ON while not yielded, FLASH, BOOST, and UPSET
before CURRENT OFF; never in an abort retract (R1, R60). -/
def State.mayClose (s : State) : Bool :=
  match s.engine with
  | .preheat => !s.yielded && !s.aborting && decide ((s.ctx.bind fun c => c.sub) ≠ some .pulseOff)
  | .flash => !s.aborting
  | .boost => true
  | .upset => !s.currentDone
  | .starting | .configFault | .ready | .clamping | .pulling | .admitting | .hold | .trim | .releasing
  | .faultHold => false

/-- The engine states that come after the upset. -/
def Engine.afterUpset : Engine → Bool
  | .upset | .hold | .trim | .releasing | .faultHold => true
  | .starting | .configFault | .ready | .clamping | .pulling | .admitting | .preheat | .flash | .boost => false

/-- A RESUME rise is asked (R133). -/
def State.resuming (s : State) : Bool := s.share.rise.ask.elim false fun a => decide (a.source = .resume)

/-- What every state keeps between its parts: an abort retract runs in PREHEAT or FLASH with no rise pending (R18), and a
RESUME rise pends only there (R133, R138; log 20); the current is done only from UPSET on (R86); a weld state has its weld context
(R1, R2); and before the Loader has finished nothing has started (R24, R185). -/
def State.weldSound (s : State) : Bool :=
  (!s.aborting || s.share.rise.ask.isNone)
    && (!(s.aborting || s.resuming) || decide (s.engine = .preheat) || decide (s.engine = .flash))
    && (!s.currentDone || s.engine.afterUpset) && (!s.engine.isWeld || s.ctx.isSome)
    && (s.loader.finished
      || (decide (s.engine = .starting) && s.ctx.isNone && decide (s.link.state = .listening) && !s.link.listen.running))

/-- The contactor command is CLOSED only where it may be (R60). -/
def State.contactorSafe (s : State) : Bool := s.weldSound && (!s.out.contactor || s.mayClose)

/-! ### Current phases and the link (R11) -/

/-- The engine state stands with the link not JOINED: no weld before its upset stands so, but for an abort retract (R11,
R17 to R20). -/
def State.standsUnlinked (s : State) : Bool :=
  match s.engine with
  | .starting | .configFault | .ready | .upset | .hold | .trim | .releasing | .faultHold => true
  | .preheat | .flash => s.aborting
  | .clamping | .pulling | .admitting | .boost => false

/-- A weld before its upset stands only while JOINED, or in its abort retract (R11, R18). -/
def State.phasesLinked (s : State) : Bool := s.weldSound && (decide (s.link.state = .joined) || s.standsUnlinked)

/-! ### A weld in flight -/

/-- What one weld never unmakes, from one context of it to a later one: the copy and the request data, the fixed outcome,
the ending cause, and the counts and marks that only grow (R2, R21, R41, R68, R72, R131). -/
def WeldCtx.follows (c' c : WeldCtx) : Bool :=
  decide (c'.prog = c.prog) && decide (c'.request = c.request) && decide (c'.tag = c.tag) && decide (c'.slot = c.slot)
    && decide (c'.startPos = c.startPos) && decide (c'.pReq = c.pReq) && (c.outcome.isNone || decide (c'.outcome = c.outcome))
    && (c.ending.isNone || decide (c'.ending = c.ending)) && decide (c.burnOff ≤ c'.burnOff)
    && decide (c.weldTime ≤ c'.weldTime) && decide (c.eRaw ≤ c'.eRaw ∨ Config.energyMax < c.eRaw)
    && (!c.upsetBegun || c'.upsetBegun) && (!c.currentBegun || c'.currentBegun)

/-- The weld in flight has a serial below the next one to assign (R3, R4). -/
def State.serialsSound (s : State) : Bool := s.ctx.all fun c => decide (c.serial < s.nextSerial)

/-! ### What a programme may be (R28 to R36) -/

/-- The orders in which the records of a programme may stand (R30). -/
def recordOrders : List (List RecKind) :=
  [[], [.pull]].flatMap fun a => [[], [.preheat]].flatMap fun b => [1, 2, 3].flatMap fun n =>
    [[], [.boost]].flatMap fun d => [[], [.trim]].map fun e =>
      [.clamp] ++ a ++ b ++ List.replicate n .flash ++ d ++ [.upset, .hold] ++ e ++ [.release]

/-- The kinds are those of a whole programme (R30). -/
def isOrder (ks : List RecKind) : Bool := recordOrders.contains ks

/-- The kinds may stand at the head of a programme (R30). -/
def mayStand (ks : List RecKind) : Bool := recordOrders.any fun l => ks.isPrefixOf l

/-- The header fields and window bounds lie in their ranges (R28, R29). -/
def Programme.headerFits (p : Programme) : Bool :=
  decide (1 ≤ p.number ∧ p.number ≤ 65535 ∧ 1 ≤ p.tAdmit ∧ p.tAdmit ≤ 120 ∧ p.tYieldMax ≤ 60 ∧ 5 ≤ p.tMinrun
    ∧ p.tMinrun ≤ 100 ∧ p.overrun ≤ 10000
    ∧ p.windows.burnMin ≤ 100000 ∧ p.windows.burnMax ≤ 100000 ∧ p.windows.distanceMin ≤ 50000
    ∧ p.windows.forceMin ≤ 4000 ∧ p.windows.forceMax ≤ 4000 ∧ p.windows.curTimeMin ≤ 5000
    ∧ p.windows.curTimeMax ≤ 5000 ∧ p.windows.flashMin ≤ 6000 ∧ p.windows.flashMax ≤ 6000
    ∧ p.windows.energyMin ≤ 100000 ∧ p.windows.energyMax ≤ 100000 ∧ p.windows.maxShorts ≤ 255
    ∧ p.windows.maxOpen ≤ 60000)

/-- No lower bound of a window exceeds its upper bound (R29). -/
def Windows.boundsOrdered (w : Windows) : Bool :=
  decide (w.burnMin ≤ w.burnMax ∧ w.forceMin ≤ w.forceMax ∧ w.curTimeMin ≤ w.curTimeMax ∧ w.flashMin ≤ w.flashMax
    ∧ w.energyMin ≤ w.energyMax)

/-- The fields of a record lie in their ranges, and a FLASH record keeps its five relations; `first` tells the first FLASH
record (R31 to R35). -/
def RecBody.fits (first : Bool) : RecBody → Bool
  | .clamp t => decide (1000 ≤ t ∧ t ≤ 60000)
  | .pull r => decide (200 ≤ r.speed ∧ r.speed ≤ 20000 ∧ 1 ≤ r.forceLimit ∧ r.forceLimit ≤ 4000 ∧ r.tolerance ≤ 20000
      ∧ 1000 ≤ r.timeout ∧ r.timeout ≤ 300000)
  | .preheat r => decide (r.load ≤ 4000 ∧ 1 ≤ r.step ∧ r.step ≤ 8 ∧ 1 ≤ r.pulses ∧ r.pulses ≤ 40 ∧ 100 ≤ r.onTime
      ∧ r.onTime ≤ 10000 ∧ 100 ≤ r.offTime ∧ r.offTime ≤ 10000 ∧ 1 ≤ r.contactForce ∧ r.contactForce ≤ 4000
      ∧ 100 ≤ r.openDistance ∧ r.openDistance ≤ 20000 ∧ 100 ≤ r.approach ∧ r.approach ≤ 5000 ∧ r.pauseTolerance ≤ 30000)
  | .flash r => decide (r.reducedLoad ≤ r.load ∧ r.load ≤ 4000 ∧ 1 ≤ r.reducedStep ∧ r.reducedStep ≤ r.step ∧ r.step ≤ 8
      ∧ r.va ≤ r.vb ∧ r.vb ≤ 5000 ∧ 1000 ≤ r.lf ∧ r.lf ≤ 30000 ∧ r.iOpen < r.isRed ∧ r.isRed ≤ r.is ∧ r.is < r.isc
      ∧ r.isc ≤ 6000 ∧ r.k ≤ 255 ∧ 2 ≤ r.tsc ∧ r.tsc ≤ 100 ∧ 100 ≤ r.dr ∧ r.dr ≤ 20000 ∧ 100 ≤ r.vr ∧ r.vr ≤ 20000
      ∧ 10 ≤ r.tOpen ∧ r.tOpen ≤ 2000 ∧ (first = true → 100 ≤ r.approach ∧ r.approach ≤ 5000)
      ∧ (first = false → r.approach = 0))
  | .boost r => decide (r.load ≤ 4000 ∧ 1 ≤ r.step ∧ r.step ≤ 8 ∧ 100 ≤ r.speed ∧ r.speed ≤ 20000 ∧ 500 ≤ r.length
      ∧ r.length ≤ 20000 ∧ 100 ≤ r.time ∧ r.time ≤ 20000)
  | .upset r => decide (r.load ≤ 4000 ∧ 1000 ≤ r.speed ∧ r.speed ≤ 60000 ∧ 1 ≤ r.fu ∧ r.fu ≤ 4000 ∧ r.tuc ≤ 5000
      ∧ 1000 ≤ r.du ∧ r.du ≤ 30000 ∧ 500 ≤ r.timeout ∧ r.timeout ≤ 20000)
  | .hold f t => decide (f ≤ 4000 ∧ 1 ≤ t ∧ t ≤ 600)
  | .trim t => decide (1000 ≤ t ∧ t ≤ 60000)
  | .release t => decide (1000 ≤ t ∧ t ≤ 60000)

/-- The fields that R36 bounds stand within F_max, v_max and v_retract_max. -/
def RecBody.withinLimits (m : Image) : RecBody → Bool
  | .pull r => decide (r.forceLimit ≤ m.fMax ∧ r.speed ≤ m.vMax)
  | .preheat r => decide (r.contactForce ≤ m.fMax ∧ r.approach ≤ m.vMax)
  | .flash r => decide (r.approach ≤ m.vMax ∧ r.va ≤ m.vMax ∧ r.vb ≤ m.vMax ∧ r.vr ≤ m.vRetractMax)
  | .boost r => decide (r.speed ≤ m.vMax)
  | .upset r => decide (r.fu ≤ m.fMax ∧ r.speed ≤ m.vMax)
  | .hold f _ => decide (f ≤ m.fMax)
  | .clamp _ | .trim _ | .release _ => true

/-! ### Frames: a state with the DEMAND it may have placed left out -/

/-- The unit without its declaration and the time of its placement (R107). -/
def Share.besidesDemand (h : Share) : Share := { h with decl := .standby 0, demandTimer := 0 }

/-- The link without its DEMAND slot, and without the mark that a placement leaves on a frame on the bus (R184). -/
def Link.besidesDemand (l : Link) : Link :=
  { l with demandSlot := none, onBus := l.onBus.map fun f => { f with stale := false } }

/-- Everything but what a placement of DEMAND writes. -/
def State.besidesDemand (s : State) : State := { s with share := s.share.besidesDemand, link := s.link.besidesDemand }

/-- `t` is `u` with the declaration of the state placed where it had changed (R107). -/
def State.declaredAs (t u : State) : Prop := t.besidesDemand = u.besidesDemand ∧ t.share.decl = t.ownDecl

/-! ### Frames: a state with what a weld writes left out -/

/-- Everything but what the sequencing of a weld writes: the engine, the weld context and its units, the outputs, the own
rise and declaration, the records and the traces made, and the notices queued. The station, the image, the programmes,
the wiring as forwarded, the measurements, the peer table, the rating, the reception and the other transmit slots stay in
view. -/
def State.besidesWeld (s : State) : State :=
  { s with
    engine := .ready
    ctx := none
    awaiting := false
    yielded := false
    statusPeriod := 0
    statusTimer := 0
    stress := .reset
    mode := .idle
    upset := .reset
    out := .reset
    share := { s.share.besidesDemand with hold := none, rise := .idle, admitted := none }
    records := { s.records with list := [] }
    trace :=
      { TraceStore.reset with
        newest := s.trace.newest, copy := s.trace.copy, waiting := s.trace.waiting, gonePending := s.trace.gonePending }
    link := { s.link.besidesDemand with notices := [] } }

end Sys2Proof.Machine
end

