-- ==== Sys2Proof/Certificates/Slice0/Obligations.lean ====
section
/-! DEFINITION. The statements for the provers: what each command does to the head, and what every step keeps. -/

open Sys2Proof Sys2Proof.Machine

/-- The model's queue: a step takes the front command and runs it with the queue's rest; with none waiting the block idles
(log 9). -/
def Obligations.StepTakesTheFrontCommand : Prop :=
  (∀ (c : Instr) (rest : List Instr) (s : State), s.pending = c :: rest → step s = exec c { s with pending := rest })
    ∧ ∀ s : State, s.pending = [] → step s = .next s

/-! ### Reset and start-up -/

/-- R26, and the values R27, R42, R84, R101, R108, R109, R114, R140, R157, R169, R182, R184 and R185 give after reset. R188:
the straps are latched at the release of RESET, each tied strap counting its weight, and are not read again. That RESET
leaves the waiting commands, and stands before its release, is the model's choice (log 26). -/
def Obligations.ResetAndReleaseSetTheState : Prop :=
  (∀ s : State, ∃ t, exec .reset s = .next t ∧ t.pending = s.pending
    ∧ t.engine = .starting ∧ t.ctx = none ∧ t.nextSerial = 1 ∧ t.lastSerial = 0 ∧ t.yielded = false ∧ t.awaiting = false
    ∧ t.share.rise = ⟨.none, none, ⟨false, 0⟩, ⟨false, 0⟩⟩ ∧ t.statusPeriod = 1000
    ∧ t.out = ⟨false, 1, 0, 0, false, false, false, false, false, false⟩ ∧ t.wire = t.out
    ∧ t.slots.toList = [none, none, none, none] ∧ t.share.peers = [] ∧ t.share.rating = none ∧ t.share.genState = none
    ∧ t.share.ratingAge = none ∧ t.share.source = .none ∧ t.share.everJoined = false
    ∧ t.meas.im = 0 ∧ t.meas.um = 0 ∧ t.meas.fm = 0 ∧ t.meas.satI = false ∧ t.meas.satU = false ∧ t.meas.satF = false
    ∧ t.meas.velocity = 0 ∧ t.meas.position = 0 ∧ t.meas.homed = false ∧ t.meas.positionError = false
    ∧ (∀ i : Input, t.level i = false ∧ (t.meas.inputs.get i).established = false ∧ t.meas.capture.get i = false)
    ∧ t.meas.fbTimer = 0 ∧ t.meas.condEmergency = false ∧ t.meas.condTrain = false ∧ t.meas.condClamp = false
    ∧ t.meas.condForce = false ∧ t.meas.fbReported = false ∧ t.meas.sampleIntervals = 0
    ∧ t.stress = ⟨⟨false, 0⟩, 0, none, none, ⟨false, 0⟩⟩ ∧ t.mode = .idle ∧ t.upset = ⟨⟨false, 0⟩, 0, none, 0⟩
    ∧ t.records.list = [] ∧ t.records.sending = none ∧ t.records.waiting = none
    ∧ (∀ b : Bool, (t.trace.bank b).owner = none ∧ (t.trace.bank b).blocks = [] ∧ (t.trace.bank b).filling = none
        ∧ (t.trace.bank b).capturing = false ∧ (t.trace.bank b).truncated = false)
    ∧ t.trace.newest = none ∧ t.trace.readout = .idle ∧ t.trace.stream = none ∧ t.trace.copy = none
    ∧ t.trace.waiting = none ∧ t.trace.gonePending = false
    ∧ t.link.state = .listening ∧ t.link.listen.running = false ∧ t.link.failed = 0 ∧ t.link.notices = []
    ∧ t.link.demandSlot = none ∧ t.link.statusSlot = none ∧ t.link.recordSlot = none ∧ t.link.traceSlot = none
    ∧ t.link.weldRuns = [] ∧ t.link.progRun = none)
  ∧ ∀ (g : BitVec 4) (s : State),
    (s.loader = .held → ∃ t, exec (.resetRelease g) s = .next t
      ∧ t = { s with station := t.station, loader := .reading }
      ∧ t.station.val = (if g.getLsbD 0 then 1 else 0) + (if g.getLsbD 1 then 2 else 0) + (if g.getLsbD 2 then 4 else 0)
          + (if g.getLsbD 3 then 8 else 0))
    ∧ (s.loader ≠ .held → exec (.resetRelease g) s = .next s)

/-- R24, R181, R185, R188: the report on the 64 bytes read, CONFIG FAULT on a fault, and the start of the listen period at the
bit rate of the image's code, or at 250 kbit/s in CONFIG FAULT. That a bad image leaves the old one in State, and that
bytes without the marker are reported unreadable alone, whatever else is wrong, are the model's choices (logs 2 and 57). -/
def Obligations.ConfigurationReadReports : Prop :=
  ∀ (image : Vector Byte 64) (s : State), s.loader = .reading →
    ∃ t, exec (.configurationRead image) s = .next t ∧ t.link.state = s.link.state ∧ t.link.listen = ⟨true, 0⟩
      ∧ t.station = s.station ∧ t.ctx = s.ctx ∧ t.out = s.out ∧ t.meas = s.meas ∧ t.slots = s.slots
      ∧ (natAt image.toList 0 1 ≠ 166 → t.loader = .unreadable)
      ∧ (natAt image.toList 0 1 = 166 →
          natAt image.toList 62 2 ≠ ((image.toList.take 62).map BitVec.toNat).sum % 65536 → t.loader = .wrongSum)
      ∧ (natAt image.toList 0 1 = 166 → imageInRange image.toList = false → t.loader = .wrongSum)
      ∧ (natAt image.toList 0 1 = 166 →
          natAt image.toList 62 2 = ((image.toList.take 62).map BitVec.toNat).sum % 65536 →
          imageInRange image.toList = true → t.loader = .good)
      ∧ (t.loader = .good → t.image = imageOf image.toList ∧ t.engine = s.engine ∧ t.share.decl = t.ownDecl
          ∧ [125, 250, 500, 1000][natAt image.toList 1 1]? = some t.link.bitRate)
      ∧ (t.loader ≠ .good → t.image = s.image ∧ t.engine = .configFault ∧ t.link.bitRate = 250)

/-- R24, R107, R185: the end of the listen period; R101, R186: the end of the stay in LOST. The times are the model's, in
steps of 2 ms (log 3). Records stay as they are where a RESUME rise pends only in PREHEAT or FLASH (R133, R138; log 20), as
`weldSound` has it, and `Obligations.CurrentPhasesStayLinked` says that steps keep it. -/
def Obligations.LinkPeriodsEnd : Prop :=
  (∀ s : State, s.link.state = .listening → s.link.listen.running = true → 250 ≤ s.link.listen.ms →
    (s.engine = .starting ∨ s.engine = .ready) →
    ∃ t, exec .listenPeriodEnd s = .next t ∧ t.link.state = .joined ∧ t.link.listen.running = false
      ∧ t.share.everJoined = true ∧ t.engine = .ready ∧ t.link.demandSlot = some t.share.decl
      ∧ t.share.decl = t.ownDecl ∧ t.share.source = t.sourceNow ∧ t.share.peers = s.share.peers
      ∧ t.meas = s.meas ∧ t.slots = s.slots ∧ t.records = s.records)
    ∧ ∀ s : State, s.link.state = .lost → 1000 ≤ s.link.lostTimer →
      ∃ t, exec .lostPeriodEnd s = .next t ∧ t.link.state = .listening ∧ t.link.listen = ⟨true, 0⟩ ∧ t.link.failed = 0
        ∧ t.share.peers = [] ∧ t.share.rating = s.share.rating ∧ t.share.source = s.share.source
        ∧ t.share.ratingAge = s.share.ratingAge ∧ (s.weldSound = true → t.records = s.records) ∧ t.slots = s.slots ∧ t.meas = s.meas
        ∧ t.image = s.image

/-! ### The bus -/

/-- R184: the frame taken onto the bus is the ready one of the lowest identifier: DEMAND, then HEAD STATUS, then NOTICE,
then RECORD DATA or TRACE BLOCK, whichever of the two runs has started, and RECORD DATA where neither has; an arbitration
lost leaves everything to be offered again (R181). The operand that tells who wins and the 5 ms spacing in steps of
2 ms are the model's choice (logs 22 and 30). -/
def Obligations.FrameOfferTakesTheLowestIdentifier : Prop :=
  ∀ s : State, s.link.state = .joined → s.link.onBus = none →
    exec (.frameOffer false) s = .next s
    ∧ (s.link.ready = none → exec (.frameOffer true) s = .next s)
    ∧ (∀ d, s.link.demandSlot = some d → 5 ≤ s.link.demandGap →
        exec (.frameOffer true) s = .next { s with link :=
          { s.link with onBus := some ⟨.demand, 32 + s.station.val, d.bytes, false⟩, demandGap := 0 } })
    ∧ (∀ r b, (s.link.demandSlot = none ∨ s.link.demandGap < 5) → s.link.statusSlot = some r →
        r.frames[r.next]? = some b →
        exec (.frameOffer true) s = .next { s with link :=
          { s.link with onBus := some ⟨.headStatus, 96 + s.station.val, b, false⟩ } })
    ∧ (∀ n rest b, (s.link.demandSlot = none ∨ s.link.demandGap < 5) → s.link.statusSlot = none →
        s.link.notices = n :: rest → (headFrames n.bytes)[s.link.noticeNext]? = some b →
        exec (.frameOffer true) s = .next { s with link :=
          { s.link with onBus := some ⟨.notice, 112 + s.station.val, b, false⟩ } })
    ∧ (∀ r b, (s.link.demandSlot = none ∨ s.link.demandGap < 5) → s.link.statusSlot = none → s.link.notices = [] →
        (∀ q, s.link.traceSlot = some q → q.next = 0) → s.link.recordSlot = some r → r.frames[r.next]? = some b →
        exec (.frameOffer true) s = .next { s with link :=
          { s.link with onBus := some ⟨.recordData, 176 + s.station.val, b, false⟩ } })
    ∧ (∀ r b, (s.link.demandSlot = none ∨ s.link.demandGap < 5) → s.link.statusSlot = none → s.link.notices = [] →
        (s.link.recordSlot = none ∨ 0 < r.next ∧ ∀ q, s.link.recordSlot = some q → q.next = 0) →
        s.link.traceSlot = some r → r.frames[r.next]? = some b →
        exec (.frameOffer true) s = .next { s with link :=
          { s.link with onBus := some ⟨.traceBlock, 208 + s.station.val, b, false⟩ } })

/-- R184, R186: an acknowledged frame leaves, and sets the failed-transmit counter to 0; a slot filled anew meanwhile keeps
its message (log 23). R178, R179: the last frame of a TRACE BLOCK run ends the stream, fetches or awaits its next block,
tells the block gone, or takes the waiting query. -/
def Obligations.FrameAcknowledgedLeaves : Prop :=
  ∀ (s : State) (f : TxFrame), s.link.onBus = some f →
    (f.stale = true → exec .frameAcknowledged s = .next { s with link := { s.link with onBus := none, failed := 0 } })
    ∧ (f.stale = false → f.kind = .demand →
        exec .frameAcknowledged s = .next { s with link :=
          { s.link with onBus := none, failed := 0, demandSlot := none } })
    ∧ (∀ r, f.stale = false → f.kind = .headStatus → s.link.statusSlot = some r →
        exec .frameAcknowledged s = .next { s with link :=
          { s.link with
            onBus := none
            failed := 0
            statusSlot := if r.next + 1 < r.frames.length then some { r with next := r.next + 1 } else none } })
    ∧ (∀ n rest, f.stale = false → f.kind = .notice → s.link.notices = n :: rest →
        s.link.noticeNext + 1 = (headFrames n.bytes).length →
        exec .frameAcknowledged s = .next { s with link :=
          { s.link with onBus := none, failed := 0, notices := rest, noticeNext := 0 } })
    ∧ (∀ r, f.stale = false → f.kind = .recordData → s.link.recordSlot = some r → r.next + 1 = r.frames.length →
        s.records.waiting = none →
        exec .frameAcknowledged s = .next { s with
          link := { s.link with onBus := none, failed := 0, recordSlot := none }
          records := { s.records with sending := none } })
    ∧ (∀ r, f.stale = false → f.kind = .traceBlock → s.link.traceSlot = some r → r.next + 1 < r.frames.length →
        exec .frameAcknowledged s = .next { s with link :=
          { s.link with onBus := none, failed := 0, traceSlot := some { r with next := r.next + 1 } } })
    ∧ (∀ (r : TxRun) (st : Stream) (l : Link) (b : Bank), f.stale = false → f.kind = .traceBlock →
        s.link.traceSlot = some r → r.next + 1 = r.frames.length → s.trace.stream = some st →
        l = { s.link with onBus := none, failed := 0, traceSlot := none } → b = s.trace.bank st.bank1 →
        (s.trace.gonePending = false → s.trace.waiting = none →
          (st.follow = false → exec .frameAcknowledged s = .next { s with
            link := l, trace := { s.trace with readout := .idle, stream := none, copy := none } })
          ∧ (st.follow = true → st.index + 1 < b.blocks.length → exec .frameAcknowledged s = .next { s with
            link := l
            trace := { s.trace with
              readout := .fetching, stream := some { st with index := st.index + 1 }, copy := none } })
          ∧ (st.follow = true → st.index + 1 = b.blocks.length → b.capturing = true →
            exec .frameAcknowledged s = .next { s with
              link := l
              trace := { s.trace with
                readout := .paused, stream := some { st with index := st.index + 1 }, copy := none } })
          ∧ (st.follow = true → b.blocks.length ≤ st.index + 1 →
              (b.blocks.length < st.index + 1 ∨ b.capturing = false) → exec .frameAcknowledged s = .next { s with
            link := l, trace := { s.trace with readout := .idle, stream := none, copy := none } }))
        ∧ (s.trace.gonePending = true → s.trace.waiting = none → s.link.notices.length < 8 →
          exec .frameAcknowledged s = .next { s with
            link := { l with notices := s.link.notices ++ [.traceGone st.serial st.index] }
            trace := { s.trace with readout := .idle, stream := none, copy := none, gonePending := false } })
        ∧ (∀ q, s.trace.gonePending = false → s.trace.waiting = some q → q.serial ≠ 0 →
          ((s.trace.bank (bankOf q.serial)).owner = some q.serial →
            q.index < (s.trace.bank (bankOf q.serial)).blocks.length →
            exec .frameAcknowledged s = .next { s with
              link := l
              trace := { s.trace with
                readout := .fetching, copy := none, waiting := none
                stream := some ⟨q.serial, bankOf q.serial, q.index, q.follow, q.offset⟩ } })
          ∧ ((s.trace.bank (bankOf q.serial)).owner ≠ some q.serial → s.link.notices.length < 8 →
            exec .frameAcknowledged s = .next { s with
              link := { l with notices := s.link.notices ++ [.traceGone q.serial q.index] }
              trace := { s.trace with readout := .idle, stream := none, copy := none, waiting := none } })))

/-- R186 and R187: the failed transmissions, bus-off and a duplicate in JOINED lose the link; a duplicate in LISTENING
restarts the listen period. -/
def Obligations.LinkIsLost : Prop :=
  ∀ (s : State) (f : TxFrame),
    (s.link.state = .joined → s.link.onBus = some f → s.link.failed + 1 < 16 →
      exec .frameNotAcknowledged s = .next { s with link :=
        { s.link with onBus := none, failed := s.link.failed + 1 } })
    ∧ (s.link.state = .listening → s.receives = true →
        exec .duplicateStationFrame s = .next { s with link := { s.link with listen := ⟨true, 0⟩ } })
    ∧ (s.link.state = .lost → exec .duplicateStationFrame s = .next s)
    ∧ ∀ i : Instr, s.link.state = .joined →
        (i = .busOff ∨ (i = .duplicateStationFrame ∧ s.receives = true)
          ∨ (i = .frameNotAcknowledged ∧ s.link.onBus = some f ∧ s.link.failed = 15)) →
        ∃ t, exec i s = .next t ∧ t.link.state = .lost ∧ t.link.lostTimer = 0 ∧ t.link.onBus = none
          ∧ t.link.demandSlot = none ∧ t.link.recordSlot = none ∧ t.link.traceSlot = none
          ∧ t.link.statusSlot = s.link.statusSlot.map (fun r => { r with next := 0 }) ∧ t.link.noticeNext = 0
          ∧ t.records.sending = none ∧ t.trace.readout = .idle ∧ t.trace.stream = none ∧ t.trace.waiting = none
          ∧ t.share.peers = s.share.peers ∧ t.share.rating = s.share.rating ∧ t.slots = s.slots ∧ t.image = s.image
          ∧ (s.engine = .ready → t.engine = .ready ∧ t.ctx = s.ctx ∧ t.out = s.out)
          ∧ (∀ c, s.engine = .hold → s.ctx = some c → t.engine = .hold ∧ t.out = s.out
              ∧ ∃ c', t.ctx = some c' ∧ Reason.linkLost ∈ c'.reasons ∧ Reason.lateAbort ∈ c'.reasons
                ∧ c'.ending = some (c.ending.getD .linkLost))

/-- R182, R183: the first frame of a WELD REQUEST run starts its sender's assembly, and the second completes it and passes
the run on, in LISTENING with the check of R3 that refuses it: BUSY in STARTING, CONFIG FAULT and a weld, and otherwise
FAULT HOLD or ISOLATED; a frame out of place, or 100 ms of its sender's silence, discards it. The queue of complete runs is
the model's choice (log 7). R181, R187: an identifier is the kind code × 16 plus the sender; a frame of the own number is a
duplicate, a 29-bit one by its value modulo 16 and a remote one among them, and it reaches no owner, which are the model's
choices (logs 46 and 19); of the others 29-bit identifiers, remote frames, identifiers above 223, kind code 0 and the runs
of the head kinds are no command; each kind of a console, a head's DEMAND and RATING is its own, and a frame of a WELD
REQUEST or PROGRAMME run is a first or a later one by its byte 0. -/
def Obligations.WeldRequestRunIsAssembled : Prop :=
  (∀ (f : BusFrame) (own : Station),
    (f.ident % 16 = own.val → f.command own = some .duplicateStationFrame)
    ∧ (f.ident % 16 ≠ own.val → (f.extended = true ∨ f.remote = true ∨ 223 < f.ident ∨ f.ident < 16) →
        f.command own = none)
    ∧ (∀ n : Station, n ≠ own → f.extended = false → f.remote = false →
        (f.ident = 16 + n.val → f.command own = some (.rating n f.data))
        ∧ (f.ident = 32 + n.val → f.command own = some (.demand n f.data))
        ∧ (f.ident = 48 + n.val → f.command own = some (.abort n f.data))
        ∧ (f.ident = 64 + n.val → 192 ≤ natAt f.data 0 1 → f.command own = some (.runFirstFrame n f.data))
        ∧ (f.ident = 64 + n.val → natAt f.data 0 1 < 192 → f.command own = some (.runLaterFrame .weldRequest n f.data))
        ∧ (f.ident = 80 + n.val → f.command own = some (.clear n f.data))
        ∧ (f.ident = 128 + n.val → 192 ≤ natAt f.data 0 1 → f.command own = some (.programmeFirstFrame n f.data))
        ∧ (f.ident = 128 + n.val → natAt f.data 0 1 < 192 → f.command own = some (.runLaterFrame .programme n f.data))
        ∧ (f.ident = 144 + n.val → f.command own = some (.captureClear n f.data))
        ∧ (f.ident = 160 + n.val → f.command own = some (.recordQuery n f.data))
        ∧ (f.ident = 192 + n.val → f.command own = some (.traceQuery n f.data))
        ∧ (f.ident ∈ [96 + n.val, 112 + n.val, 176 + n.val, 208 + n.val] → f.command own = none)))
  ∧ ∀ (s : State) (n : Station) (tgt : Byte) (rest : List Byte), s.receives = true → n ≠ s.station →
    (tgt.toNat = s.station.val → ∃ t, exec (.runFirstFrame n (194#8 :: tgt :: rest)) s = .next t
      ∧ t = { s with link := { s.link with weldRuns := t.link.weldRuns } }
      ∧ (t.link.weldRuns.filter fun a => decide (a.sender = n.val)) = [⟨n.val, 2, 1, rest, 0, false⟩]
      ∧ (t.link.weldRuns.filter fun a => decide (a.sender ≠ n.val))
          = s.link.weldRuns.filter fun a => decide (a.sender ≠ n.val))
    ∧ (∀ a, s.link.weldRuns = [a] → a.sender = n.val → a.length = 2 → a.got = 1 → a.elsewhere = false →
        exec (.runLaterFrame .weldRequest n (1#8 :: rest)) s = .next { s with link :=
          { s.link with weldRuns := [], weldReady := s.link.weldReady ++ [s.weldRun (a.payload ++ rest)] } })
    ∧ (s.weldRun rest).payload = rest
    ∧ (s.link.state = .joined → (s.weldRun rest).refusal = none)
    ∧ (s.link.state = .listening →
        (s.engine ≠ .ready → s.engine ≠ .faultHold → (s.weldRun rest).refusal = some .busy)
        ∧ (Config.serialMax < s.nextSerial → (s.weldRun rest).refusal = some .busy)
        ∧ (s.nextSerial ≤ Config.serialMax → s.engine = .faultHold → (s.weldRun rest).refusal = some .faultHold)
        ∧ (s.nextSerial ≤ Config.serialMax → s.engine = .ready → (s.weldRun rest).refusal = some .isolated))
    ∧ (∀ a, s.link.weldRuns = [a] → a.sender = n.val → a.got = 1 →
        exec (.runLaterFrame .weldRequest n (2#8 :: rest)) s = .next { s with link :=
          { s.link with weldRuns := [] } })
    ∧ (∀ a, a ∈ s.link.weldRuns → a.sender = n.val → 100 ≤ a.silence →
        ∃ t, exec (.runAssemblySilence n) s = .next t ∧ t.declaredAs { s with link :=
          { s.link with weldRuns := s.link.weldRuns.filter fun b => decide (b.sender ≠ n.val) } })

/-- R37, R182, R183: a PROGRAMME first frame of a run of 1 to 48 frames addressed to this head takes a FREE buffer and its
own, and is dropped where another sender's run holds it; another run length starts nothing. A later frame with the index
next expected is appended, one with any other index discards the run, and one of another sender is ignored; the last frame,
the first of a run of one, hands the run to validation while JOINED and frees the buffer; 100 ms of the sender's silence
discard the run. A first frame for another station leaves the partial run of its sender, and the frames that follow it are
not assembled (that one with the index next expected leaves the run as it is, is the model's choice, log 43). The queue of
complete runs is the model's choice too (logs 7 and 24). -/
def Obligations.ProgrammeBufferHoldsOneRun : Prop :=
  ∀ (s : State) (n : Station) (b0 tgt : Byte) (rest : List Byte) (ready : Nat → List Byte → List ProgRun),
    s.receives = true → n ≠ s.station →
    (∀ k payload, ready k payload = (if s.link.state = .joined then s.link.progReady ++ [⟨k, payload⟩]
      else s.link.progReady)) →
    (∀ k, tgt.toNat = s.station.val → b0.toNat = 192 + k → 1 ≤ k → k ≤ 48 →
      (s.link.progRun = none ∨ ∃ a, s.link.progRun = some a ∧ a.sender = n.val) →
      (2 ≤ k → exec (.programmeFirstFrame n (b0 :: tgt :: rest)) s = .next { s with link :=
        { s.link with progRun := some ⟨n.val, k, 1, rest, 0, false⟩ } })
      ∧ (k = 1 → exec (.programmeFirstFrame n (b0 :: tgt :: rest)) s = .next { s with link :=
        { s.link with progRun := none, progReady := ready 1 rest } }))
    ∧ (∀ a, tgt.toNat = s.station.val → s.link.progRun = some a → a.sender ≠ n.val →
        exec (.programmeFirstFrame n (b0 :: tgt :: rest)) s = .next s)
    ∧ (∀ a, tgt.toNat = s.station.val → (b0.toNat < 193 ∨ 240 < b0.toNat) → s.link.progRun = some a → a.sender = n.val →
        exec (.programmeFirstFrame n (b0 :: tgt :: rest)) s = .next { s with link :=
          { s.link with progRun := some { a with silence := 0 } } })
    ∧ ((s.link.progRun = none ∨ ∃ a, s.link.progRun = some a ∧ a.sender ≠ n.val) →
        (tgt.toNat ≠ s.station.val ∨ b0.toNat < 193 ∨ 240 < b0.toNat) →
        exec (.programmeFirstFrame n (b0 :: tgt :: rest)) s = .next s)
    ∧ (∀ a, s.link.progRun = some a → a.sender = n.val → a.elsewhere = false → b0.toNat < 192 →
        b0.toNat % 64 = a.got →
        (a.got + 1 < a.length → exec (.runLaterFrame .programme n (b0 :: rest)) s = .next { s with link :=
          { s.link with progRun := some { a with got := a.got + 1, payload := a.payload ++ rest, silence := 0 } } })
        ∧ (a.length ≤ a.got + 1 → exec (.runLaterFrame .programme n (b0 :: rest)) s = .next { s with link :=
          { s.link with progRun := none, progReady := ready (a.got + 1) (a.payload ++ rest) } }))
    ∧ (∀ a, s.link.progRun = some a → a.sender = n.val → b0.toNat < 192 → b0.toNat % 64 ≠ a.got →
        exec (.runLaterFrame .programme n (b0 :: rest)) s = .next { s with link := { s.link with progRun := none } })
    ∧ ((s.link.progRun = none ∨ ∃ a, s.link.progRun = some a ∧ a.sender ≠ n.val) →
        exec (.runLaterFrame .programme n (b0 :: rest)) s = .next s)
    ∧ (∀ a, tgt.toNat ≠ s.station.val → s.link.progRun = some a → a.sender = n.val →
        exec (.programmeFirstFrame n (b0 :: tgt :: rest)) s = .next { s with link :=
          { s.link with progRun := some { a with silence := 0, elsewhere := true } } })
    ∧ (∀ a, s.link.progRun = some a → a.sender = n.val → a.elsewhere = true → a.got < a.length → b0.toNat < 192 →
        b0.toNat % 64 = a.got →
        exec (.runLaterFrame .programme n (b0 :: rest)) s = .next { s with link :=
          { s.link with progRun := some { a with silence := 0 } } })
    ∧ (∀ a, s.link.progRun = some a → 100 ≤ a.silence →
        ∃ t, exec .programmeSilence s = .next t ∧ t.declaredAs { s with link := { s.link with progRun := none } })

/-! ### Load sharing -/

/-- R108, R109: a RATING of the generator station sets the rating, the generator state and the age; any other sender's is
ignored. R110, R130, R131, R66: where it lowers the budget to `b`, a yieldable head in FLASH with no rise pending on the bus
yields if excess_B is above 0 and above R_below, the reductions of the candidates below it (R127), and goes on otherwise. The
position of the latch is the model's inference (log 18). Records stay as they are where a RESUME rise pends only in PREHEAT
or FLASH (R133, R138; log 20), as `weldSound` has it and steps keep it. -/
def Obligations.RatingIsTakenFromTheGenerator : Prop :=
  ∀ (s : State) (n : Station) (d : List Byte), s.receives = true → n ≠ s.station → s.engine ≠ .configFault →
    (n.val ≠ s.image.generator → exec (.rating n d) s = .next s)
    ∧ (n.val = s.image.generator → 3 ≤ d.length →
        ∃ t, exec (.rating n d) s = .next t ∧ t.share.rating = some (min (natAt d 0 2) 4000)
          ∧ t.share.genState = some (genStateOf (natAt d 2 1)) ∧ t.share.ratingAge = some 0
          ∧ t.share.source = .generator ∧ t.share.peers = s.share.peers ∧ t.meas = s.meas ∧ t.slots = s.slots
          ∧ (s.weldSound = true → t.records = s.records) ∧ t.link.state = s.link.state
          ∧ ∀ (c : WeldCtx) (q : FlashRec) (b : Nat) (excess : Int), s.engine = .flash → s.ctx = some c → c.flash? = some q →
            s.share.rise.ask = none → s.highestRise = none → 0 < s.reduction →
            b = (if genStateOf (natAt d 2 1) = .stopping then 0
              else min (natAt d 0 2) 4000 * (100 - s.image.reserve) / 100) →
            excess = (((s.share.peers.map fun p => if p.rise.isSome then max p.present p.claim else p.present).sum
              + s.presentLoad : Nat) : Int) - (b : Int) →
            (b < s.budget → 0 < excess → (s.rBelow 1 none : Int) < excess →
              ∃ c', t.ctx = some c' ∧ t.engine = .flash ∧ t.yielded = true ∧ t.mode = s.mode
                ∧ t.out = { s.out with step := q.reducedStep } ∧ c'.yieldCount = min (c.yieldCount + 1) 65535
                ∧ c'.guard = none ∧ c'.yieldTime = c.yieldTime ∧ t.share.decl.yielded = true ∧ t.share.decl.reduction = 0
                ∧ t.share.decl.present = s.share.hold.getD q.reducedLoad
                ∧ (c.lists .yield = true → c'.latches = c.latches ++ [⟨.yield, s.meas.intervalPos, c.weldTime⟩]))
            ∧ ((s.budget ≤ b ∨ excess ≤ 0 ∨ excess ≤ (s.rBelow 1 none : Int)) →
                t.yielded = s.yielded ∧ t.ctx = s.ctx ∧ t.out = s.out ∧ t.engine = s.engine))

/-- R98: a DEMAND makes its sender's entry or writes it anew, LIVE with silence 0, and leaves every other entry. Records stay
as they are where a RESUME rise pends only in PREHEAT or FLASH (R133, R138; log 20), as `weldSound` has it and steps keep it. -/
def Obligations.DemandEntersTheTable : Prop :=
  ∀ (s : State) (n : Station) (d : List Byte), s.receives = true → n ≠ s.station → s.engine ≠ .configFault →
    8 ≤ d.length → risingStations s.share.peers = true →
    ∃ t, exec (.demand n d) s = .next t ∧ Peer.ofDemand n.val d ∈ t.share.peers
      ∧ (∀ p ∈ t.share.peers, p.station = n.val → p = Peer.ofDemand n.val d)
      ∧ (∀ p : Peer, p.station ≠ n.val → (p ∈ t.share.peers ↔ p ∈ s.share.peers))
      ∧ risingStations t.share.peers = true ∧ t.meas = s.meas ∧ t.slots = s.slots
      ∧ (s.weldSound = true → t.records = s.records)

/-- R116, R129, R131, R66: with no other station in the table, a DEMAND of a higher-ranked rise withdraws the own rise in
SETTLING, which is then declared no more; and one of class 0 that the budget cannot hold beside this head's load makes
a head in FLASH yield: flag, YIELD latch, yield count, and the reduced step. The position of the latch is the model's
inference (log 18). -/
def Obligations.DemandOfAHigherRise : Prop :=
  ∀ (s : State) (n : Station) (d : List Byte) (c : WeldCtx), s.receives = true → n ≠ s.station →
    8 ≤ d.length → s.share.peers = [] → s.yielded = false → s.ctx = some c →
    (∀ a, s.engine = .admitting → s.share.rise.state = .settling → s.share.rise.ask = some a → s.share.admitted = none →
      ((Peer.ofDemand n.val d).rise.elim false fun k => outranks k n.val a.cls s.station.val) = true →
      ∃ t, exec (.demand n d) s = .next t ∧ t.share.rise = { s.share.rise with
          state := .withdrawn, settle := ⟨false, s.share.rise.settle.ms⟩ }
        ∧ t.share.decl.rise = none ∧ t.engine = .admitting ∧ t.ctx = s.ctx ∧ t.out = s.out)
    ∧ (∀ r, s.engine = .flash → c.flash? = some r → c.lists .yield = true → s.share.rise.ask = none →
        s.share.rise.state = .none → s.reduction ≠ 0 → (Peer.ofDemand n.val d).rise = some 0 →
        s.budget < (Peer.ofDemand n.val d).claim + s.presentLoad →
        ∃ t c', exec (.demand n d) s = .next t ∧ t.yielded = true ∧ t.engine = .flash ∧ t.mode = s.mode
          ∧ t.ctx = some c' ∧ c'.yieldCount = min (c.yieldCount + 1) 65535 ∧ c'.guard = none
          ∧ c'.latches = c.latches ++ [⟨.yield, s.meas.intervalPos, c.weldTime⟩] ∧ c'.burnOff = c.burnOff
          ∧ t.out = { s.out with step := r.reducedStep } ∧ t.share.decl.yielded = true ∧ t.share.decl.reduction = 0
          ∧ (s.share.hold = none → t.share.decl.present = r.reducedLoad))

/-- R98, R99: the values of a DEMAND as they are written into the entry of its sender, LIVE with silence 0. -/
def Obligations.DemandValuesAreClamped : Prop :=
  ∀ (n : Nat) (d : List Byte),
    (Peer.ofDemand n d).station = n ∧ (Peer.ofDemand n d).live = true ∧ (Peer.ofDemand n d).silence = 0
    ∧ (Peer.ofDemand n d).present = min (natAt d 2 2) 4000
    ∧ (natAt d 1 1 = 0 → (Peer.ofDemand n d).rise = none ∧ (Peer.ofDemand n d).claim = (Peer.ofDemand n d).present)
    ∧ (natAt d 1 1 ≠ 0 → (Peer.ofDemand n d).rise = some (min (natAt d 1 1 - 1) 2)
        ∧ (Peer.ofDemand n d).claim = min (natAt d 4 2) 4000)
    ∧ (natAt d 0 1 % 16 = 0 → (Peer.ofDemand n d).kind = .head
        ∧ (Peer.ofDemand n d).reduction = min (min (natAt d 6 2 % 32768) 4000) (Peer.ofDemand n d).present
        ∧ (Peer.ofDemand n d).yielded = decide (32768 ≤ natAt d 6 2))
    ∧ (natAt d 0 1 % 16 ≠ 0 → (Peer.ofDemand n d).kind = .auxiliary ∧ (Peer.ofDemand n d).reduction = 0
        ∧ (Peer.ofDemand n d).yielded = false)
    ∧ (natAt d 0 1 / 16 = 1 → (Peer.ofDemand n d).phaseClass = .preheat)
    ∧ (natAt d 0 1 / 16 = 2 → (Peer.ofDemand n d).phaseClass = .flash)
    ∧ (natAt d 0 1 / 16 = 3 → (Peer.ofDemand n d).phaseClass = .boost)
    ∧ (natAt d 0 1 / 16 = 0 ∨ 3 < natAt d 0 1 / 16 → (Peer.ofDemand n d).phaseClass = .standby)

/-- R112: the order of rises. A pending RISE is a LIVE entry with intent RISE; it ranks above the own rise where its class
is lower, or the classes are equal and its station number is lower, and below it otherwise, so that no two are equal; the
kind of the entry does not matter; and a LAPSED entry with intent RISE still counts at max(present, claim). -/
def Obligations.RisesAreRanked : Prop :=
  ∀ (p : Peer) (cls own : Nat),
    (p.above cls own = true ↔ p.live = true ∧ ∃ k, p.rise = some k ∧ (k < cls ∨ (k = cls ∧ p.station < own)))
    ∧ (p.live = true → p.rise.isSome = true → p.station ≠ own → (p.below cls own = true ↔ p.above cls own = false))
    ∧ (p.live = false ∨ p.rise = none → p.above cls own = false ∧ p.below cls own = false)
    ∧ (∀ x : StationKind, ({ p with kind := x } : Peer).above cls own = p.above cls own
        ∧ ({ p with kind := x } : Peer).below cls own = p.below cls own)
    ∧ (p.live = false → p.rise.isSome = true → p.countedFor cls own = max p.present p.claim)
    ∧ (∀ (q : Peer) (k m : Nat), p.rise = some k → q.rise = some m →
        (p.ranksAbove q = true ↔ k < m ∨ (k = m ∧ p.station < q.station)))
    ∧ (∀ s : State, s.outranked cls = true ↔ ∃ q ∈ s.share.peers, q.above cls s.station.val = true)

/-! ### The console's commands -/

/-- R16, R18, R19, R20: an ABORT addressed to this head forces the upset in BOOST, is a late abort in HOLD, starts the
abort retract in FLASH, and is ignored in STARTING, CONFIG FAULT and READY; one for another station is ignored. The retract
target is read from the position counter as it stands (log 18, the model's inference), and the step output stays as it stands,
also where the flag was set (R61, and not R66: log 50, the model's choice). -/
def Obligations.AbortEndsTheWeld : Prop :=
  ∀ (s : State) (n : Station) (tgt a b : Byte), s.receives = true → n ≠ s.station → s.link.state = .joined →
    (tgt.toNat ≠ s.station.val → exec (.abort n [tgt, a, b]) s = .next s)
    ∧ (tgt.toNat = s.station.val → (s.engine = .starting ∨ s.engine = .configFault ∨ s.engine = .ready) →
        ∃ t, exec (.abort n [tgt, a, b]) s = .next t ∧ t.declaredAs s)
    ∧ (tgt.toNat = s.station.val → ∀ c, s.ctx = some c → c.ending = none →
        (s.engine = .boost → ∃ t c', exec (.abort n [tgt, a, b]) s = .next t ∧ t.engine = .upset ∧ t.ctx = some c'
          ∧ c'.ending = some .consoleAbort ∧ c'.abortTag = some (natAt [a, b] 0 2) ∧ c'.upsetBegun = true
          ∧ c'.boostTime = some c.phaseTimer ∧ Reason.consoleAbort ∈ c'.reasons ∧ Reason.forcedUpset ∈ c'.reasons)
        ∧ (s.engine = .hold → ∃ t c', exec (.abort n [tgt, a, b]) s = .next t ∧ t.engine = .hold ∧ t.out = s.out
          ∧ t.ctx = some c' ∧ c'.ending = some .consoleAbort ∧ c'.abortTag = some (natAt [a, b] 0 2)
          ∧ c'.reasons = ((c.addReason .consoleAbort).addReason .lateAbort).reasons)
        ∧ (s.engine = .flash → c.abortTarget = none → ∃ t c', exec (.abort n [tgt, a, b]) s = .next t
          ∧ t.engine = .flash ∧ t.mode = .retracting ∧ t.awaiting = false ∧ t.yielded = false
          ∧ t.share.rise.state = .none
          ∧ t.out = { s.out with contactor := false, velocity := -(s.image.vRetractMax : Int) } ∧ t.ctx = some c'
          ∧ c'.abortTarget = some (s.meas.position - s.image.abortDistance) ∧ c'.abortStill = 0
          ∧ c'.burnOff = c.burnOff ∧ c'.reasons = (c.addReason .consoleAbort).reasons))

/-- R3, R4, R25: a request completed in JOINED that passes every check begins a weld from a copy of its slot, with the next
serial. The queue the request comes from is the model's choice (log 7). -/
def Obligations.WeldRequestIsAccepted : Prop :=
  ∀ (s : State) (payload : List Byte) (rest : List WeldRun) (q : Request) (p : Programme),
    s.link.weldReady = ⟨payload, none⟩ :: rest → Request.parse payload = some q → s.checkRequest q = none →
    s.slot q.slot = some p → s.bothClosed = false →
    ∃ t c, exec .weldRequest s = .next t ∧ t.ctx = some c ∧ t.engine = .clamping ∧ c.serial = s.nextSerial
      ∧ c.tag = q.tag ∧ c.slot = q.slot ∧ c.prog = p ∧ c.request = q.data ∧ c.pReq = q.data.pReq ∧ c.phase = some 0
      ∧ c.phaseTimer = 0 ∧ c.weldTime = 0 ∧ c.startPos = s.meas.position ∧ c.latches = [] ∧ c.reasons = []
      ∧ c.faults = [] ∧ c.outcome = none ∧ c.ending = none ∧ c.currentBegun = false ∧ c.upsetBegun = false
      ∧ t.nextSerial = s.nextSerial + 1 ∧ t.lastSerial = s.nextSerial ∧ t.statusPeriod = 100 ∧ t.statusTimer = 0
      ∧ t.out = { s.out with
          fixedClose := true, movingClose := true, fixedOpen := false, movingOpen := false, velocity := 0, force := 0 }
      ∧ (t.trace.bank (bankOf s.nextSerial)).owner = some s.nextSerial
      ∧ (t.trace.bank (bankOf s.nextSerial)).blocks = [] ∧ (t.trace.bank (bankOf s.nextSerial)).capturing = true
      ∧ t.slots = s.slots ∧ t.meas = s.meas ∧ t.link.weldReady = rest

/-- R3, R183: the first check that fails refuses the request with its code and the tag, and leaves the engine state, the
context and the serial counter; a request completed in LISTENING is refused with the check that failed then, whatever the
link state is when it is taken. What each of the ten checks tests, with the travel of R48 and P_req of R46, and that a
request passes them all otherwise. The queue the request comes from is the model's choice (log 7). -/
def Obligations.WeldRequestIsRefused : Prop :=
  (∀ (s : State) (q : Request),
    ((s.engine ≠ .ready ∧ s.engine ≠ .faultHold ∨ 4294967295 < s.nextSerial) → s.checkRequest q = some .busy)
    ∧ (s.engine = .faultHold → s.nextSerial ≤ 4294967295 → s.checkRequest q = some .faultHold)
    ∧ (s.engine = .ready → s.nextSerial ≤ 4294967295 → s.link.state ≠ .joined → s.checkRequest q = some .isolated)
    ∧ (s.engine = .ready → s.nextSerial ≤ 4294967295 → s.link.state = .joined →
        (s.meas.homed = false → s.checkRequest q = some .notHomed)
        ∧ (s.meas.homed = true → (q.slot = 0 ∨ 4 < q.slot ∨ s.slots.toList[q.slot - 1]? = some none) →
            s.checkRequest q = some .noProgramme)
        ∧ ∀ p : Programme, s.meas.homed = true → 1 ≤ q.slot → s.slots.toList[q.slot - 1]? = some (some p) →
          s.checkRequest q =
            (if q.data.tr < -400 ∨ 700 < q.data.tr ∨ q.data.tn < -400 ∨ 700 < q.data.tn ∨ 1200 < q.data.l ∨ q.data.g ≤ 0
              then some .badRequest
            else if s.level .trainMove = true ∨ s.level .pressOk = false ∨ s.level .emergency = true
                ∨ s.level .contFb = true ∨ s.image.fMax * 105 / 10 < s.meas.fm
              then some .interlock
            else if 0 < q.data.pReq ∧ ∀ r ∈ p.records, r.body.kind ≠ .pull then some .pullMissing
            else if q.data.g - (q.data.pReq : Int) < s.image.clearanceMin then some .gapShort
            else if (s.image.stroke : Int) - s.image.travelReserve
                < q.data.g + ((p.records.map fun r => (r.body.asFlash.map FlashRec.lf).getD 0).sum : Nat)
                  + ((p.boost?.map BoostRec.length).getD 0 : Nat) + ((p.upset?.map UpsetRec.du).getD 0 : Nat)
              then some .travel
            else none)))
  ∧ ∀ (s : State) (run : WeldRun) (rest : List WeldRun) (q : Request) (f : RequestFault),
    s.link.weldReady = run :: rest → Request.parse run.payload = some q →
    (run.refusal = some f ∨ run.refusal = none ∧ s.checkRequest q = some f) →
    s.link.notices.length < 8 →
    ∃ t, exec .weldRequest s = .next t ∧ t.declaredAs { s with link :=
      { s.link with weldReady := rest, notices := s.link.notices ++ [.refused q.tag f.code] } }

/-- R3, R46, R47: a request that passes checks 1 to 8 is refused with GAP SHORT where G − P_req, formed as a signed value, is
below the clearance minimum; a clearance of exactly the minimum passes the check. P_req is 115 × L × (T_n − T_r) / 100,
truncated, or 0. -/
def Obligations.GapShortIsRefused : Prop :=
  ∀ (s : State) (d : RequestData) (p : Programme), (d.pReq = 0 ∨ p.has .pull = true) →
    (d.tr < d.tn → (d.pReq : Int) = (115 * d.l * (d.tn - d.tr)) / 100) ∧ (d.tn ≤ d.tr → d.pReq = 0)
    ∧ (d.g - (d.pReq : Int) < s.image.clearanceMin → s.checkProgramme d p = some .gapShort)
    ∧ (s.image.clearanceMin ≤ d.g - (d.pReq : Int) → s.checkProgramme d p ≠ some .gapShort)
    ∧ (∀ q : Request, q.data = d → s.slot q.slot = some p → s.engine = .ready → s.nextSerial ≤ Config.serialMax →
        s.link.state = .joined → s.meas.homed = true → d.bad = false → s.interlocked = false →
        (s.checkRequest q = some .gapShort ↔ d.g - (d.pReq : Int) < s.image.clearanceMin))

/-- R23, R54: CLEAR in FAULT HOLD with the three inputs deasserted enters RELEASING, and the ramp starts from the held
force-limit command; otherwise it is ignored. -/
def Obligations.ClearEntersReleasing : Prop :=
  ∀ (s : State) (n : Station) (tgt : Byte), s.receives = true → n ≠ s.station → s.link.state = .joined →
    (tgt.toNat ≠ s.station.val → exec (.clear n [tgt]) s = .next s)
    ∧ (s.engine ≠ .faultHold → exec (.clear n [tgt]) s = .next s)
    ∧ (s.level .emergency = true ∨ s.level .trainMove = true ∨ s.level .contFb = true →
        exec (.clear n [tgt]) s = .next s)
    ∧ (∀ c i, tgt.toNat = s.station.val → s.engine = .faultHold → s.level .emergency = false →
        s.level .trainMove = false → s.level .contFb = false → s.ctx = some c → c.prog.find .release = some i →
        s.out.force ≠ 0 →
        ∃ t c', exec (.clear n [tgt]) s = .next t ∧ t.engine = .releasing ∧ t.ctx = some c' ∧ c'.phase = some i
          ∧ c'.outcome = c.outcome ∧ c'.reasons = c.reasons ∧ c'.faults = c.faults
          ∧ t.stress.release = some .ramping ∧ t.stress.rampStart = some s.out.force
          ∧ t.stress.releaseTimer = ⟨true, 0⟩ ∧ t.out = { s.out with velocity := 0 })

/-- R38, R39, R40: the oldest complete run is stored whole in its slot, empties it, or is refused and leaves all four
slots. What each check of R38 tests: NO CONFIG; SLOT; FORMAT, by the lengths of section 11.9 and the frame count; ORDER, by
the orders of R30 and the record count of R28; RANGE, by R28, R29 and R31 to R35; WINDOW, by R29; LIMIT, by R36; the
refusal names the first record that fails. That a run which a kind code of no kind ends has no frame count to meet is the
model's choice (log 44), as is that ORDER names the record before such a code that cannot stand (log 13) and the queue the
run comes from (log 7). -/
def Obligations.ProgrammeIsStoredOrRefused : Prop :=
  ∀ (s : State) (run : ProgRun) (payload : List Byte) (rest : List ProgRun),
    s.link.progReady = run :: rest → run.payload = payload → s.link.notices.length < 8 →
    ∃ t, exec .programme s = .next t ∧ t.link.progReady = rest ∧ t.engine = s.engine ∧ t.ctx = s.ctx
      ∧ (∀ f, s.validate run = .refused f → t.slots = s.slots
          ∧ t.link.notices = s.link.notices ++ [.programmeRefused (natAt payload 0 1) f.code f.index])
      ∧ (∀ p, s.validate run = .stored p → t.slot (natAt payload 0 1) = some p
          ∧ t.link.notices = s.link.notices ++ [.programmeStored (natAt payload 0 1) p.number p.recordCount])
      ∧ (s.validate run = .empty → t.slot (natAt payload 0 1) = none
          ∧ t.link.notices = s.link.notices ++ [.programmeStored (natAt payload 0 1) 0 0])
      ∧ (∀ k, k ≠ natAt payload 0 1 → t.slot k = s.slot k)
      ∧ (s.engine = .configFault → s.validate run = .refused .noConfig)
      ∧ (s.engine ≠ .configFault → (natAt payload 0 1 = 0 ∨ 4 < natAt payload 0 1) → s.validate run = .refused .slot)
      ∧ (s.engine ≠ .configFault → 1 ≤ natAt payload 0 1 → natAt payload 0 1 ≤ 4 →
          (payload.length < 4 → s.validate run = .refused .format)
          ∧ (4 ≤ payload.length → natAt payload 1 2 = 0 → natAt payload 3 1 = 0 →
              (payload.length ≠ 4 ∨ run.frames ≠ 1 → s.validate run = .refused .format)
              ∧ (payload.length = 4 → run.frames = 1 → s.validate run = .empty))
          ∧ (4 ≤ payload.length → (natAt payload 1 2 ≠ 0 ∨ natAt payload 3 1 ≠ 0) →
              (payload.length ≠ 4 → payload.length < 42 → s.validate run = .refused .format)
              ∧ (42 ≤ payload.length → parseRecords payload.length (payload.drop 42) = none →
                  s.validate run = .refused .format)
              ∧ ∀ (rs : List PhaseRec) (u : Bool) (p : Programme) (ks : List RecKind),
                (payload.length = 4 ∧ rs = [] ∧ u = false
                  ∨ 42 ≤ payload.length ∧ parseRecords payload.length (payload.drop 42) = some (rs, u)) →
                p = programmeOf payload rs → ks = rs.map (fun r => r.body.kind) →
                (u = false → (7 * run.frames ≤ payload.length ∨ run.frames ≠ 1 ∧ payload.length + 8 ≤ 7 * run.frames) →
                  s.validate run = .refused .format)
                ∧ (u = true ∨ payload.length < 7 * run.frames ∧ (run.frames = 1 ∨ 7 * run.frames < payload.length + 8) →
                  (∀ i, i < ks.length → mayStand (ks.take i) = true → mayStand (ks.take (i + 1)) = false →
                    isOrder (ks.take i) = false → s.validate run = .refused (.order (some i)))
                  ∧ ((∀ i, i ≤ ks.length → mayStand (ks.take i) = true) →
                    (isOrder ks = false ∨ u = true ∨ p.recordCount ≠ rs.length) →
                    s.validate run = .refused (.order none))
                  ∧ (∀ i, i < ks.length → isOrder (ks.take i) = true → s.validate run = .refused (.order none))
                  ∧ (isOrder ks = true → u = false → p.recordCount = rs.length →
                    (p.headerFits = false → s.validate run = .refused (.range none))
                    ∧ (p.headerFits = true → p.windows.boundsOrdered = false → s.validate run = .refused .window)
                    ∧ (p.headerFits = true → p.windows.boundsOrdered = true →
                      (∀ (i : Nat) (r : PhaseRec), rs[i]? = some r →
                        (∀ (j : Nat) (x : PhaseRec), j < i → rs[j]? = some x →
                          x.body.fits (decide (p.find .flash = some j)) = true ∧ x.body.withinLimits s.image = true) →
                        (r.body.fits (decide (p.find .flash = some i)) = false →
                          s.validate run = .refused (.range (some i)))
                        ∧ (r.body.fits (decide (p.find .flash = some i)) = true → r.body.withinLimits s.image = false →
                          s.validate run = .refused (.limit i)))
                      ∧ ((∀ (j : Nat) (x : PhaseRec), rs[j]? = some x →
                          x.body.fits (decide (p.find .flash = some j)) = true ∧ x.body.withinLimits s.image = true) →
                        s.validate run = .stored p))))))

/-- R152: CAPTURE CLEAR addressed to this head clears the flags its mask names, in every engine state, and nothing else; one
for another station is ignored. Capture flags are cleared by CAPTURE CLEAR and by reset: RESET clears all, and no other
command, the acceptance of a weld and the entry to READY among them, clears one. HEAD STATUS carries the flags as they
stand. -/
def Obligations.CaptureClearClearsTheNamedFlags : Prop :=
  (∀ (i : Instr) (s t : State), exec i s = .next t →
    (i = .reset → ∀ x : Input, t.meas.capture.get x = false)
    ∧ (i ≠ .reset → (∀ n d, i ≠ .captureClear n d) →
        ∀ x : Input, s.meas.capture.get x = true → t.meas.capture.get x = true))
  ∧ (∀ s : State, ∀ x : Input, (s.statusPayload[3]?.getD 0).getLsbD (inputBit x) = s.meas.capture.get x)
  ∧ ∀ (s : State) (n : Station) (tgt mask : Byte), s.receives = true → n ≠ s.station → s.link.state = .joined →
    (tgt.toNat ≠ s.station.val → exec (.captureClear n [tgt, mask]) s = .next s)
    ∧ (tgt.toNat = s.station.val → ∃ t, exec (.captureClear n [tgt, mask]) s = .next t
        ∧ t = { s with meas := { s.meas with capture := t.meas.capture } }
        ∧ ∀ i : Input, t.meas.capture.get i = (s.meas.capture.get i && !mask.getLsbD (inputBit i)))

/-- R165, R166: a RECORD QUERY in IDLE starts a run from a copy of the record found or queues NOTICE NO RECORD; in SENDING it
becomes the waiting query. -/
def Obligations.RecordQueryIsAnswered : Prop :=
  ∀ (s : State) (n : Station) (d : List Byte), s.receives = true → n ≠ s.station → s.link.state = .joined →
    5 ≤ d.length → natAt d 0 1 = s.station.val →
    (s.records.sending.isSome = true →
      exec (.recordQuery n d) s = .next { s with records := { s.records with waiting := some (natAt d 1 4) } })
    ∧ (s.records.sending = none → s.records.find (natAt d 1 4) = none → s.link.notices.length < 8 →
        exec (.recordQuery n d) s = .next { s with link :=
          { s.link with notices := s.link.notices ++ [.noRecord (natAt d 1 4)] } })
    ∧ (∀ r, s.records.sending = none → s.records.find (natAt d 1 4) = some r →
        exec (.recordQuery n d) s = .next { s with
          records := { s.records with sending := some r }
          link := { s.link with recordSlot := some ⟨headFrames r.bytes, 0⟩ } })
    ∧ (natAt d 1 4 = 0 → s.records.find (natAt d 1 4) = s.records.list.getLast?)

/-- R177, R179: a TRACE QUERY for a closed block of a weld held starts the readout; a block not yet closed gets NOT YET, a
weld not held TRACE GONE; in SENDING the query waits. The weights 64 and 128 of byte 7 are passed over, and a block index
above 575 is looked up as it stands, which is the model's choice (log 41). -/
def Obligations.TraceQueryIsAnswered : Prop :=
  ∀ (s : State) (n : Station) (d : List Byte), s.receives = true → n ≠ s.station → s.link.state = .joined →
    8 ≤ d.length → natAt d 0 1 = s.station.val →
    (s.trace.readout = .sending →
      exec (.traceQuery n d) s = .next { s with trace := { s.trace with waiting := some (TraceQuery.parse d) } })
    ∧ (∀ w, s.trace.readout ≠ .sending → w = natAt d 1 4 → w ≠ 0 → (s.trace.bank (bankOf w)).owner = some w →
        (natAt d 5 2 < (s.trace.bank (bankOf w)).blocks.length →
          exec (.traceQuery n d) s = .next { s with trace :=
            { s.trace with
              readout := .fetching
              copy := none
              stream := some ⟨w, bankOf w, natAt d 5 2, decide (natAt d 7 1 / 32 % 2 = 1), natAt d 7 1 % 32⟩ } })
        ∧ ((s.trace.bank (bankOf w)).blocks.length ≤ natAt d 5 2 → (s.trace.bank (bankOf w)).capturing = true →
          s.link.notices.length < 8 →
          exec (.traceQuery n d) s = .next { s with
            trace := { s.trace with readout := .idle, copy := none, stream := none }
            link := { s.link with notices := s.link.notices ++ [.notYet w (natAt d 5 2)] } }))
    ∧ (∀ w, s.trace.readout ≠ .sending → w = natAt d 1 4 → w ≠ 0 → (s.trace.bank (bankOf w)).owner ≠ some w →
        s.link.notices.length < 8 →
        exec (.traceQuery n d) s = .next { s with
          trace := { s.trace with readout := .idle, copy := none, stream := none }
          link := { s.link with notices := s.link.notices ++ [.traceGone w (natAt d 5 2)] } })

/-- R178: at the fetch completion the run of the block is placed from the pending offset, and SENDING is entered with the
offset at 0. That a fetch ends at this row alone is the model's choice (log 31). -/
def Obligations.FetchCompletionPlacesTheRun : Prop :=
  ∀ (s : State) (st : Stream) (b : Block), s.trace.readout = .fetching → s.trace.stream = some st →
    (s.trace.bank st.bank1).blocks[st.index]? = some b →
    exec .fetchCompletion s = .next { s with
      trace := { s.trace with readout := .sending, copy := some b, stream := some { st with offset := 0 } }
      link := { s.link with traceSlot := some ⟨b.frames st.serial st.offset, 0⟩ } }

/-! ### The clock and the head wiring -/

/-- R141, R143, R155: an interval forwards the outputs, hands over the means and the position, and lets 2 ms pass for every
timer that runs (R2, R45, R54, R86, R93, R100, R107, R109, R118, R121, R132, R135, R136, R182, R185, R186); then the phase
unit in force evaluates it (R59) and the conditions are tested (R153), in either order. `d` is the state after what stood
due, `u` that state so sampled, and the next state is the evaluation of `u`, but for the declaration. R142: saturation is
kept; R150: each input's filter takes its sample; R154: the contactor is compared with the level the interval accepts. In
READY no phase unit is in force: engine, outputs, programmes, records and traces stay. That time passes at this row, that
what is due is taken first, the order by an operand, and what is taken before or after both, are the model's choice or
inference (logs 3, 5, 6, 35, 39, 40, 53 and 54). -/
def Obligations.RegulationIntervalMeasures : Prop :=
  ∀ (s d : State) (b : Bool) (r : Readings), s.loader = .good → d = s.takeDue →
    ∃ (t u : State) (now : Bool), exec (.regulationInterval b r) s = .next t
      ∧ t.declaredAs (if b then u.testConditions.evalUnits else u.evalUnits.testConditions)
      ∧ u = { d with
          wire := { d.out with force := d.wireForce }
          statusTimer := d.statusTimer + 2
          ctx := d.ctx.map fun c => { c with
            weldTime := if c.outcome = none then c.weldTime + 2 else c.weldTime
            phaseTimer := if d.engine = .faultHold then c.phaseTimer else c.phaseTimer + 2
            yieldTime := if d.yielded then min (c.yieldTime + 2) (c.prog.tYieldMax * 1000) else c.yieldTime
            sinceResume :=
              if d.engine ∈ [.preheat, .flash, .boost, .upset, .hold, .trim] then c.sinceResume.map (· + 2)
              else c.sinceResume
            pause := if d.yielded ∧ d.engine = .preheat then c.pause.map (· + 2) else c.pause }
          stress := { d.stress with
            clampTimer := if d.stress.clampTimer.running then ⟨true, d.stress.clampTimer.ms + 2⟩ else d.stress.clampTimer
            releaseTimer :=
              if d.stress.releaseTimer.running then ⟨true, d.stress.releaseTimer.ms + 2⟩ else d.stress.releaseTimer }
          upset := { d.upset with
            currentTimer :=
              if d.upset.currentTimer.running then ⟨true, d.upset.currentTimer.ms + 2⟩ else d.upset.currentTimer
            shearTimer := if d.engine = .trim then d.upset.shearTimer + 2 else d.upset.shearTimer }
          share := { d.share with
            peers := d.share.peers.map fun p => { p with silence := p.silence + 2 }
            rise := { d.share.rise with
              settle :=
                if d.share.rise.settle.running then ⟨true, d.share.rise.settle.ms + 2⟩ else d.share.rise.settle
              admitWait :=
                if d.share.rise.admitWait.running then ⟨true, d.share.rise.admitWait.ms + 2⟩ else d.share.rise.admitWait }
            ratingAge := d.share.ratingAge.map (· + 2)
            demandTimer := d.share.demandTimer + 2 }
          link := { d.link with
            listen := if d.link.listen.running then ⟨true, d.link.listen.ms + 2⟩ else d.link.listen
            lostTimer := if d.link.state = .lost then d.link.lostTimer + 2 else d.link.lostTimer
            weldRuns := d.link.weldRuns.map fun a => { a with silence := a.silence + 2 }
            progRun := d.link.progRun.map fun a => { a with silence := a.silence + 2 }
            demandGap := if 5 ≤ d.link.demandGap then d.link.demandGap else d.link.demandGap + 2 }
          meas := { d.meas with
            im := u.meas.im
            um := u.meas.um
            fm := u.meas.fm
            satI := d.meas.satI
              || r.current.toList.any fun x => decide (6000 < (x.toNat - d.image.current.offset) * d.image.current.scale / 4000)
            satU := d.meas.satU
              || r.voltage.toList.any fun x => decide (2500 < (x.toNat - d.image.voltage.offset) * d.image.voltage.scale / 4000)
            satF := d.meas.satF
              || r.force.toList.any fun x => decide (50000 < (x.toNat - d.image.force.offset) * d.image.force.scale / 4000)
            intervalPos := d.meas.position
            sumI := d.meas.sumI + u.meas.im
            sumU := d.meas.sumU + u.meas.um
            sumF := d.meas.sumF + u.meas.fm
            sampleIntervals := d.meas.sampleIntervals + 1
            inputs := u.meas.inputs
            fbTimer :=
              if d.engine = .configFault then d.meas.fbTimer
              else if d.out.contactor = now then 0 else d.meas.fbTimer + 2
            fbReported :=
              if d.engine ≠ .configFault ∧ d.out.contactor = now then false else d.meas.fbReported } }
      ∧ u.meas.im = ((r.current.toList.map fun x =>
          min ((x.toNat - d.image.current.offset) * d.image.current.scale / 4000) 6000).sum) / 10
      ∧ u.meas.um = ((r.voltage.toList.map fun x =>
          min ((x.toNat - d.image.voltage.offset) * d.image.voltage.scale / 4000) 2500).sum) / 10
      ∧ u.meas.fm = ((r.force.toList.map fun x =>
          min ((x.toNat - d.image.force.offset) * d.image.force.scale / 4000) 50000).sum) / 10
      ∧ (∀ (i : Input) (x : Bool), x = (r.pins.getLsbD (inputBit i) != d.image.assertedLow.get i) →
          u.meas.inputs.get i = { d.meas.inputs.get i with
            sample := x
            run := if (d.meas.inputs.get i).run = 0 ∨ (d.meas.inputs.get i).sample ≠ x then 1
              else min ((d.meas.inputs.get i).run + 1) 10 })
      ∧ now = (if u.inputDue .contFb then u.meas.inputs.contFb.sample else u.level .contFb)
      ∧ (d.engine = .ready → t.engine = .ready ∧ t.wire = d.out ∧ t.out = d.out ∧ t.meas.im = u.meas.im
          ∧ t.meas.um = u.meas.um ∧ t.meas.fm = u.meas.fm ∧ t.meas.position = d.meas.position ∧ t.slots = d.slots
          ∧ t.records = d.records ∧ t.trace = d.trace ∧ t.ctx.isSome = d.ctx.isSome)

/-- R49, R50: an interval in PULL whose pull is not achieved keeps the stall timer. R51, R52: one whose pull is P_req or more
ends PULL, with no PULL SHORT; the position of its latch is the model's inference (log 18). R54: one in RAMPING sets the
ramp's force. R62 to R64: one in APPROACH starts PULSE ON at contact. R18: one at the target of an abort retract, or past it,
enters RELEASING. R68, R80, R81: one in BOOST whose burn-off since the entry is the boost length or more sets the boost time
and enters UPSET (R85). R87, R89: one in UPSET short of the distance keeps the peak force and the stall timer; R88, R91: one at
the distance, or past it, ends UPSET with CURRENT OFF, the upset distance, UPSET END and HOLD. -/
def Obligations.PhaseUnitsTakeTheInterval : Prop :=
  ∀ (s : State) (c : WeldCtx), s.ctx = some c →
    (∀ r, s.engine = .pulling → c.pull? = some r → (s.meas.position - c.pullStart.getD s.meas.position).toNat < c.pReq →
      s.evalUnits = { s with stress := { s.stress with
        pullStall :=
          (if r.forceLimit * 98 / 10 ≤ s.meas.fm ∧ s.meas.velocity < 100 then s.stress.pullStall + 2 else 0) } })
    ∧ (∀ r a, s.engine = .pulling → c.pull? = some r → a = (s.meas.position - c.pullStart.getD s.meas.position).toNat →
        c.pReq ≤ a → ∃ c', s.evalUnits.ctx = some c' ∧ s.evalUnits.engine = .admitting ∧ s.evalUnits.awaiting = true
          ∧ c'.phase = none ∧ c'.pullAchieved = some a ∧ c'.forceHold = some (min s.meas.fm (s.image.fMax * 10))
          ∧ c'.latches = c.latches ++ [⟨.pullEnd, s.meas.position, c.weldTime⟩] ∧ c'.reasons = c.reasons
          ∧ s.evalUnits.out = { s.out with velocity := 0, force := 0 })
    ∧ (∀ f, s.engine = .releasing → s.stress.release = some .ramping → s.stress.rampStart = some f →
        s.evalUnits = { s with out := { s.out with
          force := f * (s.image.rampTime - s.stress.releaseTimer.ms) / s.image.rampTime } })
    ∧ (∀ r, s.engine = .preheat → c.abortTarget = none → c.preheat? = some r → c.sub = some .approach →
        ∃ c', s.evalUnits.ctx = some c' ∧ s.evalUnits.out = { s.out with velocity := r.approach }
          ∧ (s.image.iContact ≤ s.meas.im → c'.sub = some .pulseOn ∧ c'.subTimer = 0)
          ∧ (s.meas.im < s.image.iContact → c'.sub = some .approach ∧ c'.subTimer = c.subTimer + 2))
    ∧ (∀ p, (s.engine = .preheat ∨ s.engine = .flash) → c.abortTarget = some p →
        (s.meas.intervalPos ≤ p → s.wireForce ≠ 0 → s.evalUnits.engine = .releasing)
        ∧ (p < s.meas.intervalPos → s.evalUnits.engine = s.engine
            ∧ s.evalUnits.out = { s.out with velocity := -(s.image.vRetractMax : Int) }))
    ∧ (∀ r u b, s.engine = .boost → c.boost? = some r → c.prog.body c.nextIndex = some (.upset u) → 0 < u.tuc →
        b = (match c.contactPos with
          | none => c.burnOff
          | some pc => max c.burnOff (s.meas.intervalPos - pc)) →
        ∃ c', s.evalUnits.ctx = some c' ∧ c'.burnOff = b
          ∧ ((r.length : Int) ≤ b - c.boostEntry.getD 0 → s.evalUnits.engine = .upset
            ∧ c'.boostTime = some c.phaseTimer ∧ c'.phase = some c.nextIndex ∧ c'.phaseTimer = 0 ∧ c'.upsetBegun = true
            ∧ c'.latches = c.latches ++ [⟨.upsetStart, s.meas.intervalPos, c.weldTime⟩]
            ∧ s.evalUnits.out = { s.out with velocity := u.speed, force := u.fu * 10 })
          ∧ (b - c.boostEntry.getD 0 < (r.length : Int) → s.evalUnits.engine = .boost ∧ s.evalUnits.out = s.out
            ∧ c'.phase = c.phase ∧ c'.latches = c.latches))
    ∧ (∀ r f n, s.engine = .upset → c.upset? = some r → c.prog.body c.nextIndex = some (.hold f n) →
        r.du ≤ c.upsetAdvance s.meas.intervalPos → ∃ c', s.evalUnits.ctx = some c' ∧ s.evalUnits.engine = .hold
          ∧ c'.phase = some c.nextIndex ∧ c'.phaseTimer = 0
          ∧ c'.curTime = some (c.curTime.getD s.upset.currentTimer.ms)
          ∧ c'.distance = some (s.meas.intervalPos - c.upStart.getD s.meas.intervalPos).toNat
          ∧ c'.peak = some (max (c.peak.getD 0) s.meas.fm)
          ∧ c'.latches.getLast? = some ⟨.upsetEnd, s.meas.intervalPos, c.weldTime⟩
          ∧ s.evalUnits.out = { s.out with
              contactor := if c.curTime = none then false else s.out.contactor
              velocity := (min s.image.creep s.image.vMax : Nat), force := f * 10 })
    ∧ (∀ r, s.engine = .upset → c.upset? = some r → c.upsetAdvance s.meas.intervalPos < r.du →
        ∃ c', s.evalUnits.ctx = some c' ∧ c'.peak = some (max (c.peak.getD 0) s.meas.fm) ∧ s.evalUnits.engine = .upset
          ∧ s.evalUnits.out = s.out
          ∧ s.evalUnits.upset = { s.upset with
              stall := (if r.fu * 98 / 10 ≤ s.meas.fm ∧ s.meas.velocity < 100 then s.upset.stall + 2 else 0) })

/-- R143, R171, R172: while capture goes on in the weld's bank `k`, a 10 ms sample in a fine phase is captured, and in another
phase of the weld the tenth alone, the 100 ms sample; with its position in 0.01 mm from the start position held within 16
bits, and the means of the five intervals. R173: it opens a block where none is open, and a block closes at its 32nd sample,
or before a sample of the other period, which opens the next; the latches since the last sample are counted in the block
that takes it. R174: block 575 so closed truncates the trace. -/
def Obligations.SampleIsCaptured : Prop :=
  ∀ (s : State) (c : WeldCtx) (k : Bank) (x : Sample) (opened : Nat → Block), 5 ≤ s.meas.sampleIntervals →
    s.ctx = some c → k = s.trace.bank (bankOf c.serial) → k.capturing = true →
    x = ⟨max (-32768) (min 32767 ((s.meas.intervalPos - c.startPos).tdiv 10)), s.meas.sumI / 5, s.meas.sumU / 5,
      s.meas.sumF / 5⟩ →
    (∀ n, opened n = ⟨n, s.engine.fine, c.phase, c.weldTime / 10, s.trace.markers, [x]⟩) →
    (s.engine ∈ [.clamping, .pulling, .admitting, .hold, .trim, .releasing] → s.meas.sampleNo ≠ 9 →
      ∃ t, exec .tenMsSample s = .next t ∧ t.trace = s.trace ∧ t.ctx = s.ctx)
    ∧ (s.engine ∈ [.preheat, .flash, .boost, .upset]
        ∨ (s.engine ∈ [.clamping, .pulling, .admitting, .hold, .trim, .releasing] ∧ s.meas.sampleNo = 9) →
      ∃ t, exec .tenMsSample s = .next t ∧ t.ctx = s.ctx ∧ t.trace.markers = 0 ∧ t.trace.newest = s.trace.newest
        ∧ t.trace.bank (!bankOf c.serial) = s.trace.bank (!bankOf c.serial)
        ∧ (k.filling = none → t.trace.bank (bankOf c.serial) = { k with filling := some (opened k.blocks.length) })
        ∧ ∀ b b', k.filling = some b → b' = { b with markers := b.markers + s.trace.markers, samples := b.samples ++ [x] } →
          (b.fine = s.engine.fine → b.samples.length < 31 →
            t.trace.bank (bankOf c.serial) = { k with filling := some b' })
          ∧ (b.fine = s.engine.fine → 31 ≤ b.samples.length → t.trace.bank (bankOf c.serial) = { k with
              blocks := k.blocks ++ [b']
              filling := none
              capturing := decide (k.blocks.length < 575)
              truncated := k.truncated || decide (575 ≤ k.blocks.length) })
          ∧ (b.fine ≠ s.engine.fine → k.blocks.length < 575 → t.trace.bank (bankOf c.serial) = { k with
              blocks := k.blocks ++ [b]
              filling := some (opened (k.blocks.length + 1)) })
          ∧ (b.fine ≠ s.engine.fine → 575 ≤ k.blocks.length → t.trace.bank (bankOf c.serial) = { k with
              blocks := k.blocks ++ [b]
              filling := none
              capturing := false
              truncated := true }))

/-- R70, R71: in an interval evaluated in REGULATING after CONTACT, with no exit, the velocity command is v_p + c clamped to
0..v_max, both quotients truncated toward zero. R59: the evaluation of an interval in FLASH counts power and burn-off
first, and the flashing law reads what they leave. R67: with contact pending the command is the approach speed, and the first
interval at I_contact latches CONTACT; its own command is the model's inference (log 55). R7, R69, R79: an interval that meets
the exit criterion latches FLASH END; a claim above the present load is asked as a rise, and otherwise the next FLASH record,
BOOST (R80) or UPSET (R85) is entered at once; the position of BOOST START is an inference too (log 18). R8, R78: while the
rise is pending the record goes on, until the burn-off passes the target by more than the allowance: ADMIT LOST and the abort
retract (R18). -/
def Obligations.SpeedLawSetsTheVelocity : Prop :=
  (∀ (s : State) (c : WeldCtx), s.engine = .flash → s.ctx = some c → c.abortTarget = none →
    s.evalUnits = s.countPower.updateBurnOff.evalFlash
    ∧ ∃ c', s.countPower.updateBurnOff.ctx = some c' ∧ c'.abortTarget = none ∧ c'.contactPending = c.contactPending
      ∧ c'.phase = c.phase ∧ c'.prog = c.prog
      ∧ c'.burnOff = (match c.contactPos with
          | none => c.burnOff
          | some pc => max c.burnOff (s.meas.intervalPos - pc)))
  ∧ (∀ (s : State) (c : WeldCtx) (r : FlashRec), s.engine = .flash → s.mode = .regulating → s.ctx = some c →
    c.flash? = some r → c.contactPending = false → c.abortTarget = none → s.awaiting = false →
    c.burnOff < (c.target : Int) →
    ∃ vp corr ie bk : Int, s.evalFlash.out.velocity = max 0 (min (s.image.vMax : Int) (vp + corr))
      ∧ bk = min (max 0 (c.burnOff - (c.prog.lfSum (c.nextIndex - 1) : Int))) (r.lf : Int)
      ∧ vp = (r.va : Int) + (((r.vb : Int) - (r.va : Int)) * bk).tdiv (r.lf : Int)
      ∧ corr = ((r.k : Int) * (ie - (s.meas.im : Int))).tdiv 10
      ∧ ie = ((c.guard.getD (if s.yielded then r.isRed else r.is) : Nat) : Int))
  ∧ (∀ (s : State) (c : WeldCtx) (r : FlashRec), s.engine = .flash → s.ctx = some c → c.flash? = some r →
    c.contactPending = true → c.abortTarget = none → s.awaiting = false → c.burnOff < (c.target : Int) →
    s.mode = .regulating →
    (s.image.iContact ≤ s.meas.im → ∃ c', s.evalFlash.ctx = some c' ∧ s.evalFlash.mode = .regulating
      ∧ c'.contactPending = false ∧ c'.contactPos = some s.meas.intervalPos ∧ c'.burnOff = c.burnOff
      ∧ c'.latches = c.latches ++ [⟨.contact, s.meas.intervalPos, c.weldTime⟩]
      ∧ s.evalFlash.out = { s.out with velocity := r.approach })
    ∧ (s.meas.im < s.image.iContact →
        s.evalFlash = { s with out := { s.out with velocity := r.approach } }))
  ∧ (∀ (s : State) (c : WeldCtx) (r : FlashRec) (next : RecBody) (claim cls : Nat) (latches : List Latch),
    s.engine = .flash → s.mode = .regulating → s.ctx = some c → c.flash? = some r → c.contactPending = false →
    c.abortTarget = none → s.awaiting = false → c.exitMet = false → (c.target : Int) ≤ c.burnOff →
    c.prog.body c.nextIndex = some next → (∀ q, next = .flash q → claim = q.load ∧ cls = 1) →
    (next.kind = .boost ∨ next.kind = .upset → claim = c.prog.classZero ∧ cls = 0) →
    latches = c.latches ++ [⟨.flashEnd, s.meas.intervalPos, c.weldTime⟩] →
    ∃ c', s.evalFlash.ctx = some c'
      ∧ (next.kind ∈ [.flash, .boost, .upset] → s.presentLoad < claim → s.evalFlash.engine = .flash
        ∧ s.evalFlash.mode = .regulating ∧ s.evalFlash.awaiting = true ∧ c'.exitMet = true ∧ c'.latches = latches
        ∧ c'.phase = c.phase ∧ s.evalFlash.share.rise.ask = some ⟨.sequencer, claim, cls⟩
        ∧ s.evalFlash.share.rise.admitWait = ⟨true, 0⟩
        ∧ s.evalFlash.share.rise.state = (if s.outranked cls then .withdrawn else .settling))
      ∧ (∀ q, next = .flash q → claim ≤ s.presentLoad → s.evalFlash.engine = .flash ∧ s.evalFlash.mode = .regulating
        ∧ s.evalFlash.awaiting = false ∧ c'.phase = some c.nextIndex ∧ c'.phaseTimer = 0 ∧ c'.exitMet = false
        ∧ c'.latches = latches ∧ c'.guard = none ∧ c'.burnOff = c.burnOff
        ∧ s.evalFlash.out = { s.out with
            contactor := true, step := if s.yielded then q.reducedStep else q.step
            velocity := s.evalFlash.out.velocity, force := s.image.fMax * 10 })
      ∧ (∀ b, next = .boost b → claim ≤ s.presentLoad → s.evalFlash.engine = .boost ∧ s.evalFlash.mode = .idle
        ∧ s.evalFlash.yielded = false ∧ s.evalFlash.share.rise.state = .none ∧ c'.phase = some c.nextIndex
        ∧ c'.phaseTimer = 0 ∧ c'.boostEntry = some c.burnOff ∧ c'.shortRun = 0 ∧ c'.openRun = 0
        ∧ c'.latches = latches ++ [⟨.boostStart, s.meas.position, c.weldTime⟩]
        ∧ s.evalFlash.out = { s.out with
            contactor := true, step := b.step, velocity := b.speed, force := s.image.fMax * 10 })
      ∧ (∀ u, next = .upset u → 0 < u.tuc → claim ≤ s.presentLoad → s.evalFlash.engine = .upset
        ∧ s.evalFlash.mode = .idle ∧ s.evalFlash.yielded = false ∧ s.evalFlash.share.rise.state = .none
        ∧ c'.phase = some c.nextIndex ∧ c'.phaseTimer = 0 ∧ c'.upsetBegun = true
        ∧ c'.upStart = some s.meas.intervalPos
        ∧ c'.latches = latches ++ [⟨.upsetStart, s.meas.intervalPos, c.weldTime⟩]
        ∧ s.evalFlash.out = { s.out with
            step := if s.yielded then r.step else s.out.step, velocity := u.speed, force := u.fu * 10 }))
  ∧ ∀ (s : State) (c : WeldCtx) (r : FlashRec), s.engine = .flash → s.mode = .regulating → s.ctx = some c →
    c.flash? = some r → c.contactPending = false → c.abortTarget = none → s.awaiting = true → c.exitMet = true →
    ∃ c', s.evalFlash.ctx = some c' ∧ s.evalFlash.engine = .flash
      ∧ ((c.target : Int) + (c.prog.overrun : Int) < c.burnOff → s.evalFlash.mode = .retracting
        ∧ s.evalFlash.awaiting = false ∧ s.evalFlash.share.rise.state = .none ∧ s.evalFlash.yielded = false
        ∧ c'.abortTarget = some (s.meas.position - s.image.abortDistance)
        ∧ c'.reasons = (c.addReason .admitLost).reasons ∧ c'.ending = some (c.ending.getD .admitLost)
        ∧ s.evalFlash.out = { s.out with contactor := false, velocity := -(s.image.vRetractMax : Int) })
      ∧ (c.burnOff ≤ (c.target : Int) + (c.prog.overrun : Int) → s.evalFlash.mode = .regulating
        ∧ s.evalFlash.awaiting = true ∧ s.evalFlash.share = s.share ∧ c'.abortTarget = none ∧ c'.phase = c.phase
        ∧ c'.reasons = c.reasons ∧ c'.ending = c.ending ∧ c'.latches = c.latches
        ∧ s.evalFlash.out.contactor = s.out.contactor)

/-- R143, R144: a 10 ms sample sets the velocity from the two positions, and starts the next sums; one with a homing in it
leaves the velocity, and a homing after its end lies in the next one. The base of the velocity after a homing is the
model's inference (log 28). -/
def Obligations.TenMsSampleSetsTheVelocity : Prop :=
  ∀ s : State, 5 ≤ s.meas.sampleIntervals → ∃ t, exec .tenMsSample s = .next t
    ∧ (∀ p, s.meas.homedInSample = false → s.meas.prevSample = some p →
        t.meas.velocity = (s.meas.intervalPos - p) * 100)
    ∧ (s.meas.homedInSample = true ∨ s.meas.prevSample = none → t.meas.velocity = s.meas.velocity)
    ∧ t.meas.prevSample = some s.meas.intervalPos ∧ t.meas.homedInSample = s.meas.homedNext ∧ t.meas.homedNext = false
    ∧ t.meas.sampleIntervals = 0 ∧ t.meas.sumI = 0 ∧ t.meas.sumU = 0 ∧ t.meas.sumF = 0
    ∧ t.meas.position = s.meas.position ∧ t.ctx = s.ctx ∧ t.engine = s.engine ∧ t.out = s.out ∧ t.slots = s.slots
    ∧ t.records = s.records

/-- R25, R142, R184: HEAD STATUS is placed in its slot as the state stands, and the saturation flags are then cleared.
R107: 50 ms after its last placement the DEMAND slot takes the declaration as it stands, in place of an unsent one.
The count of the periods in steps of 2 ms is the model's (logs 3 and 34). -/
def Obligations.PeriodicMessagesArePlaced : Prop :=
  (∀ s : State, s.statusPeriod ≤ s.statusTimer → ∃ t, exec .headStatusPeriod s = .next t
    ∧ t.link.statusSlot = some ⟨headFrames s.statusPayload, 0⟩ ∧ t.statusTimer = 0
    ∧ t.meas = { s.meas with satI := false, satU := false, satF := false } ∧ t.engine = s.engine ∧ t.ctx = s.ctx
    ∧ t.out = s.out ∧ t.slots = s.slots ∧ t.records = s.records ∧ t.trace = s.trace ∧ t.link.notices = s.link.notices)
    ∧ ∀ s : State, s.link.state = .joined → s.engine ≠ .configFault → 50 ≤ s.share.demandTimer →
    ∃ t, exec .demandPeriod s = .next t ∧ t.declaredAs s ∧ t.link.demandSlot = some s.ownDecl ∧ t.share.demandTimer = 0

/-- R145, R146: an edge moves the counter by the resolution, up toward the fixed clamp; the reference mark homes an
unhomed counter, within the 10 ms sample in progress (R144), and leaves a homed one that agrees within the tolerance; that a
homing after the fifth interval of a sample not yet taken lies in the next one is the model's inference (log 28).
R147: a quadrature error clears the homed flag and leaves the counter; POSITION is reported where no position error
stood, which in READY changes no state and in HOLD stops the head with outcome REJECT (R12 to R15, R21). -/
def Obligations.EncoderCommandsAct : Prop :=
  (∀ s : State, s.loader = .good →
    (∀ (b : Bool) (p : Int),
      p = (if b then s.meas.position + s.image.resolution else s.meas.position - s.image.resolution) →
      -2147483648 ≤ p → p ≤ 2147483647 →
      ∃ t, exec (.encoderEdge b) s = .next t ∧ t.declaredAs { s with meas := { s.meas with position := p } })
    ∧ (s.meas.homed = false → ∃ t, exec .referenceMark s = .next t ∧ t.declaredAs { s with meas :=
        { s.meas with
          position := s.image.refPosition
          homed := true
          positionError := false
          homedInSample := if s.meas.sampleIntervals < 5 then true else s.meas.homedInSample
          homedNext := if s.meas.sampleIntervals < 5 then s.meas.homedNext else true } })
    ∧ (s.meas.homed = true → (s.meas.position - s.image.refPosition).natAbs ≤ s.image.refTolerance →
        ∃ t, exec .referenceMark s = .next t ∧ t.declaredAs s))
    ∧ ∀ (s : State) (e : EncoderFault), s.loader = .good →
    (s.engine = .ready ∨ s.meas.positionError = true → ∃ t, exec (.quadratureError e) s = .next t
      ∧ t.declaredAs { s with meas := { s.meas with homed := false, positionError := true } })
    ∧ (∀ c, s.engine = .hold → s.meas.positionError = false → s.ctx = some c → c.outcome = none →
        c.upsetBegun = true →
        ∃ t c', exec (.quadratureError e) s = .next t ∧ t.engine = .faultHold ∧ t.meas.homed = false
          ∧ t.meas.position = s.meas.position ∧ t.ctx = some c' ∧ c'.outcome = some .reject
          ∧ (StopCause.position ∈ c'.faults ∨ 4 ≤ c.faults.length))

/-- R150, R151: the filter accepts a level of any input, sets its capture flag on a change that matches the edge sense, only
establishes a first level, and leaves the other inputs; PRESS_OK reaches no other block. R44: the second clamp to stand
asserted completes CLAMPING, with PULL entered (R49), ended at once where P_req is 0 (R51), or ADMITTING where the copy has
no PULL (R6); one clamp alone, or one that rises as the other falls, does not. R153, R12, R21: a clamp that deasserts while
both stood closed after CLAMPING is CLAMP LOST; one that closes as the other falls leaves the condition as it stood, whichever
of the two is taken first. -/
def Obligations.InputLevelIsAccepted : Prop :=
  (∀ (s : State) (i : Input), s.inputDue i = true →
    ∃ t, exec (.inputLevelChange i) s = .next t ∧ t.level i = (s.meas.inputs.get i).sample
      ∧ t.meas.capture.get i = (s.meas.capture.get i
          || ((s.meas.inputs.get i).established && (s.senseInForce i).hits (s.meas.inputs.get i).sample))
      ∧ (∀ j : Input, j ≠ i → t.meas.inputs.get j = s.meas.inputs.get j ∧ t.meas.capture.get j = s.meas.capture.get j))
  ∧ (∀ (s : State) (c : WeldCtx) (i j : Input), s.engine = .clamping → s.ctx = some c → c.clampDone = false →
    (i = .clampF ∧ j = .clampM ∨ i = .clampM ∧ j = .clampF) → s.inputDue i = true →
    (s.meas.inputs.get i).sample = true →
    (s.inputDue j = false → s.level j = true →
      (∀ r, c.prog.body c.nextIndex = some (.pull r) →
        (0 < c.pReq → ∃ t c', exec (.inputLevelChange i) s = .next t ∧ t.engine = .pulling ∧ t.ctx = some c'
          ∧ c'.clampDone = true ∧ c'.phase = some c.nextIndex ∧ c'.phaseTimer = 0
          ∧ c'.pullStart = some s.meas.position ∧ t.stress.clampTimer = ⟨false, s.stress.clampTimer.ms⟩
          ∧ t.stress.pullStall = 0 ∧ t.out = { s.out with velocity := r.speed, force := r.forceLimit * 10 })
        ∧ (c.pReq = 0 → ∃ t c', exec (.inputLevelChange i) s = .next t ∧ t.engine = .admitting ∧ t.awaiting = true
          ∧ t.ctx = some c' ∧ c'.clampDone = true ∧ c'.phase = none ∧ c'.pullAchieved = some 0
          ∧ c'.latches = c.latches ++ [⟨.pullEnd, s.meas.position, c.weldTime⟩] ∧ c'.reasons = c.reasons
          ∧ t.out = { s.out with velocity := 0, force := 0 }))
      ∧ (∀ n k q, c.prog.body c.nextIndex = some n → n.kind ≠ .pull → c.prog.firstCurrent = some k →
          c.prog.body k = some (.flash q) → ∃ t c', exec (.inputLevelChange i) s = .next t ∧ t.engine = .admitting
            ∧ t.awaiting = true ∧ t.ctx = some c' ∧ c'.clampDone = true ∧ c'.phase = none
            ∧ c'.pullAchieved = c.pullAchieved ∧ c'.latches = c.latches
            ∧ t.share.rise.ask = some ⟨.sequencer, q.load, 1⟩
            ∧ t.out = { s.out with velocity := 0, force := 0 }))
    ∧ ((s.inputDue j = false ∧ s.level j = false ∨ s.inputDue j = true ∧ (s.meas.inputs.get j).sample = false) →
        ∃ t, exec (.inputLevelChange i) s = .next t ∧ t.engine = .clamping ∧ t.ctx = s.ctx ∧ t.out = s.out
          ∧ t.stress = s.stress))
  ∧ (∀ (s : State) (c : WeldCtx) (i j : Input), s.engine = .hold → s.ctx = some c → c.clampDone = true →
    c.releasingEntered = false → (i = .clampF ∧ j = .clampM ∨ i = .clampM ∧ j = .clampF) → s.inputDue i = true →
    (s.meas.condClamp = false → (s.meas.inputs.get i).sample = false → c.outcome = none → c.upsetBegun = true →
      ∃ t c', exec (.inputLevelChange i) s = .next t ∧ t.engine = .faultHold ∧ t.meas.condClamp = true
        ∧ t.ctx = some c' ∧ c'.outcome = some .reject ∧ c'.faults = appendFault c.faults .clampLost
        ∧ Reason.clampLost ∈ c'.reasons)
    ∧ (s.meas.condClamp = true → s.inputDue j = true → (s.meas.inputs.get i).sample ≠ (s.meas.inputs.get j).sample →
      ∃ t, exec (.inputLevelChange i) s = .next t ∧ t.engine = .hold ∧ t.meas.condClamp = true ∧ t.ctx = s.ctx
        ∧ t.out = s.out ∧ t.link.notices = s.link.notices))
  ∧ ∀ s : State, s.inputDue .pressOk = true →
    ∃ t, exec (.inputLevelChange .pressOk) s = .next t
      ∧ t.level .pressOk = s.meas.inputs.pressOk.sample
      ∧ t.declaredAs { s with meas :=
        { s.meas with
          inputs := { s.meas.inputs with
            pressOk := { s.meas.inputs.pressOk with established := true, level := s.meas.inputs.pressOk.sample } }
          capture := { s.meas.capture with
            pressOk := s.meas.capture.pressOk
              || (s.meas.inputs.pressOk.established
                && (s.senseInForce .pressOk).hits s.meas.inputs.pressOk.sample) } } }

/-- R13, R21: EMERGENCY taken in BOOST stops the head: contactor open, velocity 0, force-limit command and clamp lines held,
shear lines off, step unchanged, flags cleared, FAULT HOLD, and the outcome ABORTED with a record made. -/
def Obligations.EmergencyStopsTheHead : Prop :=
  ∀ (s : State) (c : WeldCtx), s.engine = .boost → s.ctx = some c → c.outcome = none → c.upsetBegun = false →
    s.inputDue .emergency = true → s.meas.inputs.emergency.sample = true → s.meas.condEmergency = false →
    ∃ t c', exec (.inputLevelChange .emergency) s = .next t ∧ t.engine = .faultHold ∧ t.ctx = some c'
      ∧ t.out = { s.out with
          contactor := false, velocity := 0, force := s.wireForce, shearAdvance := false, shearRetract := false }
      ∧ t.awaiting = false ∧ t.yielded = false ∧ t.share.rise.state = .none ∧ t.mode = .idle
      ∧ t.meas.condEmergency = true ∧ c'.phase = none ∧ c'.outcome = some .aborted ∧ c'.boostTime = some c.phaseTimer
      ∧ c'.faults = appendFault c.faults .emergency ∧ c'.reasons = c.reasons ∧ c'.pMeas = 0
      ∧ c'.weldTime = c.weldTime ∧ c'.burnOff = c.burnOff
      ∧ (∃ r ∈ t.records.list, r.serial = c.serial ∧ r.outcome = .aborted ∧ r.faults = c'.faults)

/-- R154, R12: the comparison of an interval takes the level of CONT_FB that the filter accepts in it (R150). Once the
disagreement exceeds the feedback time CONTACTOR is reported, which in READY changes no state and in HOLD stops the head;
it is not reported again until the timer has returned to 0. -/
def Obligations.ContactorFeedbackIsReported : Prop :=
  (∀ (s : State) (b : Bool), s.engine ≠ .configFault →
    b = (if s.inputDue .contFb then s.meas.inputs.contFb.sample else s.level .contFb) →
    (b = s.out.contactor → s.compareContactor = { s with meas := { s.meas with fbTimer := 0, fbReported := false } })
    ∧ (b ≠ s.out.contactor → s.compareContactor = { s with meas := { s.meas with fbTimer := s.meas.fbTimer + 2 } }))
  ∧ ∀ s : State, s.engine ≠ .configFault → s.image.fbTime < s.meas.fbTimer →
    (s.engine = .ready → s.meas.fbReported = false → ∃ t, exec .contactorFeedbackTimeout s = .next t
      ∧ t.declaredAs { s with meas := { s.meas with fbReported := true } })
    ∧ (s.meas.fbReported = true → exec .contactorFeedbackTimeout s = .next s)
    ∧ (∀ c, s.engine = .hold → s.meas.fbReported = false → s.ctx = some c → c.outcome = none → c.upsetBegun = true →
        ∃ t c', exec .contactorFeedbackTimeout s = .next t ∧ t.engine = .faultHold ∧ t.ctx = some c'
          ∧ c'.outcome = some .reject ∧ c'.faults = appendFault c.faults .contactor ∧ Reason.contactor ∈ c'.reasons
          ∧ c'.phase = none ∧ t.meas = { s.meas with fbReported := true }
          ∧ t.out = { s.out with
              contactor := false, velocity := 0, force := s.wireForce, shearAdvance := false, shearRetract := false })

/-! ### Timed events of the load sharing -/

/-- R118, R6: at the settle expiry a rise that fails its test waits; one that meets it is admitted, and in ADMITTING the
first current phase, a PREHEAT record or a FLASH record with contact pending (R67), is entered. R65, R79: one out of PREHEAT
or FLASH makes the move at once, to FLASH, keeping the pulses, or to BOOST (R80); in a short retraction that to BOOST waits,
and the claim stays declared (R120). R134: an admitted RESUME rise clears the flag, latches RESUME,
starts the bar of t_minrun and, in FLASH, sets the record's step. R132: where the yield time has reached its limit, that is
taken first, and no resume is admitted, which is the model's inference from the two orders R132 allows (log 47). The position of the latch is the model's inference (log 18). -/
def Obligations.SettleExpiryAdmitsOrWaits : Prop :=
  ∀ (s : State) (a : Ask), s.share.rise.state = .settling → s.share.rise.ask = some a → 120 ≤ s.share.rise.settle.ms →
    (s.admissionMet a.claim a.cls = false → ∃ t, exec .settleExpiry s = .next t ∧ t.declaredAs { s with share :=
      { s.share with rise :=
        { s.share.rise with state := .waiting, settle := ⟨false, s.share.rise.settle.ms⟩ } } })
    ∧ (∀ c i r, s.admissionMet a.claim a.cls = true → a.source = .sequencer → s.engine = .admitting →
        s.yielded = false → s.ctx = some c → c.abortTarget = none → c.prog.firstCurrent = some i →
        c.prog.body i = some (.preheat r) →
        ∃ t c', exec .settleExpiry s = .next t ∧ t.engine = .preheat ∧ t.awaiting = false ∧ t.ctx = some c'
          ∧ c'.phase = some i ∧ c'.phaseTimer = 0 ∧ c'.currentBegun = true ∧ c'.sub = some .approach
          ∧ t.share.rise.state = .none ∧ t.share.decl.present = r.load
          ∧ t.out = { s.out with
              contactor := true, step := r.step, velocity := r.approach, force := r.contactForce * 10 })
    ∧ (∀ c i r, s.admissionMet a.claim a.cls = true → a.source = .sequencer → s.engine = .admitting →
        s.yielded = false → s.ctx = some c → c.abortTarget = none → c.prog.firstCurrent = some i →
        c.prog.body i = some (.flash r) →
        ∃ t c', exec .settleExpiry s = .next t ∧ t.engine = .flash ∧ t.mode = .regulating ∧ t.awaiting = false
          ∧ t.ctx = some c' ∧ c'.phase = some i ∧ c'.phaseTimer = 0 ∧ c'.currentBegun = true ∧ c'.contactPending = true
          ∧ c'.firstFlash = some c.weldTime ∧ t.share.rise.state = .none ∧ t.share.decl.present = r.load
          ∧ t.out = { s.out with
              contactor := true, step := r.step, velocity := r.approach, force := s.image.fMax * 10 })
    ∧ (∀ c r, s.admissionMet a.claim a.cls = true → a.source = .sequencer → s.engine = .preheat → s.ctx = some c →
        c.abortTarget = none → c.prog.body c.nextIndex = some (.flash r) → c.prog.find .flash = some c.nextIndex →
        ∃ t c', exec .settleExpiry s = .next t ∧ t.engine = .flash ∧ t.mode = .regulating ∧ t.awaiting = false
          ∧ t.ctx = some c' ∧ c'.phase = some c.nextIndex ∧ c'.phaseTimer = 0 ∧ c'.sub = none
          ∧ c'.counted = c.counted ∧ c'.extra = c.extra ∧ c'.contactPending = true ∧ c'.firstFlash = some c.weldTime
          ∧ t.share.rise.state = .none ∧ t.yielded = s.yielded
          ∧ t.out = { s.out with
              contactor := true, step := if s.yielded then r.reducedStep else r.step, velocity := r.approach
              force := s.image.fMax * 10 })
    ∧ (∀ c q, s.admissionMet a.claim a.cls = true → a.source = .sequencer → s.engine = .flash → s.ctx = some c →
        c.flash? = some q → c.abortTarget = none →
        (∀ r, c.prog.body c.nextIndex = some (.flash r) →
          ∃ t c', exec .settleExpiry s = .next t ∧ t.engine = .flash ∧ t.mode = s.mode ∧ t.awaiting = false
            ∧ t.ctx = some c' ∧ c'.phase = some c.nextIndex ∧ c'.phaseTimer = 0 ∧ c'.retract = c.retract
            ∧ c'.openRun = c.openRun ∧ c'.burnOff = c.burnOff ∧ t.share.rise.state = .none
            ∧ t.out = { s.out with
                contactor := true, step := if s.yielded then r.reducedStep else r.step, force := s.image.fMax * 10 })
        ∧ (∀ b, c.prog.body c.nextIndex = some (.boost b) → s.mode ≠ .retracting →
          ∃ t c', exec .settleExpiry s = .next t ∧ t.engine = .boost ∧ t.mode = .idle ∧ t.awaiting = false
            ∧ t.yielded = false ∧ t.ctx = some c' ∧ c'.phase = some c.nextIndex ∧ c'.phaseTimer = 0
            ∧ c'.boostEntry = some c.burnOff ∧ t.share.rise.state = .none ∧ t.share.decl.rise = none
            ∧ t.share.decl.present = c.prog.classZero
            ∧ t.out = { s.out with
                contactor := true, step := b.step, velocity := b.speed, force := s.image.fMax * 10 })
        ∧ (∀ b, c.prog.body c.nextIndex = some (.boost b) → s.mode = .retracting →
          ∃ t c', exec .settleExpiry s = .next t ∧ t.engine = .flash ∧ t.mode = .retracting ∧ t.awaiting = false
            ∧ t.out = s.out ∧ t.ctx = some c' ∧ c'.phase = c.phase ∧ c'.moveDue = true ∧ c'.retract = c.retract
            ∧ t.share.rise.state = .none ∧ t.share.decl.claim = a.claim ∧ t.share.decl.rise = some a.cls))
    ∧ (∀ c r, s.admissionMet a.claim a.cls = true → a.source = .resume → s.engine = .flash → s.ctx = some c →
        c.flash? = some r → c.lists .resume = true → c.yieldTime < c.prog.tYieldMax * 1000 →
        ∃ t c', exec .settleExpiry s = .next t ∧ t.engine = .flash ∧ t.yielded = false ∧ t.ctx = some c'
          ∧ c'.latches = c.latches ++ [⟨.resume, s.meas.intervalPos, c.weldTime⟩] ∧ c'.sinceResume = some 0
          ∧ c'.minrunBar = true ∧ c'.guard = none ∧ c'.yieldTime = c.yieldTime ∧ t.share.rise.state = .none
          ∧ t.out = { s.out with step := r.step })
    ∧ (∀ c, s.admissionMet a.claim a.cls = true → a.source = .resume → s.engine = .flash → s.ctx = some c →
        c.abortTarget = none → c.limitReported = false → c.prog.tYieldMax ≠ 0 → c.prog.tYieldMax * 1000 ≤ c.yieldTime →
        ∃ t c', exec .settleExpiry s = .next t ∧ t.engine = .flash ∧ t.mode = .retracting ∧ t.ctx = some c'
          ∧ c'.reasons = (c.addReason .yieldLimit).reasons ∧ c'.sinceResume = c.sinceResume
          ∧ t.share.rise.state = .none)

/-- R121, R17: T_admit expires in ADMITTING: the rise ends, and ADMIT TIMEOUT takes the weld to RELEASING. R132, R18: the
yield time at its limit ends the weld in FLASH with YIELD LIMIT through the abort retract. The step output stays as it
stands, also where the flag was set (R61, and not R66: log 50, the model's choice). R137: in an abort retract that another
cause began it is added to the reasons, with its NOTICE FAULT, and the retract goes on (log 47). -/
def Obligations.TimedCausesEndTheWeld : Prop :=
  (∀ (s : State) (c : WeldCtx), s.engine = .admitting → s.ctx = some c → s.share.rise.state ≠ .none →
    s.share.rise.admitWait.running = true → c.prog.tAdmit * 1000 ≤ s.share.rise.admitWait.ms → s.wireForce ≠ 0 →
    ∃ t c', exec .admitTimeout s = .next t ∧ t.engine = .releasing ∧ t.awaiting = false ∧ t.ctx = some c'
      ∧ t.share.rise = ⟨.none, none, ⟨false, s.share.rise.settle.ms⟩, ⟨false, s.share.rise.admitWait.ms⟩⟩
      ∧ c'.reasons = (c.addReason .admitTimeout).reasons
      ∧ c'.ending = some (c.ending.getD .admitTimeout) ∧ t.stress.rampStart = some s.wireForce
      ∧ t.share.peers = s.share.peers)
    ∧ ∀ (s : State) (c : WeldCtx), s.engine = .flash → s.ctx = some c → c.limitReported = false →
    c.prog.tYieldMax ≠ 0 → c.prog.tYieldMax * 1000 ≤ c.yieldTime →
    (c.abortTarget = none → ∃ t c', exec .yieldLimit s = .next t ∧ t.engine = .flash ∧ t.mode = .retracting
      ∧ t.yielded = false ∧ t.ctx = some c' ∧ c'.yieldTime = c.yieldTime
      ∧ c'.reasons = (c.addReason .yieldLimit).reasons ∧ c'.ending = some (c.ending.getD .yieldLimit)
      ∧ c'.limitReported = true ∧ t.share.rise.state = .none ∧ t.out.contactor = false ∧ t.out.step = s.out.step)
    ∧ (c.abortTarget.isSome = true → s.share.rise.ask = none → s.link.notices.length < 8 →
      ∃ t, exec .yieldLimit s = .next t ∧ t.declaredAs { s with
        ctx := some { c with
          limitReported := true
          ending := some (c.ending.getD .yieldLimit)
          reasons := (c.addReason .yieldLimit).reasons }
        link := { s.link with notices := s.link.notices ++ [.fault c.serial .yieldLimit c.weldTime none] } })

/-- R100: an entry silent for T_peer lapses and keeps its other fields; a lapsed one silent for T_peer + T_linger is
removed; every other entry is left. Records stay as they are where a RESUME rise pends only in PREHEAT or FLASH (R133, R138;
log 20), as `weldSound` has it and steps keep it. -/
def Obligations.PeersLapseAndLeave : Prop :=
  ∀ (s : State) (n : Station) (p : Peer), p ∈ s.share.peers → p.station = n.val →
    (p.live = true → s.image.tPeer ≤ p.silence → ∃ t, exec (.peerLapse n) s = .next t
      ∧ t.share.peers = s.share.peers.map (fun q => if q.station = n.val then { q with live := false } else q)
      ∧ t.meas = s.meas ∧ t.slots = s.slots ∧ (s.weldSound = true → t.records = s.records))
    ∧ (p.live = false → s.image.tPeer + s.image.tLinger ≤ p.silence → ∃ t, exec (.peerRemoval n) s = .next t
      ∧ t.share.peers = s.share.peers.filter (fun q => decide (q.station ≠ n.val))
      ∧ t.meas = s.meas ∧ t.slots = s.slots ∧ (s.weldSound = true → t.records = s.records))

/-- R109, R110: at 5,000 ms a held rating ends: the source is FALLBACK where the image permits it and the link has been
joined, and NONE with a budget of 0 otherwise. -/
def Obligations.RatingAgeEndsTheRating : Prop :=
  ∀ (s : State) (a : Nat), s.share.ratingAge = some a → 5000 ≤ a → s.share.source = .held →
    ∃ t, exec .ratingAgeThreshold s = .next t ∧ t.share.rating = s.share.rating ∧ t.share.ratingAge = some a
      ∧ t.share.peers = s.share.peers
      ∧ (s.image.standalone = true → s.share.everJoined = true → t.share.source = .fallback
          ∧ t.budget = s.image.fallback * (100 - s.image.reserve) / 100)
      ∧ (s.image.standalone = false ∨ s.share.everJoined = false → t.share.source = .none ∧ t.budget = 0)

/-- R135: the bar of t_minrun lifts; with no peer's rise pending the head does not yield, and its reduction is declared
again. R136, R137: a pause past the tolerance restarts the pulse count once; the third restart is PREHEAT LOST, and one
that fell due before an abort retract adds it to the reasons (log 48). -/
def Obligations.YieldTimersAct : Prop :=
  (∀ (s : State) (c : WeldCtx) (n : Nat), s.ctx = some c → c.minrunBar = true → c.sinceResume = some n →
    c.prog.tMinrun * 100 ≤ n → s.yielded = false → s.highestRise = none →
    ∃ t, exec .minrunExpiry s = .next t ∧ t.declaredAs { s with ctx := some { c with minrunBar := false } })
    ∧ (∀ (s : State) (c : WeldCtx), s.engine = .preheat → s.ctx = some c → c.restartDue = true → c.restarts = 2 →
    c.abortTarget.isSome = true → ∃ t c', exec .preheatPauseRestart s = .next t ∧ t.ctx = some c'
      ∧ t.engine = .preheat ∧ t.mode = s.mode ∧ t.out = s.out ∧ c'.restarts = 3 ∧ c'.counted = 0
      ∧ c'.restartDue = false ∧ c'.abortTarget = c.abortTarget ∧ c'.reasons = (c.addReason .preheatLost).reasons)
    ∧ ∀ (s : State) (c : WeldCtx) (r : PreheatRec) (p : Nat), s.engine = .preheat → s.yielded = true → s.ctx = some c →
    c.preheat? = some r → c.pause = some p → r.pauseTolerance < p → c.pauseTaken = false →
    (c.restarts < 2 → ∃ t, exec .preheatPauseRestart s = .next t ∧ t.declaredAs { s with
      ctx := some { c with pauseTaken := true, restartDue := false, counted := 0, restarts := c.restarts + 1 } })
    ∧ (c.restarts = 2 → c.abortTarget = none → ∃ t c', exec .preheatPauseRestart s = .next t ∧ t.ctx = some c'
        ∧ t.engine = .preheat ∧ t.mode = .retracting ∧ t.yielded = false ∧ c'.restarts = 3 ∧ c'.counted = 0
        ∧ Reason.preheatLost ∈ c'.reasons ∧ t.share.rise.state = .none)

/-! ### Timed events of the phases -/

/-- R45, R17: the clamp timeout ends the weld with CLAMP TIMEOUT; with the force-limit command at 0 OPENING follows at once
(R54, R55). -/
def Obligations.ClampTimeoutEndsTheWeld : Prop :=
  ∀ (s : State) (c : WeldCtx) (n : Nat), s.engine = .clamping → s.ctx = some c → c.body = some (.clamp n) →
    n ≤ s.stress.clampTimer.ms → s.out.force = 0 → s.bothOpen = false →
    ∃ t c', exec .clampTimeout s = .next t ∧ t.engine = .releasing ∧ t.ctx = some c'
      ∧ c'.reasons = (c.addReason .clampTimeout).reasons ∧ c'.ending = some (c.ending.getD .clampTimeout)
      ∧ t.stress.release = some .opening ∧ t.stress.releaseTimer = ⟨true, 0⟩ ∧ t.stress.clampTimer.running = false
      ∧ t.out = { s.out with
          velocity := 0, force := 0, fixedClose := false, movingClose := false, fixedOpen := true, movingOpen := true }

/-- R51, R52, R6: stall and timeout end PULL alike: pull achieved, force hold, PULL END, PULL SHORT where the deficit
exceeds the tolerance, and ADMITTING with the rise of the first current phase asked: of its load, at class 2 for PREHEAT
and 1 for FLASH, in SETTLING or behind a higher-ranked rise WITHDRAWN (R115). The position of the pull and of
its latch is the model's inference (log 18). -/
def Obligations.PullEnds : Prop :=
  ∀ (s : State) (c : WeldCtx) (r : PullRec) (i : Instr), s.engine = .pulling → s.ctx = some c →
    c.pull? = some r →
    (i = .pullStall ∧ 500 ≤ s.stress.pullStall ∨ i = .pullTimeout ∧ r.timeout ≤ c.phaseTimer) →
    ∃ t c', exec i s = .next t ∧ t.engine = .admitting ∧ t.awaiting = true ∧ t.ctx = some c' ∧ c'.phase = none
      ∧ c'.phaseTimer = 0 ∧ c'.pullAchieved = some (s.meas.position - c.pullStart.getD s.meas.position).toNat
      ∧ c'.forceHold = some (min s.meas.fm (s.image.fMax * 10))
      ∧ c'.latches = c.latches ++ [⟨.pullEnd, s.meas.position, c.weldTime⟩]
      ∧ c'.reasons = (if (s.meas.position - c.pullStart.getD s.meas.position).toNat + r.tolerance < c.pReq
          then (c.addReason .pullShort).reasons else c.reasons)
      ∧ t.out = { s.out with velocity := 0, force := 0 } ∧ t.meas = s.meas ∧ t.records = s.records
      ∧ (∀ k q, c.prog.firstCurrent = some k → c.prog.body k = some (.preheat q) →
          t.share.rise.ask = some ⟨.sequencer, q.load, 2⟩ ∧ t.share.rise.admitWait = ⟨true, 0⟩
          ∧ t.share.rise.settle = ⟨!s.outranked 2, 0⟩
          ∧ t.share.rise.state = (if s.outranked 2 then .withdrawn else .settling))
      ∧ (∀ k q, c.prog.firstCurrent = some k → c.prog.body k = some (.flash q) →
          t.share.rise.ask = some ⟨.sequencer, q.load, 1⟩ ∧ t.share.rise.admitWait = ⟨true, 0⟩
          ∧ t.share.rise.settle = ⟨!s.outranked 1, 0⟩
          ∧ t.share.rise.state = (if s.outranked 1 then .withdrawn else .settling))

/-- R64: PULSE ON runs its on time: the pulse counts, or is extra once the criterion is met, and PULSE OFF opens the
contactor; at the end of PULSE OFF with pulses to come the next approach closes it. R65, R7: the PULSE OFF at which the
counted pulses stand at the pulse count meets the exit criterion: FLASH is entered at once, with contact pending (R67), where
its load is not above the present load, and is asked as a rise of class 1 otherwise, while the next approach starts. The
position of the draw-back target is the model's inference (log 18). -/
def Obligations.PulsesFollowOneAnother : Prop :=
  ∀ (s : State) (c : WeldCtx) (r : PreheatRec), s.engine = .preheat → s.ctx = some c → c.preheat? = some r →
    c.abortTarget = none →
    (c.sub = some .pulseOn → r.onTime ≤ c.subTimer → ∃ t, exec .pulseOnEnd s = .next t ∧ t.declaredAs { s with
        ctx := some { c with
          counted := (if c.exitMet then c.counted else c.counted + 1),
          extra := (if c.exitMet then min (c.extra + 1) 65535 else c.extra), sub := some .pulseOff, subTimer := 0,
          drawTarget := some (s.meas.position - r.openDistance) },
        out := { s.out with contactor := false, velocity := -(s.image.vRetractMax : Int) },
        share := { s.share with hold := if s.level .contFb then some s.presentLoad else s.share.hold } })
    ∧ (c.sub = some .pulseOff → r.offTime ≤ c.subTimer → s.yielded = false → c.counted < r.pulses →
        ∃ t, exec .pulseOffEnd s = .next t ∧ t.declaredAs { s with
          ctx := some { c with sub := some .approach, subTimer := 0, drawTarget := none },
          out := { s.out with contactor := true, velocity := r.approach },
          share := { s.share with hold := none } })
    ∧ (∀ q, c.sub = some .pulseOff → r.offTime ≤ c.subTimer → s.yielded = false → r.pulses ≤ c.counted →
        c.exitMet = false → c.prog.body c.nextIndex = some (.flash q) →
        (q.load ≤ s.presentLoad → c.prog.find .flash = some c.nextIndex →
          ∃ t c', exec .pulseOffEnd s = .next t ∧ t.engine = .flash ∧ t.mode = .regulating ∧ t.ctx = some c'
            ∧ c'.phase = some c.nextIndex ∧ c'.phaseTimer = 0 ∧ c'.sub = none ∧ c'.counted = c.counted
            ∧ c'.extra = c.extra ∧ c'.contactPending = true ∧ c'.firstFlash = some c.weldTime
            ∧ t.awaiting = s.awaiting
            ∧ t.out = { s.out with
                contactor := true, step := q.step, velocity := q.approach, force := s.image.fMax * 10 })
        ∧ (s.presentLoad < q.load → ∃ t c', exec .pulseOffEnd s = .next t ∧ t.engine = .preheat ∧ t.awaiting = true
            ∧ t.ctx = some c' ∧ c'.exitMet = true ∧ c'.phase = c.phase ∧ c'.sub = some .approach ∧ c'.subTimer = 0
            ∧ c'.drawTarget = none ∧ c'.counted = c.counted
            ∧ t.share.rise.ask = some ⟨.sequencer, q.load, 1⟩ ∧ t.share.rise.admitWait = ⟨true, 0⟩
            ∧ t.share.rise.state = (if s.outranked 1 then .withdrawn else .settling)
            ∧ t.out = { s.out with contactor := true, velocity := r.approach }))

/-- R72, R74: an interval evaluated in REGULATING after CONTACT, with no exit, lengthens or ends the two runs, and is a short
onset or meets t_open by the record in force. R72, R73: the onset begins the retraction, with the target and the v_r of its
interval; R74: an open run that met t_open enters OPEN at v_max. That the rows take what the interval found is the model's
choice (log 35), and the position of the latch its inference (log 18). R73: an interval at the retract target, or past it,
returns to REGULATING with the runs at 0, and makes the move to BOOST that waited (R79, R80); that it still commands −v_r is an
inference (log 15). R74, R75: the return of current ends OPEN, with the velocity of the speed law, and adds the episode to the
open time; until then each interval adds 2 ms at v_max. -/
def Obligations.ShortAndOpenBegin : Prop :=
  (∀ (s : State) (c : WeldCtx) (r : FlashRec), s.engine = .flash → s.ctx = some c → c.flash? = some r →
    c.contactPending = false → c.abortTarget = none →
    (c.exitMet = true → s.awaiting = false ∨ c.burnOff ≤ (c.target : Int) + (c.prog.overrun : Int)) →
    (∀ k, s.mode = .retracting → c.retract = some k → (c.exitMet = true ∨ k.burnOff < (c.target : Int)) →
      (k.target < s.meas.intervalPos → s.evalFlash = { s with out := { s.out with velocity := -(k.speed : Int) } })
      ∧ (s.meas.intervalPos ≤ k.target → c.moveDue = false → s.evalFlash = { s with
          ctx := some { c with shortRun := 0, openRun := 0, onset := none, openMet := false, retract := none }
          mode := .regulating
          out := { s.out with velocity := -(k.speed : Int) } })
      ∧ (∀ b, s.meas.intervalPos ≤ k.target → c.moveDue = true → c.prog.body c.nextIndex = some (.boost b) →
          ∃ c', s.evalFlash.ctx = some c' ∧ s.evalFlash.engine = .boost ∧ s.evalFlash.mode = .idle
            ∧ s.evalFlash.yielded = false ∧ s.evalFlash.share.admitted = none ∧ c'.phase = some c.nextIndex
            ∧ c'.phaseTimer = 0 ∧ c'.boostEntry = some c.burnOff ∧ c'.shortRun = 0 ∧ c'.openRun = 0
            ∧ c'.latches = c.latches ++ [⟨.boostStart, s.meas.position, c.weldTime⟩]
            ∧ s.evalFlash.out = { s.out with
                contactor := true, step := b.step, velocity := b.speed, force := s.image.fMax * 10 }))
    ∧ (s.mode = .openGap → (c.exitMet = true ∨ c.burnOff < (c.target : Int)) →
      (s.meas.im < r.iOpen → s.evalFlash = { s with
          ctx := some { c with openRun := c.openRun + 2 }
          out := { s.out with velocity := (s.image.vMax : Int) } })
      ∧ (r.iOpen ≤ s.meas.im → s.evalFlash = { s with
          ctx := some { c with
            shortRun := 0, openRun := 0, onset := none, openMet := false, openTime := c.openTime + c.openRun }
          mode := .regulating
          out := { s.out with velocity := ({ s with mode := .regulating } : State).evalFlash.out.velocity } })))
  ∧ ∀ (s : State) (c : WeldCtx), s.engine = .flash → s.mode = .regulating → s.ctx = some c →
    c.contactPending = false → c.abortTarget = none →
    (∀ r, c.flash? = some r → s.awaiting = false → c.burnOff < (c.target : Int) →
      s.evalFlash.mode = .regulating ∧ s.evalFlash.ctx = some { c with
        shortRun := if r.isc ≤ s.meas.im then c.shortRun + 2 else 0
        openRun := if s.meas.im < r.iOpen then c.openRun + 2 else 0
        onset := if r.isc ≤ s.meas.im ∧ r.tsc ≤ c.shortRun + 2
          then some ⟨s.meas.intervalPos - r.dr, r.vr, c.burnOff⟩ else none
        openMet := decide (s.meas.im < r.iOpen ∧ r.tOpen ≤ c.openRun + 2) })
    ∧ (∀ k, c.onset = some k → ∃ t c', exec .shortOnset s = .next t ∧ t.ctx = some c'
      ∧ t.mode = .retracting ∧ t.engine = .flash ∧ c'.shortCount = min (c.shortCount + 1) 65535
      ∧ c'.retract = some k ∧ c'.shortRun = 0 ∧ c'.openRun = 0 ∧ c'.onset = none ∧ c'.openMet = false
      ∧ t.out = { s.out with velocity := -(k.speed : Int) } ∧ c'.burnOff = c.burnOff
      ∧ ((c.latches.filter fun l => l.kind.repeated).length < 16 →
          c'.latches = c.latches ++ [⟨.short, s.meas.intervalPos, c.weldTime⟩] ∧ c'.omitted = c.omitted)
      ∧ (16 ≤ (c.latches.filter fun l => l.kind.repeated).length →
          c'.latches = c.latches ∧ c'.omitted = min (c.omitted + 1) 65535))
    ∧ (c.openMet = true → ∃ t, exec .openCircuit s = .next t ∧ t.declaredAs { s with
        ctx := some { c with openMet := false }
        mode := .openGap
        out := { s.out with velocity := (s.image.vMax : Int) } })

/-- R18: an abort retract that has stood still for 500 ms ends in RELEASING, whose ramp (R54) starts from the command at the
wiring (R53). -/
def Obligations.AbortRetractEnds : Prop :=
  ∀ (s : State) (c : WeldCtx), (s.engine = .preheat ∨ s.engine = .flash) → s.ctx = some c →
    c.abortTarget.isSome = true → 500 ≤ c.abortStill → s.wireForce ≠ 0 →
    ∃ t c', exec .abortRetractStill s = .next t ∧ t.engine = .releasing ∧ t.mode = .idle ∧ t.ctx = some c'
      ∧ c'.abortTarget = none ∧ c'.reasons = c.reasons ∧ c'.burnOff = c.burnOff
      ∧ t.stress.release = some .ramping ∧ t.stress.rampStart = some s.wireForce
      ∧ t.out = { s.out with velocity := 0, force := s.wireForce }

/-- R76, R77: a window of 50 intervals sets P_meas; in FLASH the guard setpoint stands where P_meas is above 110 % of the
declared load, and is discarded otherwise. R59: the 50th interval completes its window in its own step 1, before its
velocity command is set, and in PREHEAT the guard takes no action; the row of the window acts alike where a count of 50
stands (log 45). -/
def Obligations.PowerWindowSetsTheGuard : Prop :=
  (∀ (s : State) (c : WeldCtx) (p : Nat), s.ctx = some c → c.winCount = 49 → c.energyStopped = false →
    (c.energyOn = true ∨ s.out.contactor = true) → c.abortTarget = none →
    p = (c.winSum + s.meas.um * s.meas.im) / 500000 →
    (s.engine = .preheat → ∃ c', s.evalUnits.ctx = some c' ∧ c'.pMeas = p ∧ c'.winSum = 0 ∧ c'.winCount = 0
        ∧ c'.guard = c.guard ∧ c'.guardCount = c.guardCount)
    ∧ (∀ r, s.engine = .flash → c.flash? = some r → ∃ c', s.countPower.ctx = some c' ∧ c'.pMeas = p ∧ c'.winSum = 0
        ∧ c'.winCount = 0
        ∧ (s.presentLoad * 110 / 100 < p → c'.guard = some (max ((if s.yielded then r.isRed else r.is) * s.presentLoad / p)
              ((if s.yielded then r.isRed else r.is) / 2)) ∧ c'.guardCount = min (c.guardCount + 1) 65535)
        ∧ (p ≤ s.presentLoad * 110 / 100 → c'.guard = none ∧ c'.guardCount = c.guardCount)))
  ∧ ∀ (s : State) (c : WeldCtx) (r : FlashRec), s.ctx = some c → 50 ≤ c.winCount → c.flash? = some r →
    s.engine = .flash → c.abortTarget = none →
    ∃ t, exec .powerWindowComplete s = .next t ∧
      ((s.presentLoad * 110 / 100 < c.winSum / 500000 → t.declaredAs { s with ctx := some { c with
          pMeas := c.winSum / 500000
          winSum := 0
          winCount := 0
          guard := some (max ((if s.yielded then r.isRed else r.is) * s.presentLoad / (c.winSum / 500000))
            ((if s.yielded then r.isRed else r.is) / 2))
          guardCount := min (c.guardCount + 1) 65535 } })
      ∧ (c.winSum / 500000 ≤ s.presentLoad * 110 / 100 → t.declaredAs { s with ctx := some { c with
          pMeas := c.winSum / 500000
          winSum := 0
          winCount := 0
          guard := none } }))

/-- R81, R85: the boost time reached: the boost time is set and UPSET entered, with UPSET START latched and the stroke
begun. R86: CURRENT OFF opens the contactor, records the upset current time, and latches; the energy stops (R82). The
position of the latches is the model's inference (log 18). -/
def Obligations.BoostAndCurrentEnd : Prop :=
  (∀ (s : State) (c : WeldCtx) (b : BoostRec) (u : UpsetRec), s.engine = .boost → s.ctx = some c →
    c.boost? = some b → b.time ≤ c.phaseTimer → c.prog.body c.nextIndex = some (.upset u) → 0 < u.tuc →
    ∃ t c', exec .boostTimeReached s = .next t ∧ t.engine = .upset ∧ t.ctx = some c'
      ∧ c'.boostTime = some c.phaseTimer ∧ c'.phase = some c.nextIndex ∧ c'.phaseTimer = 0 ∧ c'.upsetBegun = true
      ∧ c'.upStart = some s.meas.intervalPos ∧ c'.peak = some s.meas.fm
      ∧ c'.latches = c.latches ++ [⟨.upsetStart, s.meas.intervalPos, c.weldTime⟩]
      ∧ t.upset = { s.upset with currentTimer := ⟨true, 0⟩, stall := 0 }
      ∧ t.out = { s.out with velocity := u.speed, force := u.fu * 10 })
    ∧ ∀ (s : State) (c : WeldCtx) (u : UpsetRec), s.engine = .upset → s.ctx = some c → c.upset? = some u →
    c.curTime = none → u.tuc ≤ s.upset.currentTimer.ms →
    ∃ t c', exec .currentOff s = .next t ∧ t.engine = .upset ∧ t.out = { s.out with contactor := false }
      ∧ t.ctx = some c' ∧ c'.curTime = some s.upset.currentTimer.ms ∧ c'.energyStopped = true ∧ c'.eRaw = c.eRaw
      ∧ c'.pMeas = 0 ∧ c'.latches = c.latches ++ [⟨.currentOff, s.meas.intervalPos, c.weldTime⟩]
      ∧ t.upset = { s.upset with currentTimer := ⟨false, s.upset.currentTimer.ms⟩ }
      ∧ (s.level .contFb = true → t.share.decl.present = s.presentLoad)
      ∧ (s.level .contFb = false → s.share.hold = none → t.share.decl.present = s.image.standby)

/-- R87, R88, R91: stall and timeout end UPSET alike: current off, upset distance, peak force, UPSET END, and HOLD. The
position of the latch is the model's inference (log 18). -/
def Obligations.UpsetEnds : Prop :=
  ∀ (s : State) (c : WeldCtx) (u : UpsetRec) (f n : Nat) (i : Instr), s.engine = .upset → s.ctx = some c →
    c.upset? = some u → c.prog.body c.nextIndex = some (.hold f n) →
    (i = .upsetStall ∧ 200 ≤ s.upset.stall ∨ i = .upsetTimeout ∧ u.timeout ≤ c.phaseTimer) →
    ∃ t c', exec i s = .next t ∧ t.engine = .hold ∧ t.ctx = some c' ∧ c'.phase = some c.nextIndex
      ∧ c'.phaseTimer = 0 ∧ c'.curTime = some (c.curTime.getD s.upset.currentTimer.ms)
      ∧ c'.distance = some (s.meas.intervalPos - c.upStart.getD s.meas.intervalPos).toNat
      ∧ c'.peak = some (max (c.peak.getD 0) s.meas.fm)
      ∧ c'.latches.getLast? = some ⟨.upsetEnd, s.meas.intervalPos, c.weldTime⟩
      ∧ t.out.velocity = (min s.image.creep s.image.vMax : Nat) ∧ t.out.force = f * 10
      ∧ (c.curTime = none → t.out.contactor = false)

/-- R91, R92: the hold time ends HOLD: HOLD END, and TRIM, whose shear advances from home. R93, R94: a shear that does not
reach its end in time is drawn back with TRIM FAIL; one that does not return in time leaves TRIM for RELEASING with
both lines off; SHEAR_END ends ADVANCING, and SHEAR_HOME RETURNING and TRIM, with no reason. The position of the latch is the
model's inference (log 18). -/
def Obligations.HoldAndTrimEnd : Prop :=
  (∀ (s : State) (c : WeldCtx) (f n m : Nat), s.engine = .hold → s.ctx = some c → c.body = some (.hold f n) →
    n * 1000 ≤ c.phaseTimer → c.prog.body c.nextIndex = some (.trim m) → s.level .shearHome = true →
    s.level .shearEnd = false →
    ∃ t c', exec .holdTimeEnd s = .next t ∧ t.engine = .trim ∧ t.ctx = some c' ∧ c'.phase = some c.nextIndex
      ∧ c'.phaseTimer = 0 ∧ c'.latches = c.latches ++ [⟨.holdEnd, s.meas.intervalPos, c.weldTime⟩]
      ∧ c'.reasons = c.reasons ∧ t.upset.shear = some .advancing ∧ t.upset.shearTimer = 0
      ∧ t.out = { s.out with shearAdvance := true, shearRetract := false })
    ∧ (∀ (s : State) (c : WeldCtx), s.engine = .trim → s.ctx = some c →
    (s.upset.shear = some .advancing → s.inputDue .shearEnd = true → s.meas.inputs.shearEnd.sample = true →
      s.level .shearHome = false → ∃ t, exec (.inputLevelChange .shearEnd) s = .next t ∧ t.engine = .trim
        ∧ t.ctx = s.ctx ∧ t.upset = { s.upset with shear := some .returning, shearTimer := 0 }
        ∧ t.out = { s.out with shearAdvance := false, shearRetract := true })
    ∧ (s.upset.shear = some .returning → s.inputDue .shearHome = true → s.meas.inputs.shearHome.sample = true →
      s.wireForce ≠ 0 → ∃ t c', exec (.inputLevelChange .shearHome) s = .next t ∧ t.engine = .releasing
        ∧ t.ctx = some c' ∧ c'.reasons = c.reasons ∧ c'.releasingEntered = true
        ∧ t.stress.release = some .ramping ∧ t.stress.rampStart = some s.wireForce
        ∧ t.out = { s.out with velocity := 0, force := s.wireForce, shearAdvance := false, shearRetract := false })
    ∧ (s.upset.shear = some .advancing → s.level .shearEnd = false → s.inputDue .shearHome = true →
      ∃ t, exec (.inputLevelChange .shearHome) s = .next t ∧ t.engine = .trim ∧ t.ctx = s.ctx ∧ t.upset = s.upset
        ∧ t.out = s.out))
    ∧ ∀ (s : State) (c : WeldCtx) (m : Nat), s.engine = .trim → s.ctx = some c → c.body = some (.trim m) →
    m ≤ s.upset.shearTimer →
    (s.upset.shear = some .advancing → s.level .shearHome = false → ∃ t c', exec .shearTimeout s = .next t
      ∧ t.engine = .trim ∧ t.ctx = some c' ∧ c'.reasons = (c.addReason .trimFail).reasons
      ∧ t.upset.shear = some .returning ∧ t.upset.shearTimer = 0
      ∧ t.out = { s.out with shearAdvance := false, shearRetract := true })
    ∧ (s.upset.shear = some .returning → s.wireForce ≠ 0 → ∃ t c', exec .shearReturnTimeout s = .next t
      ∧ t.engine = .releasing ∧ t.ctx = some c' ∧ c'.reasons = (c.addReason .trimFail).reasons
      ∧ t.out = { s.out with velocity := 0, force := s.wireForce, shearAdvance := false, shearRetract := false })

/-- R54 to R56: the ramp's end opens the clamps; the clamp-open timeout turns the lines off and waits, with NOTICE FAULT
RELEASE TIMEOUT and the reasons unchanged; the timer of each release step starts at 0 (R42). -/
def Obligations.ReleaseStepsFollow : Prop :=
  ∀ (s : State) (c : WeldCtx), s.engine = .releasing → s.ctx = some c → s.bothOpen = false →
    (s.stress.release = some .ramping → s.image.rampTime ≤ s.stress.releaseTimer.ms →
      ∃ t, exec .releaseRampEnd s = .next t ∧ t.declaredAs { s with
        out := { s.out with
          force := 0, fixedClose := false, movingClose := false, fixedOpen := true, movingOpen := true }
        stress := { s.stress with release := some .opening, releaseTimer := ⟨true, 0⟩ } })
    ∧ (∀ n, s.stress.release = some .opening → c.body = some (.release n) → n ≤ s.stress.releaseTimer.ms →
        s.link.notices.length < 8 →
        ∃ t, exec .clampOpenTimeout s = .next t ∧ t.declaredAs { s with
          out := { s.out with fixedClose := false, movingClose := false, fixedOpen := false, movingOpen := false }
          stress := { s.stress with release := some .waiting, releaseTimer := ⟨true, 0⟩ }
          link := { s.link with
            notices := s.link.notices ++ [.fault c.serial .releaseTimeout c.weldTime none] } })

/-- R21, R22, R25, R55, R159, R164: the last clamp open ends RELEASING: the outcome of a weld without an ending cause is
ACCEPT exactly where no reason stands and no window is missed (the flash time from the UPSET START latch, R158), the
record is made, and the head is READY with its commands at 0. R55: a clamp that closes in that interval keeps RELEASING. -/
def Obligations.ReleaseCompletionJudgesTheWeld : Prop :=
  ∀ (s : State) (c : WeldCtx), s.engine = .releasing → s.stress.release = some .opening → s.ctx = some c →
    c.outcome = none → c.ending = none → c.releasingEntered = true → s.inputDue .clampM = true →
    s.meas.inputs.clampM.sample = false → s.level .clampF = false →
    (s.inputDue .clampF = true → s.meas.inputs.clampF.sample = true →
      ∃ t, exec (.inputLevelChange .clampM) s = .next t ∧ t.engine = .releasing ∧ t.ctx = s.ctx ∧ t.out = s.out)
    ∧ ((s.inputDue .clampF = false ∨ s.meas.inputs.clampF.sample = false) → ∃ t r, exec (.inputLevelChange .clampM) s = .next t ∧ t.engine = .ready ∧ t.ctx = none ∧ t.mode = .idle
      ∧ t.out = { s.out with
          step := 1, velocity := 0, force := 0, fixedClose := false, fixedOpen := false, movingClose := false,
          movingOpen := false }
      ∧ t.statusPeriod = 1000 ∧ t.records.list.getLast? = some r ∧ t.records.list.length ≤ s.records.list.length + 1
      ∧ r.serial = c.serial ∧ r.tag = c.tag ∧ r.slot = c.slot ∧ r.number = c.prog.number ∧ r.request = c.request
      ∧ r.duration = c.weldTime ∧ r.burnOff = c.burnOff ∧ r.energy = c.eRaw / 5000000 ∧ r.latches = c.latches
      ∧ r.outcome = (if r.reasons = [] then .accept else .reject)
      ∧ (Reason.burnOffLow ∈ r.reasons ↔ Reason.burnOffLow ∈ c.reasons ∨ c.burnOff < (c.prog.windows.burnMin : Int))
      ∧ (Reason.burnOffHigh ∈ r.reasons ↔ Reason.burnOffHigh ∈ c.reasons ∨ (c.prog.windows.burnMax : Int) < c.burnOff)
      ∧ (Reason.upsetShort ∈ r.reasons ↔ Reason.upsetShort ∈ c.reasons ∨ c.distance.getD 0 < c.prog.windows.distanceMin)
      ∧ (Reason.forceLow ∈ r.reasons ↔ Reason.forceLow ∈ c.reasons ∨ c.peak.getD 0 < c.prog.windows.forceMin * 10)
      ∧ (Reason.forceHigh ∈ r.reasons ↔ Reason.forceHigh ∈ c.reasons ∨ c.prog.windows.forceMax * 10 < c.peak.getD 0)
      ∧ (Reason.currentTime ∈ r.reasons ↔ Reason.currentTime ∈ c.reasons
          ∨ c.curTime.getD 0 < c.prog.windows.curTimeMin ∨ c.prog.windows.curTimeMax < c.curTime.getD 0)
      ∧ (∀ l, (c.latches.find? fun x => decide (x.kind = .upsetStart)) = some l →
          (Reason.flashTime ∈ r.reasons ↔ Reason.flashTime ∈ c.reasons
            ∨ (l.time - c.firstFlash.getD 0) / 100 < c.prog.windows.flashMin
            ∨ c.prog.windows.flashMax < (l.time - c.firstFlash.getD 0) / 100))
      ∧ (Reason.energyLow ∈ r.reasons ↔ Reason.energyLow ∈ c.reasons ∨ c.eRaw / 5000000 < c.prog.windows.energyMin)
      ∧ (Reason.energyHigh ∈ r.reasons ↔ Reason.energyHigh ∈ c.reasons ∨ c.prog.windows.energyMax < c.eRaw / 5000000)
      ∧ (Reason.freeze ∈ r.reasons ↔ Reason.freeze ∈ c.reasons ∨ c.prog.windows.maxShorts < c.shortCount)
      ∧ (Reason.flashBreak ∈ r.reasons ↔ Reason.flashBreak ∈ c.reasons ∨ c.prog.windows.maxOpen < c.openTime))

/-! ### Frames -/

/-- What the rows of a weld leave. The timed rows of the phase units (R43 to R56, R62 to R81, R85 to R94), of the own rise
(R116 to R122) and of Yield Control (R131 to R138), ABORT (R13 to R20) and CLEAR (R23) write what a weld writes and nothing
else: no measurement, no entry of the peer table, no rating, no programme, nothing of the image, of the reception, or of the
wiring as forwarded. DEMAND and the ends of an entry (R98, R100) write the peer table besides, RATING and its age (R108,
R109) the rating, the encoder's rows (R145 to R147) the position, the input rows (R150 to R154) the filters, captures and
conditions, a sample (R143, R144) the sample's own sums, and WELD_REQUEST (R3, R4) the serials, the trace and the queue of
runs. -/
def Obligations.WeldCommandsLeaveTheRest : Prop :=
  ∀ (i : Instr) (s t : State), exec i s = .next t →
    (i ∈ [Instr.clampTimeout, .pullStall, .pullTimeout, .pulseOnEnd, .pulseOffEnd, .shortOnset, .openCircuit,
        .abortRetractStill, .powerWindowComplete, .boostTimeReached, .currentOff, .upsetStall, .upsetTimeout,
        .holdTimeEnd, .shearTimeout, .shearReturnTimeout, .releaseRampEnd, .clampOpenTimeout, .settleExpiry,
        .admitTimeout, .yieldLimit, .minrunExpiry, .preheatPauseRestart] → t.besidesWeld = s.besidesWeld)
    ∧ (∀ (n : Station) (d : List Byte), n ≠ s.station → i = .abort n d ∨ i = .clear n d →
        t.besidesWeld = s.besidesWeld)
    ∧ (∀ (n : Station) (d : List Byte), n ≠ s.station → i = .demand n d ∨ i = .peerLapse n ∨ i = .peerRemoval n →
        t.besidesWeld = { s with share := { s.share with peers := t.share.peers } }.besidesWeld)
    ∧ (∀ (n : Station) (d : List Byte), n ≠ s.station → i = .rating n d ∨ i = .ratingAgeThreshold →
        t.besidesWeld = { s with share := { s.share with
          rating := t.share.rating, genState := t.share.genState, ratingAge := t.share.ratingAge
          source := t.share.source } }.besidesWeld)
    ∧ (∀ b e, i = .encoderEdge b ∨ i = .referenceMark ∨ i = .quadratureError e →
        t.besidesWeld = { s with meas := { s.meas with
          position := t.meas.position, homed := t.meas.homed, positionError := t.meas.positionError
          homedInSample := t.meas.homedInSample, homedNext := t.meas.homedNext } }.besidesWeld)
    ∧ (∀ x, i = .inputLevelChange x ∨ i = .contactorFeedbackTimeout →
        t.besidesWeld = { s with meas := { s.meas with
          inputs := t.meas.inputs, capture := t.meas.capture, fbReported := t.meas.fbReported
          condEmergency := t.meas.condEmergency, condTrain := t.meas.condTrain
          condClamp := t.meas.condClamp } }.besidesWeld)
    ∧ (i = .tenMsSample →
        t.besidesWeld = { s with meas := { s.meas with
          velocity := t.meas.velocity, prevSample := t.meas.prevSample, homedInSample := s.meas.homedNext
          homedNext := false, sumI := 0, sumU := 0, sumF := 0, sampleIntervals := 0, sampleNo := t.meas.sampleNo } }.besidesWeld ∨ t = s)
    ∧ (i = .weldRequest →
        t.besidesWeld = { s with
          nextSerial := t.nextSerial
          lastSerial := t.lastSerial
          trace := t.trace
          link := { s.link with weldReady := t.link.weldReady } }.besidesWeld)

/-- The rows of the bus and of the stores write the Bus Link's state, the readout of records and traces, and the programme
slots alone: no weld, no output, no measurement, no entry of the peer table. A frame of the own number is none of them. -/
def Obligations.MessageCommandsLeaveTheRest : Prop :=
  ∀ (i : Instr) (s t : State), exec i s = .next t →
    (∀ b, i = .frameOffer b → t = { s with link := { s.link with
        onBus := t.link.onBus, demandGap := t.link.demandGap } })
    ∧ (i = .frameAcknowledged → t = { s with
        link := { s.link with
          onBus := t.link.onBus, failed := t.link.failed, demandSlot := t.link.demandSlot, notices := t.link.notices
          statusSlot := t.link.statusSlot, noticeNext := t.link.noticeNext, recordSlot := t.link.recordSlot
          traceSlot := t.link.traceSlot }
        records := { s.records with sending := t.records.sending, waiting := t.records.waiting }
        trace := { s.trace with
          readout := t.trace.readout, stream := t.trace.stream, copy := t.trace.copy, waiting := t.trace.waiting
          gonePending := t.trace.gonePending } })
    ∧ (∀ (n : Station) (d : List Byte) (k : RunKind), n ≠ s.station →
        i = .runFirstFrame n d ∨ i = .programmeFirstFrame n d ∨ i = .runLaterFrame k n d →
        t = { s with link := { s.link with
          weldRuns := t.link.weldRuns, weldReady := t.link.weldReady, progRun := t.link.progRun
          progReady := t.link.progReady } })
    ∧ (∀ (n : Station) (d : List Byte), n ≠ s.station → i = .recordQuery n d →
        t = { s with
          link := { s.link with notices := t.link.notices, recordSlot := t.link.recordSlot }
          records := { s.records with sending := t.records.sending, waiting := t.records.waiting } })
    ∧ (∀ (n : Station) (d : List Byte), n ≠ s.station → i = .traceQuery n d →
        t = { s with
          link := { s.link with notices := t.link.notices }
          trace := { s.trace with
            readout := t.trace.readout, stream := t.trace.stream, copy := t.trace.copy, waiting := t.trace.waiting } })
    ∧ (i = .fetchCompletion → t = { s with
        link := { s.link with traceSlot := t.link.traceSlot }
        trace := { s.trace with readout := t.trace.readout, stream := t.trace.stream, copy := t.trace.copy } })
    ∧ (∀ (n : Station) (d : List Byte), n ≠ s.station → i = .captureClear n d →
        t = { s with meas := { s.meas with capture := t.meas.capture } })
    ∧ (i = .programme → t.besidesDemand = { s with
        slots := t.slots, link := { s.link with progReady := t.link.progReady, notices := t.link.notices } }.besidesDemand)

/-- R26, R181, R188: the straps, the image, the bit rate and the Loader's report are written by RESET, RESET_RELEASE and
CONFIGURATION_READ alone; the encoder's position by its own commands alone (R145 to R147); the rating as received by RATING
alone (R108); the programmes by PROGRAMME runs (R38, R39) and the serial counter by WELD REQUEST runs alone (R4), which an
interval may take (log 5); the forwarded outputs by an interval alone (R155); and no command touches the queue behind it. -/
def Obligations.ConfigurationStandsStill : Prop :=
  ∀ (i : Instr) (s t : State), exec i s = .next t → t.pending = s.pending ∧ (i ≠ .reset →
    ((∀ g, i ≠ .resetRelease g) → t.station = s.station)
    ∧ ((∀ b, i ≠ .configurationRead b) → t.image = s.image ∧ t.link.bitRate = s.link.bitRate)
    ∧ ((∀ g, i ≠ .resetRelease g) → (∀ b, i ≠ .configurationRead b) → t.loader = s.loader)
    ∧ ((∀ b, i ≠ .encoderEdge b) → i ≠ .referenceMark → (∀ e, i ≠ .quadratureError e) →
        t.meas.position = s.meas.position ∧ t.meas.homed = s.meas.homed)
    ∧ ((∀ n d, i ≠ .rating n d) → t.share.rating = s.share.rating ∧ t.share.genState = s.share.genState)
    ∧ (i ≠ .programme → (∀ b r, i ≠ .regulationInterval b r) → t.slots = s.slots)
    ∧ (i ≠ .weldRequest → (∀ b r, i ≠ .regulationInterval b r) → t.nextSerial = s.nextSerial)
    ∧ ((∀ b r, i ≠ .regulationInterval b r) → t.wire = s.wire))

/-! ### What every step keeps -/

/-- R43, R92: no step turns both lines of a clamp, or both shear lines, on together. -/
def Obligations.ValveLinesStayApart : Prop :=
  ∀ s t : State, step s = .next t → s.linesApart = true → t.linesApart = true

/-- R14, R82, R132, R149, R163, R164, R169, R173, R174, R184: every step keeps the bounds of the queues, lists, counts and
trace banks. -/
def Obligations.StoresStayBounded : Prop :=
  ∀ s t : State, step s = .next t → s.storesBounded = true → s.banksFormed = true →
    t.storesBounded = true ∧ t.banksFormed = true

/-- R97: every step keeps the peer table in ascending order of station, without the own number and so within 15 entries. -/
def Obligations.PeerTableStaysFormed : Prop :=
  ∀ s t : State, step s = .next t → s.peersSound = true → t.peersSound = true ∧ t.share.peers.length ≤ 15

/-- R60, R1: after every step the contactor command is CLOSED only in PREHEAT while not yielded, FLASH, BOOST, and UPSET
before its CURRENT OFF, and never in an abort retract. Among what it keeps, `weldSound` has it that a RESUME rise pends only in
PREHEAT or FLASH: R18, R133 and R138 say so but for a move to BOOST or UPSET, where that it ends is the model's inference
(log 20). -/
def Obligations.ContactorStaysSafe : Prop :=
  ∀ s t : State, step s = .next t → s.contactorSafe = true → t.contactorSafe = true

/-- R11, R17 to R20: after every step a weld before its upset stands only with the link JOINED, or in its abort retract. Among
what it keeps, `weldSound` has it that a RESUME rise pends only in PREHEAT or FLASH: R133 and R138 say so but for a move to
BOOST or UPSET, where that it ends is the model's inference (log 20). -/
def Obligations.CurrentPhasesStayLinked : Prop :=
  ∀ s t : State, step s = .next t → s.phasesLinked = true → t.phasesLinked = true

/-- R2, R4, R16, R21, R41, R68, R82: while one weld is in flight no step writes its copy or its request data, changes its
fixed outcome or its first ending cause, or lets its burn-off, weld time or energy fall; and its serial stays below the next
one. -/
def Obligations.WeldKeepsWhatItFixed : Prop :=
  ∀ s t : State, step s = .next t → s.serialsSound = true → t.serialsSound = true
    ∧ ∀ c c' : WeldCtx, s.ctx = some c → t.ctx = some c' → c'.serial = c.serial → c'.follows c = true

/-- The state after reset meets every invariant above, whatever waits in its queue. The reset values the manual does not
give are the model's choice (logs 1, 2 and 22). -/
def Obligations.ResetMeetsTheInvariants : Prop :=
  ∀ q : List Instr, let s : State := { State.reset with pending := q }
    s.linesApart = true ∧ s.storesBounded = true ∧ s.banksFormed = true ∧ s.peersSound = true
      ∧ s.contactorSafe = true ∧ s.phasesLinked = true ∧ s.serialsSound = true
end

