-- ==== Sys2Proof/Laws/State.lean ====
section
/-! SUPPORT. One lemma per field of State per named update, true by rfl, so that no later proof unfolds a record update. -/

namespace Sys2Proof.Machine

variable (s : State)

/-! ### onCtx -/

@[simp] theorem State.onCtx_pending (f : WeldCtx → WeldCtx) : (s.onCtx f).pending = s.pending := rfl
@[simp] theorem State.onCtx_loader (f : WeldCtx → WeldCtx) : (s.onCtx f).loader = s.loader := rfl
@[simp] theorem State.onCtx_station (f : WeldCtx → WeldCtx) : (s.onCtx f).station = s.station := rfl
@[simp] theorem State.onCtx_image (f : WeldCtx → WeldCtx) : (s.onCtx f).image = s.image := rfl
@[simp] theorem State.onCtx_engine (f : WeldCtx → WeldCtx) : (s.onCtx f).engine = s.engine := rfl
@[simp] theorem State.onCtx_ctx (f : WeldCtx → WeldCtx) : (s.onCtx f).ctx = s.ctx.map f := rfl
@[simp] theorem State.onCtx_nextSerial (f : WeldCtx → WeldCtx) : (s.onCtx f).nextSerial = s.nextSerial := rfl
@[simp] theorem State.onCtx_lastSerial (f : WeldCtx → WeldCtx) : (s.onCtx f).lastSerial = s.lastSerial := rfl
@[simp] theorem State.onCtx_awaiting (f : WeldCtx → WeldCtx) : (s.onCtx f).awaiting = s.awaiting := rfl
@[simp] theorem State.onCtx_yielded (f : WeldCtx → WeldCtx) : (s.onCtx f).yielded = s.yielded := rfl
@[simp] theorem State.onCtx_statusPeriod (f : WeldCtx → WeldCtx) : (s.onCtx f).statusPeriod = s.statusPeriod := rfl
@[simp] theorem State.onCtx_statusTimer (f : WeldCtx → WeldCtx) : (s.onCtx f).statusTimer = s.statusTimer := rfl
@[simp] theorem State.onCtx_slots (f : WeldCtx → WeldCtx) : (s.onCtx f).slots = s.slots := rfl
@[simp] theorem State.onCtx_stress (f : WeldCtx → WeldCtx) : (s.onCtx f).stress = s.stress := rfl
@[simp] theorem State.onCtx_mode (f : WeldCtx → WeldCtx) : (s.onCtx f).mode = s.mode := rfl
@[simp] theorem State.onCtx_upset (f : WeldCtx → WeldCtx) : (s.onCtx f).upset = s.upset := rfl
@[simp] theorem State.onCtx_out (f : WeldCtx → WeldCtx) : (s.onCtx f).out = s.out := rfl
@[simp] theorem State.onCtx_wire (f : WeldCtx → WeldCtx) : (s.onCtx f).wire = s.wire := rfl
@[simp] theorem State.onCtx_meas (f : WeldCtx → WeldCtx) : (s.onCtx f).meas = s.meas := rfl
@[simp] theorem State.onCtx_share (f : WeldCtx → WeldCtx) : (s.onCtx f).share = s.share := rfl
@[simp] theorem State.onCtx_records (f : WeldCtx → WeldCtx) : (s.onCtx f).records = s.records := rfl
@[simp] theorem State.onCtx_trace (f : WeldCtx → WeldCtx) : (s.onCtx f).trace = s.trace := rfl
@[simp] theorem State.onCtx_link (f : WeldCtx → WeldCtx) : (s.onCtx f).link = s.link := rfl

/-! ### setVelocity -/

@[simp] theorem State.setVelocity_pending (v : Int) : (s.setVelocity v).pending = s.pending := rfl
@[simp] theorem State.setVelocity_loader (v : Int) : (s.setVelocity v).loader = s.loader := rfl
@[simp] theorem State.setVelocity_station (v : Int) : (s.setVelocity v).station = s.station := rfl
@[simp] theorem State.setVelocity_image (v : Int) : (s.setVelocity v).image = s.image := rfl
@[simp] theorem State.setVelocity_engine (v : Int) : (s.setVelocity v).engine = s.engine := rfl
@[simp] theorem State.setVelocity_ctx (v : Int) : (s.setVelocity v).ctx = s.ctx := rfl
@[simp] theorem State.setVelocity_nextSerial (v : Int) : (s.setVelocity v).nextSerial = s.nextSerial := rfl
@[simp] theorem State.setVelocity_lastSerial (v : Int) : (s.setVelocity v).lastSerial = s.lastSerial := rfl
@[simp] theorem State.setVelocity_awaiting (v : Int) : (s.setVelocity v).awaiting = s.awaiting := rfl
@[simp] theorem State.setVelocity_yielded (v : Int) : (s.setVelocity v).yielded = s.yielded := rfl
@[simp] theorem State.setVelocity_statusPeriod (v : Int) : (s.setVelocity v).statusPeriod = s.statusPeriod := rfl
@[simp] theorem State.setVelocity_statusTimer (v : Int) : (s.setVelocity v).statusTimer = s.statusTimer := rfl
@[simp] theorem State.setVelocity_slots (v : Int) : (s.setVelocity v).slots = s.slots := rfl
@[simp] theorem State.setVelocity_stress (v : Int) : (s.setVelocity v).stress = s.stress := rfl
@[simp] theorem State.setVelocity_mode (v : Int) : (s.setVelocity v).mode = s.mode := rfl
@[simp] theorem State.setVelocity_upset (v : Int) : (s.setVelocity v).upset = s.upset := rfl
@[simp] theorem State.setVelocity_out (v : Int) : (s.setVelocity v).out = { s.out with velocity := v } := rfl
@[simp] theorem State.setVelocity_wire (v : Int) : (s.setVelocity v).wire = s.wire := rfl
@[simp] theorem State.setVelocity_meas (v : Int) : (s.setVelocity v).meas = s.meas := rfl
@[simp] theorem State.setVelocity_share (v : Int) : (s.setVelocity v).share = s.share := rfl
@[simp] theorem State.setVelocity_records (v : Int) : (s.setVelocity v).records = s.records := rfl
@[simp] theorem State.setVelocity_trace (v : Int) : (s.setVelocity v).trace = s.trace := rfl
@[simp] theorem State.setVelocity_link (v : Int) : (s.setVelocity v).link = s.link := rfl

/-! ### setForce -/

@[simp] theorem State.setForce_pending (n : Nat) : (s.setForce n).pending = s.pending := rfl
@[simp] theorem State.setForce_loader (n : Nat) : (s.setForce n).loader = s.loader := rfl
@[simp] theorem State.setForce_station (n : Nat) : (s.setForce n).station = s.station := rfl
@[simp] theorem State.setForce_image (n : Nat) : (s.setForce n).image = s.image := rfl
@[simp] theorem State.setForce_engine (n : Nat) : (s.setForce n).engine = s.engine := rfl
@[simp] theorem State.setForce_ctx (n : Nat) : (s.setForce n).ctx = s.ctx := rfl
@[simp] theorem State.setForce_nextSerial (n : Nat) : (s.setForce n).nextSerial = s.nextSerial := rfl
@[simp] theorem State.setForce_lastSerial (n : Nat) : (s.setForce n).lastSerial = s.lastSerial := rfl
@[simp] theorem State.setForce_awaiting (n : Nat) : (s.setForce n).awaiting = s.awaiting := rfl
@[simp] theorem State.setForce_yielded (n : Nat) : (s.setForce n).yielded = s.yielded := rfl
@[simp] theorem State.setForce_statusPeriod (n : Nat) : (s.setForce n).statusPeriod = s.statusPeriod := rfl
@[simp] theorem State.setForce_statusTimer (n : Nat) : (s.setForce n).statusTimer = s.statusTimer := rfl
@[simp] theorem State.setForce_slots (n : Nat) : (s.setForce n).slots = s.slots := rfl
@[simp] theorem State.setForce_stress (n : Nat) : (s.setForce n).stress = s.stress := rfl
@[simp] theorem State.setForce_mode (n : Nat) : (s.setForce n).mode = s.mode := rfl
@[simp] theorem State.setForce_upset (n : Nat) : (s.setForce n).upset = s.upset := rfl
@[simp] theorem State.setForce_out (n : Nat) : (s.setForce n).out = { s.out with force := n } := rfl
@[simp] theorem State.setForce_wire (n : Nat) : (s.setForce n).wire = s.wire := rfl
@[simp] theorem State.setForce_meas (n : Nat) : (s.setForce n).meas = s.meas := rfl
@[simp] theorem State.setForce_share (n : Nat) : (s.setForce n).share = s.share := rfl
@[simp] theorem State.setForce_records (n : Nat) : (s.setForce n).records = s.records := rfl
@[simp] theorem State.setForce_trace (n : Nat) : (s.setForce n).trace = s.trace := rfl
@[simp] theorem State.setForce_link (n : Nat) : (s.setForce n).link = s.link := rfl

/-! ### setStep -/

@[simp] theorem State.setStep_pending (n : Nat) : (s.setStep n).pending = s.pending := rfl
@[simp] theorem State.setStep_loader (n : Nat) : (s.setStep n).loader = s.loader := rfl
@[simp] theorem State.setStep_station (n : Nat) : (s.setStep n).station = s.station := rfl
@[simp] theorem State.setStep_image (n : Nat) : (s.setStep n).image = s.image := rfl
@[simp] theorem State.setStep_engine (n : Nat) : (s.setStep n).engine = s.engine := rfl
@[simp] theorem State.setStep_ctx (n : Nat) : (s.setStep n).ctx = s.ctx := rfl
@[simp] theorem State.setStep_nextSerial (n : Nat) : (s.setStep n).nextSerial = s.nextSerial := rfl
@[simp] theorem State.setStep_lastSerial (n : Nat) : (s.setStep n).lastSerial = s.lastSerial := rfl
@[simp] theorem State.setStep_awaiting (n : Nat) : (s.setStep n).awaiting = s.awaiting := rfl
@[simp] theorem State.setStep_yielded (n : Nat) : (s.setStep n).yielded = s.yielded := rfl
@[simp] theorem State.setStep_statusPeriod (n : Nat) : (s.setStep n).statusPeriod = s.statusPeriod := rfl
@[simp] theorem State.setStep_statusTimer (n : Nat) : (s.setStep n).statusTimer = s.statusTimer := rfl
@[simp] theorem State.setStep_slots (n : Nat) : (s.setStep n).slots = s.slots := rfl
@[simp] theorem State.setStep_stress (n : Nat) : (s.setStep n).stress = s.stress := rfl
@[simp] theorem State.setStep_mode (n : Nat) : (s.setStep n).mode = s.mode := rfl
@[simp] theorem State.setStep_upset (n : Nat) : (s.setStep n).upset = s.upset := rfl
@[simp] theorem State.setStep_out (n : Nat) : (s.setStep n).out = { s.out with step := n } := rfl
@[simp] theorem State.setStep_wire (n : Nat) : (s.setStep n).wire = s.wire := rfl
@[simp] theorem State.setStep_meas (n : Nat) : (s.setStep n).meas = s.meas := rfl
@[simp] theorem State.setStep_share (n : Nat) : (s.setStep n).share = s.share := rfl
@[simp] theorem State.setStep_records (n : Nat) : (s.setStep n).records = s.records := rfl
@[simp] theorem State.setStep_trace (n : Nat) : (s.setStep n).trace = s.trace := rfl
@[simp] theorem State.setStep_link (n : Nat) : (s.setStep n).link = s.link := rfl

/-! ### setClamps -/

@[simp] theorem State.setClamps_pending (a b : Bool) : (s.setClamps a b).pending = s.pending := rfl
@[simp] theorem State.setClamps_loader (a b : Bool) : (s.setClamps a b).loader = s.loader := rfl
@[simp] theorem State.setClamps_station (a b : Bool) : (s.setClamps a b).station = s.station := rfl
@[simp] theorem State.setClamps_image (a b : Bool) : (s.setClamps a b).image = s.image := rfl
@[simp] theorem State.setClamps_engine (a b : Bool) : (s.setClamps a b).engine = s.engine := rfl
@[simp] theorem State.setClamps_ctx (a b : Bool) : (s.setClamps a b).ctx = s.ctx := rfl
@[simp] theorem State.setClamps_nextSerial (a b : Bool) : (s.setClamps a b).nextSerial = s.nextSerial := rfl
@[simp] theorem State.setClamps_lastSerial (a b : Bool) : (s.setClamps a b).lastSerial = s.lastSerial := rfl
@[simp] theorem State.setClamps_awaiting (a b : Bool) : (s.setClamps a b).awaiting = s.awaiting := rfl
@[simp] theorem State.setClamps_yielded (a b : Bool) : (s.setClamps a b).yielded = s.yielded := rfl
@[simp] theorem State.setClamps_statusPeriod (a b : Bool) : (s.setClamps a b).statusPeriod = s.statusPeriod := rfl
@[simp] theorem State.setClamps_statusTimer (a b : Bool) : (s.setClamps a b).statusTimer = s.statusTimer := rfl
@[simp] theorem State.setClamps_slots (a b : Bool) : (s.setClamps a b).slots = s.slots := rfl
@[simp] theorem State.setClamps_stress (a b : Bool) : (s.setClamps a b).stress = s.stress := rfl
@[simp] theorem State.setClamps_mode (a b : Bool) : (s.setClamps a b).mode = s.mode := rfl
@[simp] theorem State.setClamps_upset (a b : Bool) : (s.setClamps a b).upset = s.upset := rfl
@[simp] theorem State.setClamps_out (a b : Bool) :
    (s.setClamps a b).out = { s.out with fixedClose := a, movingClose := a, fixedOpen := b, movingOpen := b } := rfl
@[simp] theorem State.setClamps_wire (a b : Bool) : (s.setClamps a b).wire = s.wire := rfl
@[simp] theorem State.setClamps_meas (a b : Bool) : (s.setClamps a b).meas = s.meas := rfl
@[simp] theorem State.setClamps_share (a b : Bool) : (s.setClamps a b).share = s.share := rfl
@[simp] theorem State.setClamps_records (a b : Bool) : (s.setClamps a b).records = s.records := rfl
@[simp] theorem State.setClamps_trace (a b : Bool) : (s.setClamps a b).trace = s.trace := rfl
@[simp] theorem State.setClamps_link (a b : Bool) : (s.setClamps a b).link = s.link := rfl

/-! ### setShear -/

@[simp] theorem State.setShear_pending (a b : Bool) : (s.setShear a b).pending = s.pending := rfl
@[simp] theorem State.setShear_loader (a b : Bool) : (s.setShear a b).loader = s.loader := rfl
@[simp] theorem State.setShear_station (a b : Bool) : (s.setShear a b).station = s.station := rfl
@[simp] theorem State.setShear_image (a b : Bool) : (s.setShear a b).image = s.image := rfl
@[simp] theorem State.setShear_engine (a b : Bool) : (s.setShear a b).engine = s.engine := rfl
@[simp] theorem State.setShear_ctx (a b : Bool) : (s.setShear a b).ctx = s.ctx := rfl
@[simp] theorem State.setShear_nextSerial (a b : Bool) : (s.setShear a b).nextSerial = s.nextSerial := rfl
@[simp] theorem State.setShear_lastSerial (a b : Bool) : (s.setShear a b).lastSerial = s.lastSerial := rfl
@[simp] theorem State.setShear_awaiting (a b : Bool) : (s.setShear a b).awaiting = s.awaiting := rfl
@[simp] theorem State.setShear_yielded (a b : Bool) : (s.setShear a b).yielded = s.yielded := rfl
@[simp] theorem State.setShear_statusPeriod (a b : Bool) : (s.setShear a b).statusPeriod = s.statusPeriod := rfl
@[simp] theorem State.setShear_statusTimer (a b : Bool) : (s.setShear a b).statusTimer = s.statusTimer := rfl
@[simp] theorem State.setShear_slots (a b : Bool) : (s.setShear a b).slots = s.slots := rfl
@[simp] theorem State.setShear_stress (a b : Bool) : (s.setShear a b).stress = s.stress := rfl
@[simp] theorem State.setShear_mode (a b : Bool) : (s.setShear a b).mode = s.mode := rfl
@[simp] theorem State.setShear_upset (a b : Bool) : (s.setShear a b).upset = s.upset := rfl
@[simp] theorem State.setShear_out (a b : Bool) :
    (s.setShear a b).out = { s.out with shearAdvance := a, shearRetract := b } := rfl
@[simp] theorem State.setShear_wire (a b : Bool) : (s.setShear a b).wire = s.wire := rfl
@[simp] theorem State.setShear_meas (a b : Bool) : (s.setShear a b).meas = s.meas := rfl
@[simp] theorem State.setShear_share (a b : Bool) : (s.setShear a b).share = s.share := rfl
@[simp] theorem State.setShear_records (a b : Bool) : (s.setShear a b).records = s.records := rfl
@[simp] theorem State.setShear_trace (a b : Bool) : (s.setShear a b).trace = s.trace := rfl
@[simp] theorem State.setShear_link (a b : Bool) : (s.setShear a b).link = s.link := rfl

/-! ### openContactor -/

@[simp] theorem State.openContactor_pending : (s.openContactor).pending = s.pending := rfl
@[simp] theorem State.openContactor_loader : (s.openContactor).loader = s.loader := rfl
@[simp] theorem State.openContactor_station : (s.openContactor).station = s.station := rfl
@[simp] theorem State.openContactor_image : (s.openContactor).image = s.image := rfl
@[simp] theorem State.openContactor_engine : (s.openContactor).engine = s.engine := rfl
@[simp] theorem State.openContactor_ctx : (s.openContactor).ctx = s.ctx := rfl
@[simp] theorem State.openContactor_nextSerial : (s.openContactor).nextSerial = s.nextSerial := rfl
@[simp] theorem State.openContactor_lastSerial : (s.openContactor).lastSerial = s.lastSerial := rfl
@[simp] theorem State.openContactor_awaiting : (s.openContactor).awaiting = s.awaiting := rfl
@[simp] theorem State.openContactor_yielded : (s.openContactor).yielded = s.yielded := rfl
@[simp] theorem State.openContactor_statusPeriod : (s.openContactor).statusPeriod = s.statusPeriod := rfl
@[simp] theorem State.openContactor_statusTimer : (s.openContactor).statusTimer = s.statusTimer := rfl
@[simp] theorem State.openContactor_slots : (s.openContactor).slots = s.slots := rfl
@[simp] theorem State.openContactor_stress : (s.openContactor).stress = s.stress := rfl
@[simp] theorem State.openContactor_mode : (s.openContactor).mode = s.mode := rfl
@[simp] theorem State.openContactor_upset : (s.openContactor).upset = s.upset := rfl
@[simp] theorem State.openContactor_out : (s.openContactor).out = { s.out with contactor := false } := rfl
@[simp] theorem State.openContactor_wire : (s.openContactor).wire = s.wire := rfl
@[simp] theorem State.openContactor_meas : (s.openContactor).meas = s.meas := rfl
@[simp] theorem State.openContactor_share :
    (s.openContactor).share = { s.share with hold := if s.level .contFb then some s.presentLoad else s.share.hold } := rfl
@[simp] theorem State.openContactor_records : (s.openContactor).records = s.records := rfl
@[simp] theorem State.openContactor_trace : (s.openContactor).trace = s.trace := rfl
@[simp] theorem State.openContactor_link : (s.openContactor).link = s.link := rfl

/-! ### closeContactor -/

@[simp] theorem State.closeContactor_pending : (s.closeContactor).pending = s.pending := rfl
@[simp] theorem State.closeContactor_loader : (s.closeContactor).loader = s.loader := rfl
@[simp] theorem State.closeContactor_station : (s.closeContactor).station = s.station := rfl
@[simp] theorem State.closeContactor_image : (s.closeContactor).image = s.image := rfl
@[simp] theorem State.closeContactor_engine : (s.closeContactor).engine = s.engine := rfl
@[simp] theorem State.closeContactor_ctx : (s.closeContactor).ctx = s.ctx := rfl
@[simp] theorem State.closeContactor_nextSerial : (s.closeContactor).nextSerial = s.nextSerial := rfl
@[simp] theorem State.closeContactor_lastSerial : (s.closeContactor).lastSerial = s.lastSerial := rfl
@[simp] theorem State.closeContactor_awaiting : (s.closeContactor).awaiting = s.awaiting := rfl
@[simp] theorem State.closeContactor_yielded : (s.closeContactor).yielded = s.yielded := rfl
@[simp] theorem State.closeContactor_statusPeriod : (s.closeContactor).statusPeriod = s.statusPeriod := rfl
@[simp] theorem State.closeContactor_statusTimer : (s.closeContactor).statusTimer = s.statusTimer := rfl
@[simp] theorem State.closeContactor_slots : (s.closeContactor).slots = s.slots := rfl
@[simp] theorem State.closeContactor_stress : (s.closeContactor).stress = s.stress := rfl
@[simp] theorem State.closeContactor_mode : (s.closeContactor).mode = s.mode := rfl
@[simp] theorem State.closeContactor_upset : (s.closeContactor).upset = s.upset := rfl
@[simp] theorem State.closeContactor_out : (s.closeContactor).out = { s.out with contactor := true } := rfl
@[simp] theorem State.closeContactor_wire : (s.closeContactor).wire = s.wire := rfl
@[simp] theorem State.closeContactor_meas : (s.closeContactor).meas = s.meas := rfl
@[simp] theorem State.closeContactor_share : (s.closeContactor).share = { s.share with hold := none } := rfl
@[simp] theorem State.closeContactor_records : (s.closeContactor).records = s.records := rfl
@[simp] theorem State.closeContactor_trace : (s.closeContactor).trace = s.trace := rfl
@[simp] theorem State.closeContactor_link : (s.closeContactor).link = s.link := rfl

/-! ### The end of a rise -/

@[simp] theorem Rise.ended_state (r : Rise) : r.ended.state = .none := rfl
@[simp] theorem Rise.ended_ask (r : Rise) : r.ended.ask = none := rfl
@[simp] theorem Rise.ended_settle (r : Rise) : r.ended.settle = r.settle.stop := rfl
@[simp] theorem Rise.ended_admitWait (r : Rise) : r.ended.admitWait = r.admitWait.stop := rfl

/-! ### cancelRise -/

@[simp] theorem State.cancelRise_pending : (s.cancelRise).pending = s.pending := rfl
@[simp] theorem State.cancelRise_loader : (s.cancelRise).loader = s.loader := rfl
@[simp] theorem State.cancelRise_station : (s.cancelRise).station = s.station := rfl
@[simp] theorem State.cancelRise_image : (s.cancelRise).image = s.image := rfl
@[simp] theorem State.cancelRise_engine : (s.cancelRise).engine = s.engine := rfl
@[simp] theorem State.cancelRise_ctx : (s.cancelRise).ctx = s.ctx := rfl
@[simp] theorem State.cancelRise_nextSerial : (s.cancelRise).nextSerial = s.nextSerial := rfl
@[simp] theorem State.cancelRise_lastSerial : (s.cancelRise).lastSerial = s.lastSerial := rfl
@[simp] theorem State.cancelRise_awaiting : (s.cancelRise).awaiting = s.awaiting := rfl
@[simp] theorem State.cancelRise_yielded : (s.cancelRise).yielded = s.yielded := rfl
@[simp] theorem State.cancelRise_statusPeriod : (s.cancelRise).statusPeriod = s.statusPeriod := rfl
@[simp] theorem State.cancelRise_statusTimer : (s.cancelRise).statusTimer = s.statusTimer := rfl
@[simp] theorem State.cancelRise_slots : (s.cancelRise).slots = s.slots := rfl
@[simp] theorem State.cancelRise_stress : (s.cancelRise).stress = s.stress := rfl
@[simp] theorem State.cancelRise_mode : (s.cancelRise).mode = s.mode := rfl
@[simp] theorem State.cancelRise_upset : (s.cancelRise).upset = s.upset := rfl
@[simp] theorem State.cancelRise_out : (s.cancelRise).out = s.out := rfl
@[simp] theorem State.cancelRise_wire : (s.cancelRise).wire = s.wire := rfl
@[simp] theorem State.cancelRise_meas : (s.cancelRise).meas = s.meas := rfl
@[simp] theorem State.cancelRise_share : (s.cancelRise).share = { s.share with rise := s.share.rise.ended, admitted := none } :=
  rfl
@[simp] theorem State.cancelRise_records : (s.cancelRise).records = s.records := rfl
@[simp] theorem State.cancelRise_trace : (s.cancelRise).trace = s.trace := rfl
@[simp] theorem State.cancelRise_link : (s.cancelRise).link = s.link := rfl

/-! ### clearYield -/

@[simp] theorem State.clearYield_pending : (s.clearYield).pending = s.pending := rfl
@[simp] theorem State.clearYield_loader : (s.clearYield).loader = s.loader := rfl
@[simp] theorem State.clearYield_station : (s.clearYield).station = s.station := rfl
@[simp] theorem State.clearYield_image : (s.clearYield).image = s.image := rfl
@[simp] theorem State.clearYield_engine : (s.clearYield).engine = s.engine := rfl
@[simp] theorem State.clearYield_ctx :
    (s.clearYield).ctx = s.ctx.map fun c => { c with pause := none, guard := if s.yielded then none else c.guard } := rfl
@[simp] theorem State.clearYield_nextSerial : (s.clearYield).nextSerial = s.nextSerial := rfl
@[simp] theorem State.clearYield_lastSerial : (s.clearYield).lastSerial = s.lastSerial := rfl
@[simp] theorem State.clearYield_awaiting : (s.clearYield).awaiting = s.awaiting := rfl
@[simp] theorem State.clearYield_yielded : (s.clearYield).yielded = false := rfl
@[simp] theorem State.clearYield_statusPeriod : (s.clearYield).statusPeriod = s.statusPeriod := rfl
@[simp] theorem State.clearYield_statusTimer : (s.clearYield).statusTimer = s.statusTimer := rfl
@[simp] theorem State.clearYield_slots : (s.clearYield).slots = s.slots := rfl
@[simp] theorem State.clearYield_stress : (s.clearYield).stress = s.stress := rfl
@[simp] theorem State.clearYield_mode : (s.clearYield).mode = s.mode := rfl
@[simp] theorem State.clearYield_upset : (s.clearYield).upset = s.upset := rfl
@[simp] theorem State.clearYield_out : (s.clearYield).out = s.out := rfl
@[simp] theorem State.clearYield_wire : (s.clearYield).wire = s.wire := rfl
@[simp] theorem State.clearYield_meas : (s.clearYield).meas = s.meas := rfl
@[simp] theorem State.clearYield_share : (s.clearYield).share = s.share := rfl
@[simp] theorem State.clearYield_records : (s.clearYield).records = s.records := rfl
@[simp] theorem State.clearYield_trace : (s.clearYield).trace = s.trace := rfl
@[simp] theorem State.clearYield_link : (s.clearYield).link = s.link := rfl

/-! ### forwardOutputs -/

@[simp] theorem State.forwardOutputs_pending : (s.forwardOutputs).pending = s.pending := rfl
@[simp] theorem State.forwardOutputs_loader : (s.forwardOutputs).loader = s.loader := rfl
@[simp] theorem State.forwardOutputs_station : (s.forwardOutputs).station = s.station := rfl
@[simp] theorem State.forwardOutputs_image : (s.forwardOutputs).image = s.image := rfl
@[simp] theorem State.forwardOutputs_engine : (s.forwardOutputs).engine = s.engine := rfl
@[simp] theorem State.forwardOutputs_ctx : (s.forwardOutputs).ctx = s.ctx := rfl
@[simp] theorem State.forwardOutputs_nextSerial : (s.forwardOutputs).nextSerial = s.nextSerial := rfl
@[simp] theorem State.forwardOutputs_lastSerial : (s.forwardOutputs).lastSerial = s.lastSerial := rfl
@[simp] theorem State.forwardOutputs_awaiting : (s.forwardOutputs).awaiting = s.awaiting := rfl
@[simp] theorem State.forwardOutputs_yielded : (s.forwardOutputs).yielded = s.yielded := rfl
@[simp] theorem State.forwardOutputs_statusPeriod : (s.forwardOutputs).statusPeriod = s.statusPeriod := rfl
@[simp] theorem State.forwardOutputs_statusTimer : (s.forwardOutputs).statusTimer = s.statusTimer := rfl
@[simp] theorem State.forwardOutputs_slots : (s.forwardOutputs).slots = s.slots := rfl
@[simp] theorem State.forwardOutputs_stress : (s.forwardOutputs).stress = s.stress := rfl
@[simp] theorem State.forwardOutputs_mode : (s.forwardOutputs).mode = s.mode := rfl
@[simp] theorem State.forwardOutputs_upset : (s.forwardOutputs).upset = s.upset := rfl
@[simp] theorem State.forwardOutputs_out : (s.forwardOutputs).out = s.out := rfl
@[simp] theorem State.forwardOutputs_wire : (s.forwardOutputs).wire = { s.out with force := s.wireForce } := rfl
@[simp] theorem State.forwardOutputs_meas : (s.forwardOutputs).meas = s.meas := rfl
@[simp] theorem State.forwardOutputs_share : (s.forwardOutputs).share = s.share := rfl
@[simp] theorem State.forwardOutputs_records : (s.forwardOutputs).records = s.records := rfl
@[simp] theorem State.forwardOutputs_trace : (s.forwardOutputs).trace = s.trace := rfl
@[simp] theorem State.forwardOutputs_link : (s.forwardOutputs).link = s.link := rfl

/-! ### placeStatus -/

@[simp] theorem State.placeStatus_pending : (s.placeStatus).pending = s.pending := rfl
@[simp] theorem State.placeStatus_loader : (s.placeStatus).loader = s.loader := rfl
@[simp] theorem State.placeStatus_station : (s.placeStatus).station = s.station := rfl
@[simp] theorem State.placeStatus_image : (s.placeStatus).image = s.image := rfl
@[simp] theorem State.placeStatus_engine : (s.placeStatus).engine = s.engine := rfl
@[simp] theorem State.placeStatus_ctx : (s.placeStatus).ctx = s.ctx := rfl
@[simp] theorem State.placeStatus_nextSerial : (s.placeStatus).nextSerial = s.nextSerial := rfl
@[simp] theorem State.placeStatus_lastSerial : (s.placeStatus).lastSerial = s.lastSerial := rfl
@[simp] theorem State.placeStatus_awaiting : (s.placeStatus).awaiting = s.awaiting := rfl
@[simp] theorem State.placeStatus_yielded : (s.placeStatus).yielded = s.yielded := rfl
@[simp] theorem State.placeStatus_statusPeriod : (s.placeStatus).statusPeriod = s.statusPeriod := rfl
@[simp] theorem State.placeStatus_statusTimer : (s.placeStatus).statusTimer = 0 := rfl
@[simp] theorem State.placeStatus_slots : (s.placeStatus).slots = s.slots := rfl
@[simp] theorem State.placeStatus_stress : (s.placeStatus).stress = s.stress := rfl
@[simp] theorem State.placeStatus_mode : (s.placeStatus).mode = s.mode := rfl
@[simp] theorem State.placeStatus_upset : (s.placeStatus).upset = s.upset := rfl
@[simp] theorem State.placeStatus_out : (s.placeStatus).out = s.out := rfl
@[simp] theorem State.placeStatus_wire : (s.placeStatus).wire = s.wire := rfl
@[simp] theorem State.placeStatus_meas :
    (s.placeStatus).meas = { s.meas with satI := false, satU := false, satF := false } := rfl
@[simp] theorem State.placeStatus_share : (s.placeStatus).share = s.share := rfl
@[simp] theorem State.placeStatus_records : (s.placeStatus).records = s.records := rfl
@[simp] theorem State.placeStatus_trace : (s.placeStatus).trace = s.trace := rfl
@[simp] theorem State.placeStatus_link :
    (s.placeStatus).link = { s.link.markStale .headStatus with statusSlot := some ⟨headFrames s.statusPayload, 0⟩ } := rfl

/-! ### tick -/

@[simp] theorem State.tick_pending : (s.tick).pending = s.pending := rfl
@[simp] theorem State.tick_loader : (s.tick).loader = s.loader := rfl
@[simp] theorem State.tick_station : (s.tick).station = s.station := rfl
@[simp] theorem State.tick_image : (s.tick).image = s.image := rfl
@[simp] theorem State.tick_engine : (s.tick).engine = s.engine := rfl
@[simp] theorem State.tick_ctx : (s.tick).ctx = s.ctx.map fun c => c.tick s.engine s.yielded := rfl
@[simp] theorem State.tick_nextSerial : (s.tick).nextSerial = s.nextSerial := rfl
@[simp] theorem State.tick_lastSerial : (s.tick).lastSerial = s.lastSerial := rfl
@[simp] theorem State.tick_awaiting : (s.tick).awaiting = s.awaiting := rfl
@[simp] theorem State.tick_yielded : (s.tick).yielded = s.yielded := rfl
@[simp] theorem State.tick_statusPeriod : (s.tick).statusPeriod = s.statusPeriod := rfl
@[simp] theorem State.tick_statusTimer : (s.tick).statusTimer = tick2 s.statusTimer := rfl
@[simp] theorem State.tick_slots : (s.tick).slots = s.slots := rfl
@[simp] theorem State.tick_stress :
    (s.tick).stress = { s.stress with clampTimer := s.stress.clampTimer.tick, releaseTimer := s.stress.releaseTimer.tick } := rfl
@[simp] theorem State.tick_mode : (s.tick).mode = s.mode := rfl
@[simp] theorem State.tick_upset :
    (s.tick).upset = { s.upset with currentTimer := s.upset.currentTimer.tick, shearTimer := if s.engine = .trim then tick2 s.upset.shearTimer else s.upset.shearTimer } := rfl
@[simp] theorem State.tick_out : (s.tick).out = s.out := rfl
@[simp] theorem State.tick_wire : (s.tick).wire = s.wire := rfl
@[simp] theorem State.tick_meas : (s.tick).meas = s.meas := rfl
@[simp] theorem State.tick_share : (s.tick).share = s.share.tick := rfl
@[simp] theorem State.tick_records : (s.tick).records = s.records := rfl
@[simp] theorem State.tick_trace : (s.tick).trace = s.trace := rfl
@[simp] theorem State.tick_link : (s.tick).link = s.link.tick := rfl

/-! ### notice: what it leaves -/

@[simp] theorem State.notice_pending (n : Notice) : (s.notice n).pending = s.pending := by
  unfold State.notice; split <;> rfl
@[simp] theorem State.notice_loader (n : Notice) : (s.notice n).loader = s.loader := by
  unfold State.notice; split <;> rfl
@[simp] theorem State.notice_station (n : Notice) : (s.notice n).station = s.station := by
  unfold State.notice; split <;> rfl
@[simp] theorem State.notice_image (n : Notice) : (s.notice n).image = s.image := by
  unfold State.notice; split <;> rfl
@[simp] theorem State.notice_engine (n : Notice) : (s.notice n).engine = s.engine := by
  unfold State.notice; split <;> rfl
@[simp] theorem State.notice_ctx (n : Notice) : (s.notice n).ctx = s.ctx := by
  unfold State.notice; split <;> rfl
@[simp] theorem State.notice_nextSerial (n : Notice) : (s.notice n).nextSerial = s.nextSerial := by
  unfold State.notice; split <;> rfl
@[simp] theorem State.notice_lastSerial (n : Notice) : (s.notice n).lastSerial = s.lastSerial := by
  unfold State.notice; split <;> rfl
@[simp] theorem State.notice_awaiting (n : Notice) : (s.notice n).awaiting = s.awaiting := by
  unfold State.notice; split <;> rfl
@[simp] theorem State.notice_yielded (n : Notice) : (s.notice n).yielded = s.yielded := by
  unfold State.notice; split <;> rfl
@[simp] theorem State.notice_statusPeriod (n : Notice) : (s.notice n).statusPeriod = s.statusPeriod := by
  unfold State.notice; split <;> rfl
@[simp] theorem State.notice_statusTimer (n : Notice) : (s.notice n).statusTimer = s.statusTimer := by
  unfold State.notice; split <;> rfl
@[simp] theorem State.notice_slots (n : Notice) : (s.notice n).slots = s.slots := by
  unfold State.notice; split <;> rfl
@[simp] theorem State.notice_stress (n : Notice) : (s.notice n).stress = s.stress := by
  unfold State.notice; split <;> rfl
@[simp] theorem State.notice_mode (n : Notice) : (s.notice n).mode = s.mode := by
  unfold State.notice; split <;> rfl
@[simp] theorem State.notice_upset (n : Notice) : (s.notice n).upset = s.upset := by
  unfold State.notice; split <;> rfl
@[simp] theorem State.notice_out (n : Notice) : (s.notice n).out = s.out := by
  unfold State.notice; split <;> rfl
@[simp] theorem State.notice_wire (n : Notice) : (s.notice n).wire = s.wire := by
  unfold State.notice; split <;> rfl
@[simp] theorem State.notice_meas (n : Notice) : (s.notice n).meas = s.meas := by
  unfold State.notice; split <;> rfl
@[simp] theorem State.notice_share (n : Notice) : (s.notice n).share = s.share := by
  unfold State.notice; split <;> rfl
@[simp] theorem State.notice_records (n : Notice) : (s.notice n).records = s.records := by
  unfold State.notice; split <;> rfl
@[simp] theorem State.notice_trace (n : Notice) : (s.notice n).trace = s.trace := by
  unfold State.notice; split <;> rfl

/-! ### noticeFault: what it leaves -/

@[simp] theorem State.noticeFault_pending (x : Reason) (t : Option Nat) : (s.noticeFault x t).pending = s.pending := by
  unfold State.noticeFault; split <;> simp
@[simp] theorem State.noticeFault_loader (x : Reason) (t : Option Nat) : (s.noticeFault x t).loader = s.loader := by
  unfold State.noticeFault; split <;> simp
@[simp] theorem State.noticeFault_station (x : Reason) (t : Option Nat) : (s.noticeFault x t).station = s.station := by
  unfold State.noticeFault; split <;> simp
@[simp] theorem State.noticeFault_image (x : Reason) (t : Option Nat) : (s.noticeFault x t).image = s.image := by
  unfold State.noticeFault; split <;> simp
@[simp] theorem State.noticeFault_engine (x : Reason) (t : Option Nat) : (s.noticeFault x t).engine = s.engine := by
  unfold State.noticeFault; split <;> simp
@[simp] theorem State.noticeFault_ctx (x : Reason) (t : Option Nat) : (s.noticeFault x t).ctx = s.ctx := by
  unfold State.noticeFault; split <;> simp
@[simp] theorem State.noticeFault_nextSerial (x : Reason) (t : Option Nat) : (s.noticeFault x t).nextSerial = s.nextSerial := by
  unfold State.noticeFault; split <;> simp
@[simp] theorem State.noticeFault_lastSerial (x : Reason) (t : Option Nat) : (s.noticeFault x t).lastSerial = s.lastSerial := by
  unfold State.noticeFault; split <;> simp
@[simp] theorem State.noticeFault_awaiting (x : Reason) (t : Option Nat) : (s.noticeFault x t).awaiting = s.awaiting := by
  unfold State.noticeFault; split <;> simp
@[simp] theorem State.noticeFault_yielded (x : Reason) (t : Option Nat) : (s.noticeFault x t).yielded = s.yielded := by
  unfold State.noticeFault; split <;> simp
@[simp] theorem State.noticeFault_statusPeriod (x : Reason) (t : Option Nat) : (s.noticeFault x t).statusPeriod = s.statusPeriod := by
  unfold State.noticeFault; split <;> simp
@[simp] theorem State.noticeFault_statusTimer (x : Reason) (t : Option Nat) : (s.noticeFault x t).statusTimer = s.statusTimer := by
  unfold State.noticeFault; split <;> simp
@[simp] theorem State.noticeFault_slots (x : Reason) (t : Option Nat) : (s.noticeFault x t).slots = s.slots := by
  unfold State.noticeFault; split <;> simp
@[simp] theorem State.noticeFault_stress (x : Reason) (t : Option Nat) : (s.noticeFault x t).stress = s.stress := by
  unfold State.noticeFault; split <;> simp
@[simp] theorem State.noticeFault_mode (x : Reason) (t : Option Nat) : (s.noticeFault x t).mode = s.mode := by
  unfold State.noticeFault; split <;> simp
@[simp] theorem State.noticeFault_upset (x : Reason) (t : Option Nat) : (s.noticeFault x t).upset = s.upset := by
  unfold State.noticeFault; split <;> simp
@[simp] theorem State.noticeFault_out (x : Reason) (t : Option Nat) : (s.noticeFault x t).out = s.out := by
  unfold State.noticeFault; split <;> simp
@[simp] theorem State.noticeFault_wire (x : Reason) (t : Option Nat) : (s.noticeFault x t).wire = s.wire := by
  unfold State.noticeFault; split <;> simp
@[simp] theorem State.noticeFault_meas (x : Reason) (t : Option Nat) : (s.noticeFault x t).meas = s.meas := by
  unfold State.noticeFault; split <;> simp
@[simp] theorem State.noticeFault_share (x : Reason) (t : Option Nat) : (s.noticeFault x t).share = s.share := by
  unfold State.noticeFault; split <;> simp
@[simp] theorem State.noticeFault_records (x : Reason) (t : Option Nat) : (s.noticeFault x t).records = s.records := by
  unfold State.noticeFault; split <;> simp
@[simp] theorem State.noticeFault_trace (x : Reason) (t : Option Nat) : (s.noticeFault x t).trace = s.trace := by
  unfold State.noticeFault; split <;> simp

/-! ### latch: what it leaves -/

@[simp] theorem State.latch_pending (k : LatchKind) (p : Int) : (s.latch k p).pending = s.pending := by
  unfold State.latch; split <;> (try split) <;> rfl
@[simp] theorem State.latch_loader (k : LatchKind) (p : Int) : (s.latch k p).loader = s.loader := by
  unfold State.latch; split <;> (try split) <;> rfl
@[simp] theorem State.latch_station (k : LatchKind) (p : Int) : (s.latch k p).station = s.station := by
  unfold State.latch; split <;> (try split) <;> rfl
@[simp] theorem State.latch_image (k : LatchKind) (p : Int) : (s.latch k p).image = s.image := by
  unfold State.latch; split <;> (try split) <;> rfl
@[simp] theorem State.latch_engine (k : LatchKind) (p : Int) : (s.latch k p).engine = s.engine := by
  unfold State.latch; split <;> (try split) <;> rfl
@[simp] theorem State.latch_nextSerial (k : LatchKind) (p : Int) : (s.latch k p).nextSerial = s.nextSerial := by
  unfold State.latch; split <;> (try split) <;> rfl
@[simp] theorem State.latch_lastSerial (k : LatchKind) (p : Int) : (s.latch k p).lastSerial = s.lastSerial := by
  unfold State.latch; split <;> (try split) <;> rfl
@[simp] theorem State.latch_awaiting (k : LatchKind) (p : Int) : (s.latch k p).awaiting = s.awaiting := by
  unfold State.latch; split <;> (try split) <;> rfl
@[simp] theorem State.latch_yielded (k : LatchKind) (p : Int) : (s.latch k p).yielded = s.yielded := by
  unfold State.latch; split <;> (try split) <;> rfl
@[simp] theorem State.latch_statusPeriod (k : LatchKind) (p : Int) : (s.latch k p).statusPeriod = s.statusPeriod := by
  unfold State.latch; split <;> (try split) <;> rfl
@[simp] theorem State.latch_statusTimer (k : LatchKind) (p : Int) : (s.latch k p).statusTimer = s.statusTimer := by
  unfold State.latch; split <;> (try split) <;> rfl
@[simp] theorem State.latch_slots (k : LatchKind) (p : Int) : (s.latch k p).slots = s.slots := by
  unfold State.latch; split <;> (try split) <;> rfl
@[simp] theorem State.latch_stress (k : LatchKind) (p : Int) : (s.latch k p).stress = s.stress := by
  unfold State.latch; split <;> (try split) <;> rfl
@[simp] theorem State.latch_mode (k : LatchKind) (p : Int) : (s.latch k p).mode = s.mode := by
  unfold State.latch; split <;> (try split) <;> rfl
@[simp] theorem State.latch_upset (k : LatchKind) (p : Int) : (s.latch k p).upset = s.upset := by
  unfold State.latch; split <;> (try split) <;> rfl
@[simp] theorem State.latch_out (k : LatchKind) (p : Int) : (s.latch k p).out = s.out := by
  unfold State.latch; split <;> (try split) <;> rfl
@[simp] theorem State.latch_wire (k : LatchKind) (p : Int) : (s.latch k p).wire = s.wire := by
  unfold State.latch; split <;> (try split) <;> rfl
@[simp] theorem State.latch_meas (k : LatchKind) (p : Int) : (s.latch k p).meas = s.meas := by
  unfold State.latch; split <;> (try split) <;> rfl
@[simp] theorem State.latch_share (k : LatchKind) (p : Int) : (s.latch k p).share = s.share := by
  unfold State.latch; split <;> (try split) <;> rfl
@[simp] theorem State.latch_records (k : LatchKind) (p : Int) : (s.latch k p).records = s.records := by
  unfold State.latch; split <;> (try split) <;> rfl
@[simp] theorem State.latch_link (k : LatchKind) (p : Int) : (s.latch k p).link = s.link := by
  unfold State.latch; split <;> (try split) <;> rfl

/-! ### placeDemand: what it leaves -/

@[simp] theorem State.placeDemand_pending : (s.placeDemand).pending = s.pending := by
  unfold State.placeDemand; dsimp only; split <;> rfl
@[simp] theorem State.placeDemand_loader : (s.placeDemand).loader = s.loader := by
  unfold State.placeDemand; dsimp only; split <;> rfl
@[simp] theorem State.placeDemand_station : (s.placeDemand).station = s.station := by
  unfold State.placeDemand; dsimp only; split <;> rfl
@[simp] theorem State.placeDemand_image : (s.placeDemand).image = s.image := by
  unfold State.placeDemand; dsimp only; split <;> rfl
@[simp] theorem State.placeDemand_engine : (s.placeDemand).engine = s.engine := by
  unfold State.placeDemand; dsimp only; split <;> rfl
@[simp] theorem State.placeDemand_ctx : (s.placeDemand).ctx = s.ctx := by
  unfold State.placeDemand; dsimp only; split <;> rfl
@[simp] theorem State.placeDemand_nextSerial : (s.placeDemand).nextSerial = s.nextSerial := by
  unfold State.placeDemand; dsimp only; split <;> rfl
@[simp] theorem State.placeDemand_lastSerial : (s.placeDemand).lastSerial = s.lastSerial := by
  unfold State.placeDemand; dsimp only; split <;> rfl
@[simp] theorem State.placeDemand_awaiting : (s.placeDemand).awaiting = s.awaiting := by
  unfold State.placeDemand; dsimp only; split <;> rfl
@[simp] theorem State.placeDemand_yielded : (s.placeDemand).yielded = s.yielded := by
  unfold State.placeDemand; dsimp only; split <;> rfl
@[simp] theorem State.placeDemand_statusPeriod : (s.placeDemand).statusPeriod = s.statusPeriod := by
  unfold State.placeDemand; dsimp only; split <;> rfl
@[simp] theorem State.placeDemand_statusTimer : (s.placeDemand).statusTimer = s.statusTimer := by
  unfold State.placeDemand; dsimp only; split <;> rfl
@[simp] theorem State.placeDemand_slots : (s.placeDemand).slots = s.slots := by
  unfold State.placeDemand; dsimp only; split <;> rfl
@[simp] theorem State.placeDemand_stress : (s.placeDemand).stress = s.stress := by
  unfold State.placeDemand; dsimp only; split <;> rfl
@[simp] theorem State.placeDemand_mode : (s.placeDemand).mode = s.mode := by
  unfold State.placeDemand; dsimp only; split <;> rfl
@[simp] theorem State.placeDemand_upset : (s.placeDemand).upset = s.upset := by
  unfold State.placeDemand; dsimp only; split <;> rfl
@[simp] theorem State.placeDemand_out : (s.placeDemand).out = s.out := by
  unfold State.placeDemand; dsimp only; split <;> rfl
@[simp] theorem State.placeDemand_wire : (s.placeDemand).wire = s.wire := by
  unfold State.placeDemand; dsimp only; split <;> rfl
@[simp] theorem State.placeDemand_meas : (s.placeDemand).meas = s.meas := by
  unfold State.placeDemand; dsimp only; split <;> rfl
@[simp] theorem State.placeDemand_records : (s.placeDemand).records = s.records := by
  unfold State.placeDemand; dsimp only; split <;> rfl
@[simp] theorem State.placeDemand_trace : (s.placeDemand).trace = s.trace := by
  unfold State.placeDemand; dsimp only; split <;> rfl

/-! ### declare: what it leaves -/

@[simp] theorem State.declare_pending : (s.declare).pending = s.pending := by
  unfold State.declare; split <;> simp
@[simp] theorem State.declare_loader : (s.declare).loader = s.loader := by
  unfold State.declare; split <;> simp
@[simp] theorem State.declare_station : (s.declare).station = s.station := by
  unfold State.declare; split <;> simp
@[simp] theorem State.declare_image : (s.declare).image = s.image := by
  unfold State.declare; split <;> simp
@[simp] theorem State.declare_engine : (s.declare).engine = s.engine := by
  unfold State.declare; split <;> simp
@[simp] theorem State.declare_ctx : (s.declare).ctx = s.ctx := by
  unfold State.declare; split <;> simp
@[simp] theorem State.declare_nextSerial : (s.declare).nextSerial = s.nextSerial := by
  unfold State.declare; split <;> simp
@[simp] theorem State.declare_lastSerial : (s.declare).lastSerial = s.lastSerial := by
  unfold State.declare; split <;> simp
@[simp] theorem State.declare_awaiting : (s.declare).awaiting = s.awaiting := by
  unfold State.declare; split <;> simp
@[simp] theorem State.declare_yielded : (s.declare).yielded = s.yielded := by
  unfold State.declare; split <;> simp
@[simp] theorem State.declare_statusPeriod : (s.declare).statusPeriod = s.statusPeriod := by
  unfold State.declare; split <;> simp
@[simp] theorem State.declare_statusTimer : (s.declare).statusTimer = s.statusTimer := by
  unfold State.declare; split <;> simp
@[simp] theorem State.declare_slots : (s.declare).slots = s.slots := by
  unfold State.declare; split <;> simp
@[simp] theorem State.declare_stress : (s.declare).stress = s.stress := by
  unfold State.declare; split <;> simp
@[simp] theorem State.declare_mode : (s.declare).mode = s.mode := by
  unfold State.declare; split <;> simp
@[simp] theorem State.declare_upset : (s.declare).upset = s.upset := by
  unfold State.declare; split <;> simp
@[simp] theorem State.declare_out : (s.declare).out = s.out := by
  unfold State.declare; split <;> simp
@[simp] theorem State.declare_wire : (s.declare).wire = s.wire := by
  unfold State.declare; split <;> simp
@[simp] theorem State.declare_meas : (s.declare).meas = s.meas := by
  unfold State.declare; split <;> simp
@[simp] theorem State.declare_records : (s.declare).records = s.records := by
  unfold State.declare; split <;> simp
@[simp] theorem State.declare_trace : (s.declare).trace = s.trace := by
  unfold State.declare; split <;> simp

end Sys2Proof.Machine
end

