-- ==== Sys2Proof/Laws/Ops.lean ====
section
/-! SUPPORT. One lemma for each shared operation that says once what it does, and for each operation of a weld that it
writes what a weld writes alone. -/

namespace Sys2Proof.Machine

variable (s : State)

/-! ### Events (log 4) -/

theorem State.event_of_due {due : Bool} (h : due = true) (act : State → State) : s.event due act = (act s).declare := by
  simp [State.event, h]

theorem State.event_of_not_due {due : Bool} (h : due = false) (act : State → State) : s.event due act = s := by
  simp [State.event, h]

/-! ### WELD REQUEST (R3, R183) -/

/-- A run completed while the link is not JOINED carries the check it fails. -/
theorem State.weldRun_refusal (h : s.link.state ≠ .joined) (payload : List Byte) :
    (s.weldRun payload).refusal = some .busy ∨ (s.weldRun payload).refusal = some .faultHold
      ∨ (s.weldRun payload).refusal = some .isolated := by
  simp only [State.weldRun, State.standingFault, ne_eq, h, not_false_eq_true, if_true, if_false]
  repeat' split
  all_goals simp

@[simp] theorem State.weldRun_refusal_joined (h : s.link.state = .joined) (payload : List Byte) :
    (s.weldRun payload).refusal = none := by simp [State.weldRun, h]

@[simp] theorem State.weldRun_payload (payload : List Byte) : (s.weldRun payload).payload = payload := rfl

@[simp] theorem State.takeRequest_refused (f : RequestFault) (q : Request) :
    s.takeRequest (some f) q = s.notice (.refused q.tag f.code) := rfl

theorem State.checkRequest_of_standing {f : RequestFault} (h : s.standingFault = some f) (q : Request) :
    s.checkRequest q = some f := by simp [State.checkRequest, h]

theorem State.checkRequest_of_pass (h : s.standingFault = none) (q : Request) : s.checkRequest q = s.checkWeld q := by
  simp [State.checkRequest, h]

/-! ### The declaration (R107) -/

@[simp] theorem Link.markStale_besidesDemand (l : Link) (k : TxKind) :
    (l.markStale k).besidesDemand = l.besidesDemand := by
  obtain ⟨⟩ := l
  rename_i b _
  cases b <;> simp [Link.markStale, Link.besidesDemand]
  split <;> simp

/-- The declaration depends on the Load Share Unit by its hold and by the rise it announces alone (R102 to R106). -/
theorem State.ownDecl_of_share {h : Share} {l : Link} (hh : h.hold = s.share.hold)
    (ha : h.announced = s.share.announced) : State.ownDecl { s with share := h, link := l } = s.ownDecl := by
  have hp : State.presentLoad { s with share := h, link := l } = s.presentLoad := by
    unfold State.presentLoad
    rw [show ({ s with share := h, link := l } : State).share.hold = s.share.hold from hh]
    rfl
  unfold State.ownDecl
  rw [hp, show ({ s with share := h, link := l } : State).share.announced = s.share.announced from ha]
  rfl

/-- A placement forms the declaration and, where the head may declare, fills the slot; nothing else but the mark on the
frame on the bus (R107, R184). -/
theorem State.placeDemand_declaredAs : s.placeDemand.declaredAs s := by
  unfold State.placeDemand State.declaredAs
  dsimp only
  split
  · refine ⟨?_, (s.ownDecl_of_share rfl rfl).symm⟩
    show State.mk _ _ _ _ _ _ _ _ _ _ _ _ _ _ _ _ _ _ _ _ _ _ _ = _
    have := Link.markStale_besidesDemand s.link .demand
    unfold State.besidesDemand
    congr 1
  · exact ⟨rfl, (s.ownDecl_of_share rfl rfl).symm⟩

/-- A placement fills the slot with the declaration as it stands, and the 50 ms period restarts (R107). -/
theorem State.placeDemand_slot (h : s.mayDeclare = true) :
    s.placeDemand.link.demandSlot = some s.ownDecl ∧ s.placeDemand.share.demandTimer = 0
      ∧ s.placeDemand.share.decl = s.ownDecl := by
  simp [State.placeDemand, h]

/-- A change of the declaration is placed; nothing else changes (R107). -/
theorem State.declare_declaredAs : s.declare.declaredAs s := by
  unfold State.declare
  split
  · rename_i h
    exact ⟨rfl, h.symm⟩
  · exact s.placeDemand_declaredAs

@[simp] theorem State.declare_besidesDemand : s.declare.besidesDemand = s.besidesDemand := s.declare_declaredAs.1

@[simp] theorem State.placeDemand_besidesDemand : s.placeDemand.besidesDemand = s.besidesDemand :=
  s.placeDemand_declaredAs.1

/-! ### A later frame of a run: what the assembly makes of it (R37, R182) -/

theorem Assembly.take_out_of_place {a : Assembly} {d : List Byte} (h : natAt d 0 1 % 64 ≠ a.got) : a.take d = none := by
  simp [Assembly.take, h]

theorem Assembly.take_next {a : Assembly} {d : List Byte} (h : natAt d 0 1 % 64 = a.got) (he : a.elsewhere = false) :
    a.take d = some { a with got := a.got + 1, payload := a.payload ++ d.drop 1, silence := 0 } := by
  simp [Assembly.take, h, he]

theorem Assembly.take_elsewhere {a : Assembly} {d : List Byte} (h : natAt d 0 1 % 64 = a.got) (he : a.elsewhere = true) :
    a.take d = some a.heard := by
  simp [Assembly.take, h, he]

/-! ### Input levels -/

theorem State.levelNow_of_due {i : Input} (h : s.inputDue i = true) : s.levelNow i = (s.meas.inputs.get i).sample := by
  simp [State.levelNow, h]

theorem State.levelNow_of_not_due {i : Input} (h : s.inputDue i = false) : s.levelNow i = s.level i := by
  simp [State.levelNow, h]

/-- An accepted level stands due no more (R150). -/
@[simp] theorem State.acceptLevel_inputDue (i : Input) : (s.acceptLevel i).inputDue i = false := by
  cases i <;> simp [State.acceptLevel, State.inputDue, PerInput.get, PerInput.set]

/-- An accepted level is the one the interval leaves (R150). -/
@[simp] theorem State.acceptLevel_levelNow (i : Input) : (s.acceptLevel i).levelNow i = (s.meas.inputs.get i).sample := by
  rw [State.levelNow_of_not_due _ (s.acceptLevel_inputDue i)]
  cases i <;> simp [State.acceptLevel, State.level, InputFilter.asserted, PerInput.get, PerInput.set]

end Sys2Proof.Machine
end

