-- ==== Sys2Proof/Laws/Weld.lean ====
section
/-! SUPPORT. One lemma for each operation of a weld: beside what a weld writes it leaves the state as it was. The first
steps of an evaluation write the weld context alone. -/

namespace Sys2Proof.Machine

-- One proof at a time: all of them at once block on the same equation lemmas and run out of threads.
set_option Elab.async false

variable (s : State)

/-- What a placement leaves, a weld leaves too. -/
theorem State.besidesWeld_of_besidesDemand {t u : State} (h : t.besidesDemand = u.besidesDemand) :
    t.besidesWeld = u.besidesWeld := by
  have : ∀ v : State, v.besidesWeld = v.besidesDemand.besidesWeld := by
    intro v
    unfold State.besidesWeld State.besidesDemand Link.besidesDemand Share.besidesDemand
    simp [Function.comp_def]
  rw [this t, this u, h]

theorem State.onCtx_besidesWeld (f : WeldCtx → WeldCtx) : (s.onCtx f).besidesWeld = s.besidesWeld := by
  rfl

theorem State.setVelocity_besidesWeld (v : Int) : (s.setVelocity v).besidesWeld = s.besidesWeld := by
  rfl

theorem State.setForce_besidesWeld (n : Nat) : (s.setForce n).besidesWeld = s.besidesWeld := by
  rfl

theorem State.setStep_besidesWeld (n : Nat) : (s.setStep n).besidesWeld = s.besidesWeld := by
  rfl

theorem State.setClamps_besidesWeld (a b : Bool) : (s.setClamps a b).besidesWeld = s.besidesWeld := by
  rfl

theorem State.setShear_besidesWeld (a b : Bool) : (s.setShear a b).besidesWeld = s.besidesWeld := by
  rfl

theorem State.openContactor_besidesWeld : s.openContactor.besidesWeld = s.besidesWeld := by
  rfl

theorem State.closeContactor_besidesWeld : s.closeContactor.besidesWeld = s.besidesWeld := by
  rfl

theorem State.cancelRise_besidesWeld : s.cancelRise.besidesWeld = s.besidesWeld := by
  rfl

theorem State.clearYield_besidesWeld : s.clearYield.besidesWeld = s.besidesWeld := by
  rfl

theorem State.placeDemand_besidesWeld : s.placeDemand.besidesWeld = s.besidesWeld := by
  exact State.besidesWeld_of_besidesDemand s.placeDemand_besidesDemand

theorem State.declare_besidesWeld : s.declare.besidesWeld = s.besidesWeld := by
  exact State.besidesWeld_of_besidesDemand s.declare_besidesDemand

theorem State.notice_besidesWeld (n : Notice) : (s.notice n).besidesWeld = s.besidesWeld := by
  unfold State.notice
  split <;> rfl

theorem State.noticeFault_besidesWeld (r : Reason) (tag : Option Nat) : (s.noticeFault r tag).besidesWeld =
    s.besidesWeld := by
  unfold State.noticeFault
  split
  · rfl
  · exact s.notice_besidesWeld _

theorem State.latch_besidesWeld (k : LatchKind) (p : Int) : (s.latch k p).besidesWeld = s.besidesWeld := by
  unfold State.latch
  split
  · rfl
  · split
    · unfold State.besidesWeld
      dsimp only
      split <;> rfl
    · rfl

theorem State.raise_besidesWeld (r : RiseSource) (n c : Nat) : (s.raise r n c).besidesWeld = s.besidesWeld := by
  unfold State.raise
  rw [State.placeDemand_besidesWeld]
  rfl

/-- What the shared operations leave, in one lemma for simp. -/
theorem State.besidesWeld_shared (s : State) :
    (∀ f, (s.onCtx f).besidesWeld = s.besidesWeld) ∧ (∀ v, (s.setVelocity v).besidesWeld = s.besidesWeld)
      ∧ (∀ n, (s.setForce n).besidesWeld = s.besidesWeld) ∧ (∀ n, (s.setStep n).besidesWeld = s.besidesWeld)
      ∧ (∀ a b, (s.setClamps a b).besidesWeld = s.besidesWeld) ∧ (∀ a b, (s.setShear a b).besidesWeld = s.besidesWeld)
      ∧ s.openContactor.besidesWeld = s.besidesWeld ∧ s.closeContactor.besidesWeld = s.besidesWeld
      ∧ s.cancelRise.besidesWeld = s.besidesWeld ∧ s.clearYield.besidesWeld = s.besidesWeld
      ∧ s.placeDemand.besidesWeld = s.besidesWeld ∧ s.declare.besidesWeld = s.besidesWeld
      ∧ (∀ n, (s.notice n).besidesWeld = s.besidesWeld)
      ∧ (∀ r t, (s.noticeFault r t).besidesWeld = s.besidesWeld)
      ∧ (∀ k p, (s.latch k p).besidesWeld = s.besidesWeld)
      ∧ (∀ r n c, (s.raise r n c).besidesWeld = s.besidesWeld)
      ∧ (∀ e c a y p m st md u o,
          (State.mk s.pending s.loader s.station s.image e c s.nextSerial s.lastSerial a y p m s.slots st md u o
              s.wire
            s.meas s.share s.records s.trace s.link).besidesWeld = s.besidesWeld)
      ∧ ∀ e c a y p m st md u o d h r ad t,
          (State.mk s.pending s.loader s.station s.image e c s.nextSerial s.lastSerial a y p m s.slots st md u o
              s.wire
            s.meas (Share.mk s.share.peers d h r ad s.share.rating s.share.genState s.share.ratingAge s.share.source
              s.share.everJoined t) s.records s.trace s.link).besidesWeld = s.besidesWeld :=
  ⟨s.onCtx_besidesWeld, s.setVelocity_besidesWeld, s.setForce_besidesWeld, s.setStep_besidesWeld,
    s.setClamps_besidesWeld, s.setShear_besidesWeld, s.openContactor_besidesWeld, s.closeContactor_besidesWeld,
    s.cancelRise_besidesWeld, s.clearYield_besidesWeld, s.placeDemand_besidesWeld, s.declare_besidesWeld,
    s.notice_besidesWeld, s.noticeFault_besidesWeld, s.latch_besidesWeld, s.raise_besidesWeld,
    fun _ _ _ _ _ _ _ _ _ _ => rfl, fun _ _ _ _ _ _ _ _ _ _ _ _ _ _ _ => rfl⟩

/-- Ending a capture leaves the readout's copy, its waiting query and the newest weld. -/
theorem TraceStore.endCapture_keeps (t : TraceStore) (b : Bool) :
    (t.endCapture b).newest = t.newest ∧ (t.endCapture b).copy = t.copy ∧ (t.endCapture b).waiting = t.waiting
      ∧ (t.endCapture b).gonePending = t.gonePending := by
  have wake : ∀ (u : TraceStore) (b : Bool), (u.wake b).newest = u.newest ∧ (u.wake b).copy = u.copy
      ∧ (u.wake b).waiting = u.waiting ∧ (u.wake b).gonePending = u.gonePending := by
    intro u b
    unfold TraceStore.wake
    split
    · split
      · split
        · simp
        · split <;> simp
      · simp
    · simp
  have set : ∀ (u : TraceStore) (b : Bool) (k : Bank), (u.setBank b k).newest = u.newest
      ∧ (u.setBank b k).copy = u.copy ∧ (u.setBank b k).waiting = u.waiting
      ∧ (u.setBank b k).gonePending = u.gonePending := by
    intro u b k
    unfold TraceStore.setBank
    split <;> simp
  have close : ∀ (u : TraceStore) (b e : Bool), (u.closeBlock b e).newest = u.newest ∧ (u.closeBlock b e).copy =
      u.copy
      ∧ (u.closeBlock b e).waiting = u.waiting ∧ (u.closeBlock b e).gonePending = u.gonePending := by
    intro u b e
    unfold TraceStore.closeBlock
    split
    · simp
    · dsimp only
      simp only [wake, set, and_self]
  unfold TraceStore.endCapture
  split
  · dsimp only
    simp only [wake, set, close, and_self]
  · simp

theorem State.settle_besidesWeld (v : Verdict) : (s.settle v).besidesWeld = s.besidesWeld := by
  unfold State.settle
  split
  · rfl
  · rename_i c _
    obtain ⟨h1, h2, h3, h4⟩ := s.trace.endCapture_keeps (bankOf c.serial)
    rw [State.notice_besidesWeld]
    simp only [State.besidesWeld, h1, h2, h3, h4, RecordStore.insert]

theorem State.settleAtStop_besidesWeld (x : StopCause) : (s.settleAtStop x).besidesWeld = s.besidesWeld := by
  unfold State.settleAtStop
  try dsimp only
  repeat' split
  all_goals first | with_reducible rfl | simp only [State.besidesWeld_shared, State.settle_besidesWeld] | rfl

theorem State.settleAtRelease_besidesWeld : s.settleAtRelease.besidesWeld = s.besidesWeld := by
  unfold State.settleAtRelease
  try dsimp only
  repeat' split
  all_goals first | with_reducible rfl | simp only [State.besidesWeld_shared, State.settle_besidesWeld]

theorem State.enterRecord_besidesWeld (e : Engine) (i : Nat) : (s.enterRecord e i).besidesWeld = s.besidesWeld := by
  unfold State.enterRecord
  dsimp only
  split
  · simp only [State.besidesWeld_shared]
    split <;> simp only [State.besidesWeld_shared]
  · split
    · simp only [State.besidesWeld_shared]
      split <;> simp only [State.besidesWeld_shared]
    · split <;> simp only [State.besidesWeld_shared] <;> split <;> simp only [State.besidesWeld_shared]

theorem State.closeEpisode_besidesWeld : s.closeEpisode.besidesWeld = s.besidesWeld := by
  unfold State.closeEpisode
  try dsimp only
  repeat' split
  all_goals first | with_reducible rfl | simp only [State.besidesWeld_shared]

theorem State.leaveRegulator_besidesWeld : s.leaveRegulator.besidesWeld = s.besidesWeld := by
  unfold State.leaveRegulator
  simp only [State.besidesWeld_shared, State.closeEpisode_besidesWeld]

theorem State.stopPower_besidesWeld : s.stopPower.besidesWeld = s.besidesWeld := by
  unfold State.stopPower
  simp only [State.besidesWeld_shared]

theorem State.completeRelease_besidesWeld : s.completeRelease.besidesWeld = s.besidesWeld := by
  unfold State.completeRelease
  simp only [State.besidesWeld_shared, State.settleAtRelease_besidesWeld]

theorem State.enterOpening_besidesWeld : s.enterOpening.besidesWeld = s.besidesWeld := by
  unfold State.enterOpening
  try dsimp only
  repeat' split
  all_goals first | with_reducible rfl | simp only [State.besidesWeld_shared, State.completeRelease_besidesWeld]

theorem State.enterWaiting_besidesWeld : s.enterWaiting.besidesWeld = s.besidesWeld := by
  unfold State.enterWaiting
  try dsimp only
  repeat' split
  all_goals first | with_reducible rfl | simp only [State.besidesWeld_shared, State.completeRelease_besidesWeld]

theorem State.enterReleasing_besidesWeld : s.enterReleasing.besidesWeld = s.besidesWeld := by
  unfold State.enterReleasing
  try dsimp only
  repeat' split
  all_goals first | with_reducible rfl | simp only [State.besidesWeld_shared, State.enterRecord_besidesWeld,
      State.leaveRegulator_besidesWeld, State.stopPower_besidesWeld, State.enterOpening_besidesWeld]

theorem State.endTrim_besidesWeld : s.endTrim.besidesWeld = s.besidesWeld := by
  unfold State.endTrim
  simp only [State.besidesWeld_shared, State.enterReleasing_besidesWeld]

theorem State.enterReturning_besidesWeld : s.enterReturning.besidesWeld = s.besidesWeld := by
  unfold State.enterReturning
  try dsimp only
  repeat' split
  all_goals first | with_reducible rfl | simp only [State.besidesWeld_shared, State.endTrim_besidesWeld]

theorem State.enterTrim_besidesWeld (i : Nat) : (s.enterTrim i).besidesWeld = s.besidesWeld := by
  unfold State.enterTrim
  try dsimp only
  repeat' split
  all_goals first | with_reducible rfl | simp only [State.besidesWeld_shared, State.enterRecord_besidesWeld,
      State.enterReturning_besidesWeld]

theorem State.enterHold_besidesWeld (i : Nat) : (s.enterHold i).besidesWeld = s.besidesWeld := by
  unfold State.enterHold
  try dsimp only
  repeat' split
  all_goals first | with_reducible rfl | simp only [State.besidesWeld_shared, State.enterRecord_besidesWeld]

theorem State.endHold_besidesWeld : s.endHold.besidesWeld = s.besidesWeld := by
  unfold State.endHold
  try dsimp only
  repeat' split
  all_goals first | with_reducible rfl | simp only [State.besidesWeld_shared, State.enterReleasing_besidesWeld,
      State.enterTrim_besidesWeld]

theorem State.takeCurrentOff_besidesWeld : s.takeCurrentOff.besidesWeld = s.besidesWeld := by
  unfold State.takeCurrentOff
  simp only [State.besidesWeld_shared, State.stopPower_besidesWeld]

theorem State.enterUpset_besidesWeld (i : Nat) : (s.enterUpset i).besidesWeld = s.besidesWeld := by
  unfold State.enterUpset
  try dsimp only
  repeat' split
  all_goals first | with_reducible rfl | simp only [State.besidesWeld_shared, State.enterRecord_besidesWeld,
      State.leaveRegulator_besidesWeld, State.takeCurrentOff_besidesWeld]

theorem State.endUpset_besidesWeld : s.endUpset.besidesWeld = s.besidesWeld := by
  unfold State.endUpset
  try dsimp only
  repeat' split
  all_goals first | with_reducible rfl | simp only [State.besidesWeld_shared, State.enterHold_besidesWeld,
      State.takeCurrentOff_besidesWeld]

theorem State.enterBoost_besidesWeld (i : Nat) : (s.enterBoost i).besidesWeld = s.besidesWeld := by
  unfold State.enterBoost
  try dsimp only
  repeat' split
  all_goals first | with_reducible rfl | simp only [State.besidesWeld_shared, State.enterRecord_besidesWeld,
      State.leaveRegulator_besidesWeld]

theorem State.endBoost_besidesWeld : s.endBoost.besidesWeld = s.besidesWeld := by
  unfold State.endBoost
  try dsimp only
  repeat' split
  all_goals first | with_reducible rfl | simp only [State.besidesWeld_shared, State.enterUpset_besidesWeld]

theorem State.enterFlash_besidesWeld (i : Nat) : (s.enterFlash i).besidesWeld = s.besidesWeld := by
  unfold State.enterFlash
  try dsimp only
  repeat' split
  all_goals first | with_reducible rfl | simp only [State.besidesWeld_shared, State.enterRecord_besidesWeld]

theorem State.restoreStep_besidesWeld : s.restoreStep.besidesWeld = s.besidesWeld := by
  unfold State.restoreStep
  try dsimp only
  repeat' split
  all_goals first | with_reducible rfl | simp only [State.besidesWeld_shared]

theorem State.makeMove_besidesWeld : s.makeMove.besidesWeld = s.besidesWeld := by
  unfold State.makeMove
  try dsimp only
  repeat' split
  all_goals first | with_reducible rfl | simp only [State.besidesWeld_shared, State.enterUpset_besidesWeld,
      State.enterBoost_besidesWeld, State.restoreStep_besidesWeld]

theorem State.leaveFlash_besidesWeld (m : Option (Nat × Nat)) : (s.leaveFlash m).besidesWeld = s.besidesWeld := by
  unfold State.leaveFlash
  try dsimp only
  repeat' split
  all_goals first | with_reducible rfl | simp only [State.enterFlash_besidesWeld,
      State.makeMove_besidesWeld] | rfl

theorem State.flashExit_besidesWeld : s.flashExit.besidesWeld = s.besidesWeld := by
  unfold State.flashExit
  try dsimp only
  repeat' split
  all_goals first | with_reducible rfl | simp only [State.besidesWeld_shared, State.leaveFlash_besidesWeld]

theorem State.enterApproach_besidesWeld : s.enterApproach.besidesWeld = s.besidesWeld := by
  unfold State.enterApproach
  try dsimp only
  repeat' split
  all_goals first | with_reducible rfl | simp only [State.besidesWeld_shared]

theorem State.enterPreheat_besidesWeld (i : Nat) : (s.enterPreheat i).besidesWeld = s.besidesWeld := by
  unfold State.enterPreheat
  try dsimp only
  repeat' split
  all_goals first | with_reducible rfl | simp only [State.besidesWeld_shared, State.enterRecord_besidesWeld,
      State.enterApproach_besidesWeld]

theorem State.enterPulseOff_besidesWeld : s.enterPulseOff.besidesWeld = s.besidesWeld := by
  unfold State.enterPulseOff
  try dsimp only
  repeat' split
  all_goals first | with_reducible rfl | simp only [State.besidesWeld_shared]

theorem State.preheatExit_besidesWeld : s.preheatExit.besidesWeld = s.besidesWeld := by
  unfold State.preheatExit
  try dsimp only
  repeat' split
  all_goals first | with_reducible rfl | simp only [State.besidesWeld_shared, State.enterFlash_besidesWeld,
      State.enterApproach_besidesWeld]

theorem State.endPulseOff_besidesWeld : s.endPulseOff.besidesWeld = s.besidesWeld := by
  unfold State.endPulseOff
  try dsimp only
  repeat' split
  all_goals first | with_reducible rfl | simp only [State.enterApproach_besidesWeld,
      State.preheatExit_besidesWeld]

theorem State.enterAdmitting_besidesWeld : s.enterAdmitting.besidesWeld = s.besidesWeld := by
  unfold State.enterAdmitting
  try dsimp only
  repeat' split
  all_goals first | with_reducible rfl | simp only [State.besidesWeld_shared]

theorem State.endPull_besidesWeld : s.endPull.besidesWeld = s.besidesWeld := by
  unfold State.endPull
  try dsimp only
  repeat' split
  all_goals first | with_reducible rfl | simp only [State.besidesWeld_shared, State.enterAdmitting_besidesWeld]

theorem State.enterPull_besidesWeld (i : Nat) : (s.enterPull i).besidesWeld = s.besidesWeld := by
  unfold State.enterPull
  try dsimp only
  repeat' split
  all_goals first | with_reducible rfl | simp only [State.besidesWeld_shared, State.enterRecord_besidesWeld,
      State.endPull_besidesWeld]

theorem State.leavePull_besidesWeld : s.leavePull.besidesWeld = s.besidesWeld := by
  unfold State.leavePull
  try dsimp only
  repeat' split
  all_goals first | with_reducible rfl | simp only [State.besidesWeld_shared]

theorem State.clampExit_besidesWeld : s.clampExit.besidesWeld = s.besidesWeld := by
  unfold State.clampExit
  try dsimp only
  repeat' split
  all_goals first | with_reducible rfl | simp only [State.besidesWeld_shared, State.enterAdmitting_besidesWeld,
      State.enterPull_besidesWeld]

theorem State.enterClamp_besidesWeld : s.enterClamp.besidesWeld = s.besidesWeld := by
  unfold State.enterClamp
  try dsimp only
  repeat' split
  all_goals first | with_reducible rfl | simp only [State.besidesWeld_shared, State.enterRecord_besidesWeld,
      State.clampExit_besidesWeld]

theorem State.sequencerAdmitted_besidesWeld (m : Nat × Nat) : (s.sequencerAdmitted m).besidesWeld = s.besidesWeld :=
    by
  unfold State.sequencerAdmitted
  try dsimp only
  repeat' split
  all_goals first | with_reducible rfl | simp only [State.besidesWeld_shared, State.enterFlash_besidesWeld,
      State.leaveFlash_besidesWeld, State.enterPreheat_besidesWeld]

theorem State.unitsAtStop_besidesWeld : s.unitsAtStop.besidesWeld = s.besidesWeld := by
  unfold State.unitsAtStop
  try dsimp only
  repeat' split
  all_goals first | with_reducible rfl | simp only [State.besidesWeld_shared, State.leaveRegulator_besidesWeld,
      State.stopPower_besidesWeld, State.leavePull_besidesWeld]

theorem State.stopHead_besidesWeld (x : StopCause) : (s.stopHead x).besidesWeld = s.besidesWeld := by
  unfold State.stopHead
  simp only [State.besidesWeld_shared, State.settleAtStop_besidesWeld, State.unitsAtStop_besidesWeld]

theorem State.appendStop_besidesWeld (x : StopCause) : (s.appendStop x).besidesWeld = s.besidesWeld := by
  unfold State.appendStop
  split
  · rfl
  · rw [State.noticeFault_besidesWeld]
    rfl

theorem State.stopCause_besidesWeld (x : StopCause) : (s.stopCause x).besidesWeld = s.besidesWeld := by
  unfold State.stopCause
  try dsimp only
  repeat' split
  all_goals first | with_reducible rfl | simp only [State.stopHead_besidesWeld,
      State.appendStop_besidesWeld]

theorem State.earlyEnd_besidesWeld (x : EndCause) : (s.earlyEnd x).besidesWeld = s.besidesWeld := by
  unfold State.earlyEnd
  simp only [State.besidesWeld_shared, State.enterReleasing_besidesWeld, State.leavePull_besidesWeld]

theorem State.startAbort_besidesWeld (x : EndCause) : (s.startAbort x).besidesWeld = s.besidesWeld := by
  unfold State.startAbort
  simp only [State.besidesWeld_shared, State.leaveRegulator_besidesWeld]

theorem State.forceUpset_besidesWeld (x : EndCause) : (s.forceUpset x).besidesWeld = s.besidesWeld := by
  unfold State.forceUpset
  simp only [State.besidesWeld_shared, State.endBoost_besidesWeld]

theorem State.endCause_besidesWeld (x : EndCause) (tag : Option Nat) : (s.endCause x tag).besidesWeld =
    s.besidesWeld := by
  unfold State.endCause
  try dsimp only
  repeat' split
  all_goals first | with_reducible rfl | simp only [State.besidesWeld_shared, State.earlyEnd_besidesWeld,
      State.startAbort_besidesWeld, State.forceUpset_besidesWeld]

theorem State.cancelResume_besidesWeld : s.cancelResume.besidesWeld = s.besidesWeld := by
  unfold State.cancelResume
  try dsimp only
  repeat' split
  all_goals first | with_reducible rfl | simp only [State.besidesWeld_shared]

theorem State.yieldLimited_besidesWeld : s.yieldLimited.besidesWeld = s.besidesWeld := by
  unfold State.yieldLimited
  simp only [State.besidesWeld_shared, State.cancelResume_besidesWeld, State.endCause_besidesWeld]

theorem State.pauseRestarts_besidesWeld : s.pauseRestarts.besidesWeld = s.besidesWeld := by
  unfold State.pauseRestarts
  dsimp only
  split <;> simp only [State.besidesWeld_shared, State.cancelResume_besidesWeld, State.endCause_besidesWeld]

theorem State.regulatorResumes_besidesWeld : s.regulatorResumes.besidesWeld = s.besidesWeld := by
  unfold State.regulatorResumes
  try dsimp only
  repeat' split
  all_goals first | with_reducible rfl | simp only [State.besidesWeld_shared, State.endPulseOff_besidesWeld]

theorem State.resumeAdmitted_besidesWeld : s.resumeAdmitted.besidesWeld = s.besidesWeld := by
  unfold State.resumeAdmitted
  simp only [State.besidesWeld_shared, State.regulatorResumes_besidesWeld]

theorem State.admitRise_besidesWeld (a : Ask) : (s.admitRise a).besidesWeld = s.besidesWeld := by
  unfold State.admitRise
  try dsimp only
  repeat' split
  all_goals first | with_reducible rfl | simp only [State.besidesWeld_shared, State.sequencerAdmitted_besidesWeld,
      State.resumeAdmitted_besidesWeld, State.yieldLimited_besidesWeld]

theorem State.withdrawRise_besidesWeld : s.withdrawRise.besidesWeld = s.besidesWeld := by
  unfold State.withdrawRise
  simp only [State.besidesWeld_shared]

theorem State.reraise_besidesWeld : s.reraise.besidesWeld = s.besidesWeld := by
  unfold State.reraise
  simp only [State.besidesWeld_shared]

theorem State.riseEval_besidesWeld (b : Bool) : (s.riseEval b).besidesWeld = s.besidesWeld := by
  unfold State.riseEval
  try dsimp only
  repeat' split
  all_goals first | with_reducible rfl | simp only [State.admitRise_besidesWeld,
      State.withdrawRise_besidesWeld, State.reraise_besidesWeld]

theorem State.countYield_besidesWeld : s.countYield.besidesWeld = s.besidesWeld := by
  unfold State.countYield
  simp only [State.besidesWeld_shared]

theorem State.applyYield_besidesWeld : s.applyYield.besidesWeld = s.besidesWeld := by
  unfold State.applyYield
  try dsimp only
  repeat' split
  all_goals first | with_reducible rfl | simp only [State.besidesWeld_shared, State.enterPulseOff_besidesWeld,
      State.countYield_besidesWeld]

theorem State.resumeEval_besidesWeld : s.resumeEval.besidesWeld = s.besidesWeld := by
  unfold State.resumeEval
  try dsimp only
  repeat' split
  all_goals first | with_reducible rfl | simp only [State.besidesWeld_shared]

theorem State.yieldEval_besidesWeld (b : Bool) : (s.yieldEval b).besidesWeld = s.besidesWeld := by
  unfold State.yieldEval
  try dsimp only
  repeat' split
  all_goals first | with_reducible rfl | simp only [State.applyYield_besidesWeld,
      State.resumeEval_besidesWeld]

theorem State.shareEvent_besidesWeld (a b : Bool) : (s.shareEvent a b).besidesWeld = s.besidesWeld := by
  unfold State.shareEvent
  simp only [State.riseEval_besidesWeld, State.yieldEval_besidesWeld]

/-! ### Steps 1 and 2 of an evaluation write the weld context alone (R59) -/

theorem State.addPower_eq : s.addPower = { s with ctx := s.addPower.ctx } := rfl

theorem State.takeWindow_eq : s.takeWindow = { s with ctx := s.takeWindow.ctx } := rfl

theorem State.countPower_eq : s.countPower = { s with ctx := s.countPower.ctx } := by
  unfold State.countPower
  split <;> rfl

theorem State.updateBurnOff_eq : s.updateBurnOff = { s with ctx := s.updateBurnOff.ctx } := rfl

/-- An interval evaluated in OPEN writes the episode alone (R75). -/
theorem State.countOpen_eq (r : FlashRec) : s.countOpen r = { s with ctx := (s.countOpen r).ctx } := by
  unfold State.countOpen
  split <;> rfl

end Sys2Proof.Machine
end

