-- ==== Sys2Proof/Laws/Due.lean ====
section
/-! SUPPORT. What stands due at the start of an interval leaves the Loader, the station number and the image (log 5). -/

namespace Sys2Proof.Machine

-- One proof at a time: all of them at once wait on the same equation lemmas.
set_option Elab.async false

/-- What RESET_RELEASE and CONFIGURATION_READ alone write. -/
def State.setup (s : State) : Loader × Station × Image := (s.loader, s.station, s.image)

/-- What leaves all but a weld's own part leaves these. -/
theorem State.setup_of_besidesWeld {t u : State} (h : t.besidesWeld = u.besidesWeld) : t.setup = u.setup := by
  have h' := congrArg State.setup h
  exact h'

variable (s : State)

theorem State.event_setup {act : State → State} (h : ∀ t : State, (act t).setup = t.setup) (due : Bool) :
    (s.event due act).setup = s.setup := by
  unfold State.event
  split
  · exact (State.setup_of_besidesWeld (act s).declare_besidesWeld).trans (h s)
  · rfl

/-- An event whose act writes nothing but a weld's own part. -/
theorem State.event_setup_of_besidesWeld {act : State → State} (h : ∀ t : State, (act t).besidesWeld = t.besidesWeld)
    (due : Bool) : (s.event due act).setup = s.setup :=
  s.event_setup (fun t => State.setup_of_besidesWeld (h t)) due

theorem forEach_setup {α : Type} {f : State → α → State} (h : ∀ t a, (f t a).setup = t.setup) (keys : List α) :
    (forEach f keys s).setup = s.setup := by
  unfold forEach
  induction keys generalizing s with
  | nil => rfl
  | cons a l ih => exact (ih (f s a)).trans (h s a)

/-! ### The Measurement Unit -/

theorem State.handSample_setup (p : Int) (i u f : Nat) (b : Bool) : (s.handSample p i u f b).setup = s.setup := by
  unfold State.handSample
  dsimp only
  repeat' split
  all_goals rfl

theorem State.takeSample_setup : s.takeSample.setup = s.setup := State.handSample_setup _ _ _ _ _ _

theorem State.stopCause_setup (x : StopCause) : (s.stopCause x).setup = s.setup :=
  State.setup_of_besidesWeld (s.stopCause_besidesWeld x)

theorem State.testCondition_setup (a b : Bool) (x : StopCause) : (s.testCondition a b x).setup = s.setup := by
  unfold State.testCondition
  split
  · exact s.stopCause_setup x
  · rfl

theorem State.clampMoved_setup : s.clampMoved.setup = s.setup := by
  unfold State.clampMoved
  repeat' split
  all_goals first
    | rfl
    | exact State.setup_of_besidesWeld s.clampExit_besidesWeld
    | exact State.setup_of_besidesWeld s.completeRelease_besidesWeld

theorem State.shearMoved_setup : s.shearMoved.setup = s.setup := by
  unfold State.shearMoved
  repeat' split
  all_goals first
    | rfl
    | exact State.setup_of_besidesWeld s.enterReturning_besidesWeld
    | exact State.setup_of_besidesWeld s.endTrim_besidesWeld

theorem State.feedbackMoved_setup : s.feedbackMoved.setup = s.setup := by
  unfold State.feedbackMoved
  split <;> rfl

theorem State.inputMoved_setup (i : Input) : (s.inputMoved i).setup = s.setup := by
  unfold State.inputMoved
  split
  · rfl
  · cases i
    · exact s.testClampNow.clampMoved_setup.trans (State.testCondition_setup _ _ _ _)
    · exact s.testClampNow.clampMoved_setup.trans (State.testCondition_setup _ _ _ _)
    · rfl
    · exact s.shearMoved_setup
    · exact s.shearMoved_setup
    · exact s.feedbackMoved_setup
    · exact State.testCondition_setup _ _ _ _
    · exact State.testCondition_setup _ _ _ _

theorem State.sampleEvent_setup : s.sampleEvent.setup = s.setup := s.event_setup State.takeSample_setup _
theorem State.windowEvent_setup : s.windowEvent.setup = s.setup :=
  s.event_setup_of_besidesWeld (fun t => t.onCtx_besidesWeld _) _
theorem State.inputEvent_setup (i : Input) : (s.inputEvent i).setup = s.setup :=
  s.event_setup (fun t => (t.acceptLevel i).inputMoved_setup i) _
theorem State.contactorFault_setup : s.contactorFault.setup = s.setup := State.stopCause_setup _ _
theorem State.contactorEvent_setup : s.contactorEvent.setup = s.setup := s.event_setup State.contactorFault_setup _

theorem State.dueMeasured_setup : s.dueMeasured.setup = s.setup := by
  unfold State.dueMeasured
  rw [State.contactorEvent_setup, forEach_setup _ State.inputEvent_setup, State.windowEvent_setup, State.sampleEvent_setup]

/-! ### The phase units -/

theorem State.shortBegins_setup : s.shortBegins.setup = s.setup := by
  unfold State.shortBegins
  split
  · rfl
  · exact State.setup_of_besidesWeld (s.latch_besidesWeld _ _)

theorem State.pulseOnEnds_setup : s.pulseOnEnds.setup = s.setup :=
  State.setup_of_besidesWeld (State.enterPulseOff_besidesWeld _)

theorem State.rampEnds_setup : s.rampEnds.setup = s.setup :=
  State.setup_of_besidesWeld (State.enterOpening_besidesWeld _)

theorem State.shearFails_besidesWeld : s.shearFails.besidesWeld = s.besidesWeld :=
  State.noticeFault_besidesWeld _ _ _

theorem State.shortEvent_setup : s.shortEvent.setup = s.setup := s.event_setup State.shortBegins_setup _
theorem State.openBegins_setup : s.openBegins.setup = s.setup := rfl
theorem State.openEvent_setup : s.openEvent.setup = s.setup := s.event_setup State.openBegins_setup _
theorem State.pulseOnEvent_setup : s.pulseOnEvent.setup = s.setup := s.event_setup State.pulseOnEnds_setup _
theorem State.pulseOffEvent_setup : s.pulseOffEvent.setup = s.setup :=
  s.event_setup_of_besidesWeld State.endPulseOff_besidesWeld _
theorem State.boostEvent_setup : s.boostEvent.setup = s.setup := s.event_setup_of_besidesWeld State.endBoost_besidesWeld _
theorem State.currentOffEvent_setup : s.currentOffEvent.setup = s.setup :=
  s.event_setup_of_besidesWeld State.takeCurrentOff_besidesWeld _
theorem State.upsetStallEvent_setup : s.upsetStallEvent.setup = s.setup :=
  s.event_setup_of_besidesWeld State.endUpset_besidesWeld _
theorem State.upsetTimeoutEvent_setup : s.upsetTimeoutEvent.setup = s.setup :=
  s.event_setup_of_besidesWeld State.endUpset_besidesWeld _
theorem State.holdEvent_setup : s.holdEvent.setup = s.setup := s.event_setup_of_besidesWeld State.endHold_besidesWeld _
theorem State.shearEvent_setup : s.shearEvent.setup = s.setup :=
  s.event_setup_of_besidesWeld (fun t => t.shearFails.enterReturning_besidesWeld.trans t.shearFails_besidesWeld) _
theorem State.shearReturnEvent_setup : s.shearReturnEvent.setup = s.setup :=
  s.event_setup_of_besidesWeld (fun t => t.shearFails.endTrim_besidesWeld.trans t.shearFails_besidesWeld) _
theorem State.clampTimedOut_setup : s.clampTimedOut.setup = s.setup :=
  State.setup_of_besidesWeld (State.endCause_besidesWeld _ _ _)
theorem State.clampTimeoutEvent_setup : s.clampTimeoutEvent.setup = s.setup := s.event_setup State.clampTimedOut_setup _
theorem State.pullStallEvent_setup : s.pullStallEvent.setup = s.setup :=
  s.event_setup_of_besidesWeld State.endPull_besidesWeld _
theorem State.pullTimeoutEvent_setup : s.pullTimeoutEvent.setup = s.setup :=
  s.event_setup_of_besidesWeld State.endPull_besidesWeld _
theorem State.rampEvent_setup : s.rampEvent.setup = s.setup := s.event_setup State.rampEnds_setup _
theorem State.clampOpenEvent_setup : s.clampOpenEvent.setup = s.setup :=
  s.event_setup_of_besidesWeld State.enterWaiting_besidesWeld _
theorem State.abortStillEvent_setup : s.abortStillEvent.setup = s.setup :=
  s.event_setup_of_besidesWeld State.enterReleasing_besidesWeld _

theorem State.duePhases_setup : s.duePhases.setup = s.setup := by
  unfold State.duePhases
  rw [State.abortStillEvent_setup, State.clampOpenEvent_setup, State.rampEvent_setup, State.pullTimeoutEvent_setup,
    State.pullStallEvent_setup, State.clampTimeoutEvent_setup, State.shearReturnEvent_setup, State.shearEvent_setup,
    State.holdEvent_setup, State.upsetTimeoutEvent_setup, State.upsetStallEvent_setup, State.currentOffEvent_setup,
    State.boostEvent_setup, State.pulseOffEvent_setup, State.pulseOnEvent_setup, State.openEvent_setup,
    State.shortEvent_setup]

/-! ### The Load Share Unit and Yield Control -/

theorem State.shareEvent_setup (a b : Bool) : (s.shareEvent a b).setup = s.setup :=
  State.setup_of_besidesWeld (s.shareEvent_besidesWeld a b)

theorem State.settleExpires_setup : s.settleExpires.setup = s.setup := by
  unfold State.settleExpires
  dsimp only
  repeat' split
  · rfl
  · exact State.setup_of_besidesWeld (State.admitRise_besidesWeld _ _)
  · rfl

theorem State.admitTimedOut_setup : s.admitTimedOut.setup = s.setup :=
  State.setup_of_besidesWeld ((State.endCause_besidesWeld _ _ _).trans (State.placeDemand_besidesWeld _))

theorem State.minrunExpires_setup : s.minrunExpires.setup = s.setup :=
  State.setup_of_besidesWeld ((State.yieldEval_besidesWeld _ _).trans (State.onCtx_besidesWeld _ _))

theorem State.budgetEvent_setup (before : State) : (s.budgetEvent before).setup = s.setup := State.shareEvent_setup _ _ _

theorem State.yieldLimitEvent_setup : s.yieldLimitEvent.setup = s.setup :=
  s.event_setup_of_besidesWeld State.yieldLimited_besidesWeld _
theorem State.minrunEvent_setup : s.minrunEvent.setup = s.setup := s.event_setup State.minrunExpires_setup _
theorem State.pauseEvent_setup : s.pauseEvent.setup = s.setup :=
  s.event_setup_of_besidesWeld State.pauseRestarts_besidesWeld _
theorem State.settleEvent_setup : s.settleEvent.setup = s.setup := s.event_setup State.settleExpires_setup _
theorem State.admitTimeoutEvent_setup : s.admitTimeoutEvent.setup = s.setup := s.event_setup State.admitTimedOut_setup _
theorem State.lapse_setup (n : Nat) : (s.lapse n).setup = s.setup := State.shareEvent_setup _ _ _
theorem State.lapseEvent_setup (n : Nat) : (s.lapseEvent n).setup = s.setup := s.event_setup (fun t => t.lapse_setup n) _
theorem State.removePeer_setup (n : Nat) : (s.removePeer n).setup = s.setup := State.shareEvent_setup _ _ _
theorem State.removalEvent_setup (n : Nat) : (s.removalEvent n).setup = s.setup :=
  s.event_setup (fun t => t.removePeer_setup n) _
theorem State.ratingAgeEvent_setup : s.ratingAgeEvent.setup = s.setup := s.event_setup (fun t => t.budgetEvent_setup t) _

theorem State.dueShare_setup : s.dueShare.setup = s.setup := by
  unfold State.dueShare
  rw [State.ratingAgeEvent_setup, forEach_setup _ State.removalEvent_setup, forEach_setup _ State.lapseEvent_setup,
    State.admitTimeoutEvent_setup, State.settleEvent_setup, State.pauseEvent_setup, State.minrunEvent_setup,
    State.yieldLimitEvent_setup]

/-! ### The Bus Link -/

theorem State.join_setup : s.join.setup = s.setup := by
  unfold State.join
  dsimp only
  refine (State.setup_of_besidesWeld (State.placeDemand_besidesWeld _)).trans ?_
  repeat' split
  all_goals first | exact State.budgetEvent_setup _ _ | rfl

theorem State.notice_setup (n : Notice) : (s.notice n).setup = s.setup := State.setup_of_besidesWeld (s.notice_besidesWeld n)

theorem State.clearBank_setup (n : Nat) : (s.clearBank n).setup = s.setup := by
  unfold State.clearBank
  dsimp only
  repeat' split
  all_goals first | rfl | exact State.notice_setup _ _

theorem State.acceptWeld_setup (q : Request) (p : Programme) : (s.acceptWeld q p).setup = s.setup :=
  (State.setup_of_besidesWeld (State.enterClamp_besidesWeld _)).trans
    ((State.notice_setup _ _).trans (State.clearBank_setup _ _))

theorem State.takeRequest_setup (f : Option RequestFault) (q : Request) : (s.takeRequest f q).setup = s.setup := by
  unfold State.takeRequest
  split
  · exact s.notice_setup _
  · exact s.acceptWeld_setup q _
  · rfl

theorem State.nextRequest_setup : s.nextRequest.setup = s.setup := by
  unfold State.nextRequest
  dsimp only
  repeat' split
  all_goals first | exact State.takeRequest_setup _ _ _ | rfl

theorem State.nextProgramme_setup : s.nextProgramme.setup = s.setup := by
  unfold State.nextProgramme
  split
  · rfl
  · unfold State.takeProgramme
    dsimp only
    repeat' split
    all_goals exact State.notice_setup _ _

theorem State.listenEvent_setup : s.listenEvent.setup = s.setup := s.event_setup State.join_setup _
theorem State.rejoin_setup : s.rejoin.setup = s.setup := State.shareEvent_setup _ _ _
theorem State.lostEvent_setup : s.lostEvent.setup = s.setup := s.event_setup State.rejoin_setup _
theorem State.dropProg_setup : s.dropProg.setup = s.setup := rfl
theorem State.progSilenceEvent_setup : s.progSilenceEvent.setup = s.setup := s.event_setup State.dropProg_setup _
theorem State.programmeEvent_setup : s.programmeEvent.setup = s.setup := s.event_setup State.nextProgramme_setup _
theorem State.requestEvent_setup : s.requestEvent.setup = s.setup := s.event_setup State.nextRequest_setup _
theorem State.placeStatus_setup : s.placeStatus.setup = s.setup := rfl
theorem State.statusEvent_setup : s.statusEvent.setup = s.setup := s.event_setup State.placeStatus_setup _
theorem State.demandEvent_setup : s.demandEvent.setup = s.setup :=
  s.event_setup_of_besidesWeld State.placeDemand_besidesWeld _
theorem State.dropRun_setup (n : Nat) : (s.dropRun n).setup = s.setup := rfl
theorem State.runSilenceEvent_setup (n : Nat) : (s.runSilenceEvent n).setup = s.setup :=
  s.event_setup (fun t => t.dropRun_setup n) _

theorem State.dueLink_setup : s.dueLink.setup = s.setup := by
  unfold State.dueLink
  rw [State.demandEvent_setup, State.statusEvent_setup, State.requestEvent_setup, State.programmeEvent_setup,
    State.progSilenceEvent_setup, forEach_setup _ State.runSilenceEvent_setup, State.lostEvent_setup,
    State.listenEvent_setup]

/-- What stands due when an interval starts leaves the Loader, the station number and the image (log 5). -/
theorem State.takeDue_setup : s.takeDue.setup = s.setup :=
  (State.dueLink_setup _).trans ((State.dueShare_setup _).trans ((State.duePhases_setup _).trans s.dueMeasured_setup))

theorem State.setup_eq {t u : State} (h : t.setup = u.setup) :
    t.loader = u.loader ∧ t.station = u.station ∧ t.image = u.image := by
  simpa only [State.setup, Prod.mk.injEq] using h

@[simp] theorem State.takeDue_loader : s.takeDue.loader = s.loader := (State.setup_eq s.takeDue_setup).1
@[simp] theorem State.takeDue_station : s.takeDue.station = s.station := (State.setup_eq s.takeDue_setup).2.1
@[simp] theorem State.takeDue_image : s.takeDue.image = s.image := (State.setup_eq s.takeDue_setup).2.2

end Sys2Proof.Machine
end

