-- ==== Sys2Proof/Laws/Fields.lean ====
section
/-! SUPPORT. One lemma per part of State for the larger shared operations: what they leave, and the one thing they
    write. -/

namespace Sys2Proof.Machine

-- One proof at a time: all of them at once block on the same equation lemmas and run out of threads.
set_option Elab.async false

variable (s : State)


/-! ### notice and noticeFault -/

@[simp] theorem State.notice_link_bitRate (n : Notice) : (s.notice n).link.bitRate = s.link.bitRate := by
  unfold State.notice; split <;> rfl

@[simp] theorem State.noticeFault_link_bitRate (r : Reason) (t : Option Nat) : (s.noticeFault r t).link.bitRate =
    s.link.bitRate := by
  unfold State.noticeFault; split <;> simp

@[simp] theorem State.notice_link_state (n : Notice) : (s.notice n).link.state = s.link.state := by
  unfold State.notice; split <;> rfl

@[simp] theorem State.noticeFault_link_state (r : Reason) (t : Option Nat) : (s.noticeFault r t).link.state =
    s.link.state := by
  unfold State.noticeFault; split <;> simp

@[simp] theorem State.notice_link_listen (n : Notice) : (s.notice n).link.listen = s.link.listen := by
  unfold State.notice; split <;> rfl

@[simp] theorem State.noticeFault_link_listen (r : Reason) (t : Option Nat) : (s.noticeFault r t).link.listen =
    s.link.listen := by
  unfold State.noticeFault; split <;> simp

@[simp] theorem State.notice_link_lostTimer (n : Notice) : (s.notice n).link.lostTimer = s.link.lostTimer := by
  unfold State.notice; split <;> rfl

@[simp] theorem State.noticeFault_link_lostTimer (r : Reason) (t : Option Nat) : (s.noticeFault r t).link.lostTimer
    = s.link.lostTimer := by
  unfold State.noticeFault; split <;> simp

@[simp] theorem State.notice_link_failed (n : Notice) : (s.notice n).link.failed = s.link.failed := by
  unfold State.notice; split <;> rfl

@[simp] theorem State.noticeFault_link_failed (r : Reason) (t : Option Nat) : (s.noticeFault r t).link.failed =
    s.link.failed := by
  unfold State.noticeFault; split <;> simp

@[simp] theorem State.notice_link_weldRuns (n : Notice) : (s.notice n).link.weldRuns = s.link.weldRuns := by
  unfold State.notice; split <;> rfl

@[simp] theorem State.noticeFault_link_weldRuns (r : Reason) (t : Option Nat) : (s.noticeFault r t).link.weldRuns =
    s.link.weldRuns := by
  unfold State.noticeFault; split <;> simp

@[simp] theorem State.notice_link_weldReady (n : Notice) : (s.notice n).link.weldReady = s.link.weldReady := by
  unfold State.notice; split <;> rfl

@[simp] theorem State.noticeFault_link_weldReady (r : Reason) (t : Option Nat) : (s.noticeFault r t).link.weldReady
    = s.link.weldReady := by
  unfold State.noticeFault; split <;> simp

@[simp] theorem State.notice_link_progRun (n : Notice) : (s.notice n).link.progRun = s.link.progRun := by
  unfold State.notice; split <;> rfl

@[simp] theorem State.noticeFault_link_progRun (r : Reason) (t : Option Nat) : (s.noticeFault r t).link.progRun =
    s.link.progRun := by
  unfold State.noticeFault; split <;> simp

@[simp] theorem State.notice_link_progReady (n : Notice) : (s.notice n).link.progReady = s.link.progReady := by
  unfold State.notice; split <;> rfl

@[simp] theorem State.noticeFault_link_progReady (r : Reason) (t : Option Nat) : (s.noticeFault r t).link.progReady
    = s.link.progReady := by
  unfold State.noticeFault; split <;> simp

@[simp] theorem State.notice_link_demandSlot (n : Notice) : (s.notice n).link.demandSlot = s.link.demandSlot := by
  unfold State.notice; split <;> rfl

@[simp] theorem State.noticeFault_link_demandSlot (r : Reason) (t : Option Nat) : (s.noticeFault r
    t).link.demandSlot = s.link.demandSlot := by
  unfold State.noticeFault; split <;> simp

@[simp] theorem State.notice_link_statusSlot (n : Notice) : (s.notice n).link.statusSlot = s.link.statusSlot := by
  unfold State.notice; split <;> rfl

@[simp] theorem State.noticeFault_link_statusSlot (r : Reason) (t : Option Nat) : (s.noticeFault r
    t).link.statusSlot = s.link.statusSlot := by
  unfold State.noticeFault; split <;> simp

@[simp] theorem State.notice_link_noticeNext (n : Notice) : (s.notice n).link.noticeNext = s.link.noticeNext := by
  unfold State.notice; split <;> rfl

@[simp] theorem State.noticeFault_link_noticeNext (r : Reason) (t : Option Nat) : (s.noticeFault r
    t).link.noticeNext = s.link.noticeNext := by
  unfold State.noticeFault; split <;> simp

@[simp] theorem State.notice_link_recordSlot (n : Notice) : (s.notice n).link.recordSlot = s.link.recordSlot := by
  unfold State.notice; split <;> rfl

@[simp] theorem State.noticeFault_link_recordSlot (r : Reason) (t : Option Nat) : (s.noticeFault r
    t).link.recordSlot = s.link.recordSlot := by
  unfold State.noticeFault; split <;> simp

@[simp] theorem State.notice_link_traceSlot (n : Notice) : (s.notice n).link.traceSlot = s.link.traceSlot := by
  unfold State.notice; split <;> rfl

@[simp] theorem State.noticeFault_link_traceSlot (r : Reason) (t : Option Nat) : (s.noticeFault r t).link.traceSlot
    = s.link.traceSlot := by
  unfold State.noticeFault; split <;> simp

@[simp] theorem State.notice_link_onBus (n : Notice) : (s.notice n).link.onBus = s.link.onBus := by
  unfold State.notice; split <;> rfl

@[simp] theorem State.noticeFault_link_onBus (r : Reason) (t : Option Nat) : (s.noticeFault r t).link.onBus =
    s.link.onBus := by
  unfold State.noticeFault; split <;> simp

@[simp] theorem State.notice_link_demandGap (n : Notice) : (s.notice n).link.demandGap = s.link.demandGap := by
  unfold State.notice; split <;> rfl

@[simp] theorem State.noticeFault_link_demandGap (r : Reason) (t : Option Nat) : (s.noticeFault r t).link.demandGap
    = s.link.demandGap := by
  unfold State.noticeFault; split <;> simp

/-- A notice queued where there is room stands at the end of the queue (R184). -/
theorem State.notice_of_room (n : Notice) (h : s.link.notices.length < 8) :
    s.notice n = { s with link := { s.link with notices := s.link.notices ++ [n] } } := by
  simp [State.notice, Config.noticeLimit, h]

/-- A notice queued while the queue holds 8 is dropped (R184). -/
theorem State.notice_of_full (n : Notice) (h : 8 ≤ s.link.notices.length) : s.notice n = s := by
  simp [State.notice, Config.noticeLimit, Nat.not_lt.mpr h]


/-! ### placeDemand and declare -/

@[simp] theorem State.placeDemand_share_peers : s.placeDemand.share.peers = s.share.peers := by
  unfold State.placeDemand; dsimp only; split <;> rfl

@[simp] theorem State.placeDemand_share_hold : s.placeDemand.share.hold = s.share.hold := by
  unfold State.placeDemand; dsimp only; split <;> rfl

@[simp] theorem State.placeDemand_share_rise : s.placeDemand.share.rise = s.share.rise := by
  unfold State.placeDemand; dsimp only; split <;> rfl

@[simp] theorem State.placeDemand_share_admitted : s.placeDemand.share.admitted = s.share.admitted := by
  unfold State.placeDemand; dsimp only; split <;> rfl

@[simp] theorem State.placeDemand_share_rating : s.placeDemand.share.rating = s.share.rating := by
  unfold State.placeDemand; dsimp only; split <;> rfl

@[simp] theorem State.placeDemand_share_genState : s.placeDemand.share.genState = s.share.genState := by
  unfold State.placeDemand; dsimp only; split <;> rfl

@[simp] theorem State.placeDemand_share_ratingAge : s.placeDemand.share.ratingAge = s.share.ratingAge := by
  unfold State.placeDemand; dsimp only; split <;> rfl

@[simp] theorem State.placeDemand_share_source : s.placeDemand.share.source = s.share.source := by
  unfold State.placeDemand; dsimp only; split <;> rfl

@[simp] theorem State.placeDemand_share_everJoined : s.placeDemand.share.everJoined = s.share.everJoined := by
  unfold State.placeDemand; dsimp only; split <;> rfl

@[simp] theorem State.placeDemand_link_bitRate : s.placeDemand.link.bitRate = s.link.bitRate := by
  unfold State.placeDemand; dsimp only; split <;> rfl

@[simp] theorem State.placeDemand_link_state : s.placeDemand.link.state = s.link.state := by
  unfold State.placeDemand; dsimp only; split <;> rfl

@[simp] theorem State.placeDemand_link_listen : s.placeDemand.link.listen = s.link.listen := by
  unfold State.placeDemand; dsimp only; split <;> rfl

@[simp] theorem State.placeDemand_link_lostTimer : s.placeDemand.link.lostTimer = s.link.lostTimer := by
  unfold State.placeDemand; dsimp only; split <;> rfl

@[simp] theorem State.placeDemand_link_failed : s.placeDemand.link.failed = s.link.failed := by
  unfold State.placeDemand; dsimp only; split <;> rfl

@[simp] theorem State.placeDemand_link_weldRuns : s.placeDemand.link.weldRuns = s.link.weldRuns := by
  unfold State.placeDemand; dsimp only; split <;> rfl

@[simp] theorem State.placeDemand_link_weldReady : s.placeDemand.link.weldReady = s.link.weldReady := by
  unfold State.placeDemand; dsimp only; split <;> rfl

@[simp] theorem State.placeDemand_link_progRun : s.placeDemand.link.progRun = s.link.progRun := by
  unfold State.placeDemand; dsimp only; split <;> rfl

@[simp] theorem State.placeDemand_link_progReady : s.placeDemand.link.progReady = s.link.progReady := by
  unfold State.placeDemand; dsimp only; split <;> rfl

@[simp] theorem State.placeDemand_link_statusSlot : s.placeDemand.link.statusSlot = s.link.statusSlot := by
  unfold State.placeDemand; dsimp only; split <;> rfl

@[simp] theorem State.placeDemand_link_notices : s.placeDemand.link.notices = s.link.notices := by
  unfold State.placeDemand; dsimp only; split <;> rfl

@[simp] theorem State.placeDemand_link_noticeNext : s.placeDemand.link.noticeNext = s.link.noticeNext := by
  unfold State.placeDemand; dsimp only; split <;> rfl

@[simp] theorem State.placeDemand_link_recordSlot : s.placeDemand.link.recordSlot = s.link.recordSlot := by
  unfold State.placeDemand; dsimp only; split <;> rfl

@[simp] theorem State.placeDemand_link_traceSlot : s.placeDemand.link.traceSlot = s.link.traceSlot := by
  unfold State.placeDemand; dsimp only; split <;> rfl

@[simp] theorem State.placeDemand_link_demandGap : s.placeDemand.link.demandGap = s.link.demandGap := by
  unfold State.placeDemand; dsimp only; split <;> rfl

@[simp] theorem State.declare_share_peers : s.declare.share.peers = s.share.peers := by
  unfold State.declare; split <;> simp

@[simp] theorem State.declare_share_hold : s.declare.share.hold = s.share.hold := by
  unfold State.declare; split <;> simp

@[simp] theorem State.declare_share_rise : s.declare.share.rise = s.share.rise := by
  unfold State.declare; split <;> simp

@[simp] theorem State.declare_share_admitted : s.declare.share.admitted = s.share.admitted := by
  unfold State.declare; split <;> simp

@[simp] theorem State.declare_share_rating : s.declare.share.rating = s.share.rating := by
  unfold State.declare; split <;> simp

@[simp] theorem State.declare_share_genState : s.declare.share.genState = s.share.genState := by
  unfold State.declare; split <;> simp

@[simp] theorem State.declare_share_ratingAge : s.declare.share.ratingAge = s.share.ratingAge := by
  unfold State.declare; split <;> simp

@[simp] theorem State.declare_share_source : s.declare.share.source = s.share.source := by
  unfold State.declare; split <;> simp

@[simp] theorem State.declare_share_everJoined : s.declare.share.everJoined = s.share.everJoined := by
  unfold State.declare; split <;> simp

@[simp] theorem State.declare_link_bitRate : s.declare.link.bitRate = s.link.bitRate := by
  unfold State.declare; split <;> simp

@[simp] theorem State.declare_link_state : s.declare.link.state = s.link.state := by
  unfold State.declare; split <;> simp

@[simp] theorem State.declare_link_listen : s.declare.link.listen = s.link.listen := by
  unfold State.declare; split <;> simp

@[simp] theorem State.declare_link_lostTimer : s.declare.link.lostTimer = s.link.lostTimer := by
  unfold State.declare; split <;> simp

@[simp] theorem State.declare_link_failed : s.declare.link.failed = s.link.failed := by
  unfold State.declare; split <;> simp

@[simp] theorem State.declare_link_weldRuns : s.declare.link.weldRuns = s.link.weldRuns := by
  unfold State.declare; split <;> simp

@[simp] theorem State.declare_link_weldReady : s.declare.link.weldReady = s.link.weldReady := by
  unfold State.declare; split <;> simp

@[simp] theorem State.declare_link_progRun : s.declare.link.progRun = s.link.progRun := by
  unfold State.declare; split <;> simp

@[simp] theorem State.declare_link_progReady : s.declare.link.progReady = s.link.progReady := by
  unfold State.declare; split <;> simp

@[simp] theorem State.declare_link_statusSlot : s.declare.link.statusSlot = s.link.statusSlot := by
  unfold State.declare; split <;> simp

@[simp] theorem State.declare_link_notices : s.declare.link.notices = s.link.notices := by
  unfold State.declare; split <;> simp

@[simp] theorem State.declare_link_noticeNext : s.declare.link.noticeNext = s.link.noticeNext := by
  unfold State.declare; split <;> simp

@[simp] theorem State.declare_link_recordSlot : s.declare.link.recordSlot = s.link.recordSlot := by
  unfold State.declare; split <;> simp

@[simp] theorem State.declare_link_traceSlot : s.declare.link.traceSlot = s.link.traceSlot := by
  unfold State.declare; split <;> simp

@[simp] theorem State.declare_link_demandGap : s.declare.link.demandGap = s.link.demandGap := by
  unfold State.declare; split <;> simp

@[simp] theorem State.placeDemand_ownDecl : s.placeDemand.ownDecl = s.ownDecl := by
  have h := s.placeDemand_declaredAs.2
  unfold State.placeDemand at *
  dsimp only at *
  split <;> exact s.ownDecl_of_share rfl rfl

@[simp] theorem State.placeDemand_decl : s.placeDemand.share.decl = s.ownDecl := by
  rw [s.placeDemand_declaredAs.2, s.placeDemand_ownDecl]

@[simp] theorem State.declare_ownDecl : s.declare.ownDecl = s.ownDecl := by
  unfold State.declare
  split <;> simp

@[simp] theorem State.declare_decl : s.declare.share.decl = s.ownDecl := by
  rw [s.declare_declaredAs.2, s.declare_ownDecl]


/-! ### latch -/

/-- What a latch request makes of a weld context (R148, R149). -/
theorem State.latch_ctx (k : LatchKind) (p : Int) :
    (s.latch k p).ctx = s.ctx.map fun c =>
      if c.lists k then { c with latches := c.latches ++ [⟨k, p, c.weldTime⟩] }
      else { c with omitted := countUp c.omitted } := by
  unfold State.latch
  split
  · simp [*]
  · rename_i c h
    split <;> simp [*]

/-- A milestone is always listed (R149). -/
theorem WeldCtx.lists_milestone (c : WeldCtx) {k : LatchKind} (h : k.repeated = false) : c.lists k = true := by
  simp [WeldCtx.lists, h]


/-! ### The runs of the short and open tests -/

@[simp] theorem WeldCtx.restartRuns_shortRun (c : WeldCtx) : c.restartRuns.shortRun = 0 := rfl
@[simp] theorem WeldCtx.restartRuns_openRun (c : WeldCtx) : c.restartRuns.openRun = 0 := rfl
@[simp] theorem WeldCtx.restartRuns_onset (c : WeldCtx) : c.restartRuns.onset = none := rfl
@[simp] theorem WeldCtx.restartRuns_openMet (c : WeldCtx) : c.restartRuns.openMet = false := rfl

/-- An interval in REGULATING writes the runs and what they have reached, and nothing else of the context (R72, R74). -/
theorem WeldCtx.runs_eq (c : WeldCtx) (r : FlashRec) (im : Nat) (p : Int) :
    c.runs r im p = { c with
      shortRun := (c.runs r im p).shortRun, openRun := (c.runs r im p).openRun
      onset := (c.runs r im p).onset, openMet := (c.runs r im p).openMet } := rfl

/-- With no rise pending, no RESUME rise pends. -/
theorem State.resuming_of_ask_none {s : State} (h : s.share.rise.ask = none) : s.resuming = false := by
  simp [State.resuming, h]

/-! ### leaveRegulator and enterRecord -/

theorem State.closeEpisode_ctx :
    s.closeEpisode.ctx = s.ctx.map fun c =>
      if s.mode = .openGap then { c with openTime := c.openTime + c.openRun, openRun := 0 } else c := by
  unfold State.closeEpisode
  split <;> simp

/-- What leaving the regulator makes of a weld context (R79, R83). -/
theorem State.leaveRegulator_ctx :
    s.leaveRegulator.ctx = s.ctx.map fun c =>
      { c with
        openTime := if s.mode = .openGap then c.openTime + c.openRun else c.openTime
        sub := none, drawTarget := none, shortRun := 0, openRun := 0, onset := none, openMet := false, retract := none
        guard := none
        abortTarget := none, abortStill := 0 } := by
  unfold State.leaveRegulator
  rw [State.onCtx_ctx, State.closeEpisode_ctx, Option.map_map]
  congr 1
  funext c
  simp only [Function.comp]
  split <;> rfl

@[simp] theorem State.leaveRegulator_mode : s.leaveRegulator.mode = .idle := rfl

@[simp] theorem State.leaveRegulator_pending : s.leaveRegulator.pending = s.pending := by
  unfold State.leaveRegulator State.closeEpisode; split <;> rfl

@[simp] theorem State.leaveRegulator_loader : s.leaveRegulator.loader = s.loader := by
  unfold State.leaveRegulator State.closeEpisode; split <;> rfl

@[simp] theorem State.leaveRegulator_station : s.leaveRegulator.station = s.station := by
  unfold State.leaveRegulator State.closeEpisode; split <;> rfl

@[simp] theorem State.leaveRegulator_image : s.leaveRegulator.image = s.image := by
  unfold State.leaveRegulator State.closeEpisode; split <;> rfl

@[simp] theorem State.leaveRegulator_engine : s.leaveRegulator.engine = s.engine := by
  unfold State.leaveRegulator State.closeEpisode; split <;> rfl

@[simp] theorem State.leaveRegulator_nextSerial : s.leaveRegulator.nextSerial = s.nextSerial := by
  unfold State.leaveRegulator State.closeEpisode; split <;> rfl

@[simp] theorem State.leaveRegulator_lastSerial : s.leaveRegulator.lastSerial = s.lastSerial := by
  unfold State.leaveRegulator State.closeEpisode; split <;> rfl

@[simp] theorem State.leaveRegulator_awaiting : s.leaveRegulator.awaiting = s.awaiting := by
  unfold State.leaveRegulator State.closeEpisode; split <;> rfl

@[simp] theorem State.leaveRegulator_yielded : s.leaveRegulator.yielded = s.yielded := by
  unfold State.leaveRegulator State.closeEpisode; split <;> rfl

@[simp] theorem State.leaveRegulator_statusPeriod : s.leaveRegulator.statusPeriod = s.statusPeriod := by
  unfold State.leaveRegulator State.closeEpisode; split <;> rfl

@[simp] theorem State.leaveRegulator_statusTimer : s.leaveRegulator.statusTimer = s.statusTimer := by
  unfold State.leaveRegulator State.closeEpisode; split <;> rfl

@[simp] theorem State.leaveRegulator_slots : s.leaveRegulator.slots = s.slots := by
  unfold State.leaveRegulator State.closeEpisode; split <;> rfl

@[simp] theorem State.leaveRegulator_stress : s.leaveRegulator.stress = s.stress := by
  unfold State.leaveRegulator State.closeEpisode; split <;> rfl

@[simp] theorem State.leaveRegulator_upset : s.leaveRegulator.upset = s.upset := by
  unfold State.leaveRegulator State.closeEpisode; split <;> rfl

@[simp] theorem State.leaveRegulator_out : s.leaveRegulator.out = s.out := by
  unfold State.leaveRegulator State.closeEpisode; split <;> rfl

@[simp] theorem State.leaveRegulator_wire : s.leaveRegulator.wire = s.wire := by
  unfold State.leaveRegulator State.closeEpisode; split <;> rfl

@[simp] theorem State.leaveRegulator_meas : s.leaveRegulator.meas = s.meas := by
  unfold State.leaveRegulator State.closeEpisode; split <;> rfl

@[simp] theorem State.leaveRegulator_share : s.leaveRegulator.share = s.share := by
  unfold State.leaveRegulator State.closeEpisode; split <;> rfl

@[simp] theorem State.leaveRegulator_records : s.leaveRegulator.records = s.records := by
  unfold State.leaveRegulator State.closeEpisode; split <;> rfl

@[simp] theorem State.leaveRegulator_trace : s.leaveRegulator.trace = s.trace := by
  unfold State.leaveRegulator State.closeEpisode; split <;> rfl

@[simp] theorem State.leaveRegulator_link : s.leaveRegulator.link = s.link := by
  unfold State.leaveRegulator State.closeEpisode; split <;> rfl

/-- What an entry to a record makes of a weld context (R2, R10). -/
theorem State.enterRecord_ctx (e : Engine) (i : Nat) :
    (s.enterRecord e i).ctx = s.ctx.map fun c =>
      { c with
        phase := some i, phaseTimer := 0, exitMet := false, moveDue := false
        pause := if e = .preheat ∨ e = .flash then c.pause else none
        guard := if e = .preheat ∨ e = .flash then c.guard else if s.yielded then none else c.guard } := by
  have h : (s.enterRecord e i).ctx = ((if e = .preheat ∨ e = .flash then s else s.clearYield).onCtx fun c =>
      { c with phase := some i, phaseTimer := 0, exitMet := false, moveDue := false }).ctx := by
    unfold State.enterRecord
    dsimp only
    split
    · rfl
    · split
      · rfl
      · split
        · rw [State.notice_ctx]
        · rfl
  rw [h]
  split <;> simp [Function.comp_def]

@[simp] theorem State.enterRecord_engine (e : Engine) (i : Nat) : (s.enterRecord e i).engine = e := by
  unfold State.enterRecord
  dsimp only
  split
  · rfl
  · split
    · rfl
    · split
      · rw [State.notice_engine]
      · rfl

theorem State.enterRecord_yielded (e : Engine) (i : Nat) :
    (s.enterRecord e i).yielded = if e = .preheat ∨ e = .flash then s.yielded else false := by
  unfold State.enterRecord
  dsimp only
  split <;> (split <;> first | (split <;> first | (split <;> simp) | rfl) | rfl)

@[simp] theorem State.enterRecord_pending (e : Engine) (i : Nat) : (s.enterRecord e i).pending = s.pending := by
  unfold State.enterRecord
  dsimp only
  repeat' split
  all_goals simp

@[simp] theorem State.enterRecord_loader (e : Engine) (i : Nat) : (s.enterRecord e i).loader = s.loader := by
  unfold State.enterRecord
  dsimp only
  repeat' split
  all_goals simp

@[simp] theorem State.enterRecord_station (e : Engine) (i : Nat) : (s.enterRecord e i).station = s.station := by
  unfold State.enterRecord
  dsimp only
  repeat' split
  all_goals simp

@[simp] theorem State.enterRecord_image (e : Engine) (i : Nat) : (s.enterRecord e i).image = s.image := by
  unfold State.enterRecord
  dsimp only
  repeat' split
  all_goals simp

@[simp] theorem State.enterRecord_nextSerial (e : Engine) (i : Nat) : (s.enterRecord e i).nextSerial = s.nextSerial
    := by
  unfold State.enterRecord
  dsimp only
  repeat' split
  all_goals simp

@[simp] theorem State.enterRecord_lastSerial (e : Engine) (i : Nat) : (s.enterRecord e i).lastSerial = s.lastSerial
    := by
  unfold State.enterRecord
  dsimp only
  repeat' split
  all_goals simp

@[simp] theorem State.enterRecord_awaiting (e : Engine) (i : Nat) : (s.enterRecord e i).awaiting = s.awaiting := by
  unfold State.enterRecord
  dsimp only
  repeat' split
  all_goals simp

@[simp] theorem State.enterRecord_statusPeriod (e : Engine) (i : Nat) : (s.enterRecord e i).statusPeriod =
    s.statusPeriod := by
  unfold State.enterRecord
  dsimp only
  repeat' split
  all_goals simp

@[simp] theorem State.enterRecord_statusTimer (e : Engine) (i : Nat) : (s.enterRecord e i).statusTimer =
    s.statusTimer := by
  unfold State.enterRecord
  dsimp only
  repeat' split
  all_goals simp

@[simp] theorem State.enterRecord_slots (e : Engine) (i : Nat) : (s.enterRecord e i).slots = s.slots := by
  unfold State.enterRecord
  dsimp only
  repeat' split
  all_goals simp

@[simp] theorem State.enterRecord_stress (e : Engine) (i : Nat) : (s.enterRecord e i).stress = s.stress := by
  unfold State.enterRecord
  dsimp only
  repeat' split
  all_goals simp

@[simp] theorem State.enterRecord_mode (e : Engine) (i : Nat) : (s.enterRecord e i).mode = s.mode := by
  unfold State.enterRecord
  dsimp only
  repeat' split
  all_goals simp

@[simp] theorem State.enterRecord_upset (e : Engine) (i : Nat) : (s.enterRecord e i).upset = s.upset := by
  unfold State.enterRecord
  dsimp only
  repeat' split
  all_goals simp

@[simp] theorem State.enterRecord_out (e : Engine) (i : Nat) : (s.enterRecord e i).out = s.out := by
  unfold State.enterRecord
  dsimp only
  repeat' split
  all_goals simp

@[simp] theorem State.enterRecord_wire (e : Engine) (i : Nat) : (s.enterRecord e i).wire = s.wire := by
  unfold State.enterRecord
  dsimp only
  repeat' split
  all_goals simp

@[simp] theorem State.enterRecord_meas (e : Engine) (i : Nat) : (s.enterRecord e i).meas = s.meas := by
  unfold State.enterRecord
  dsimp only
  repeat' split
  all_goals simp

@[simp] theorem State.enterRecord_share (e : Engine) (i : Nat) : (s.enterRecord e i).share = s.share := by
  unfold State.enterRecord
  dsimp only
  repeat' split
  all_goals simp

@[simp] theorem State.enterRecord_records (e : Engine) (i : Nat) : (s.enterRecord e i).records = s.records := by
  unfold State.enterRecord
  dsimp only
  repeat' split
  all_goals simp

@[simp] theorem State.enterRecord_trace (e : Engine) (i : Nat) : (s.enterRecord e i).trace = s.trace := by
  unfold State.enterRecord
  dsimp only
  repeat' split
  all_goals simp

@[simp] theorem State.enterRecord_link_state (e : Engine) (i : Nat) : (s.enterRecord e i).link.state = s.link.state
    := by
  unfold State.enterRecord
  dsimp only
  repeat' split
  all_goals simp

@[simp] theorem State.enterRecord_link_listen (e : Engine) (i : Nat) : (s.enterRecord e i).link.listen =
    s.link.listen := by
  unfold State.enterRecord
  dsimp only
  repeat' split
  all_goals simp

@[simp] theorem State.enterRecord_link_lostTimer (e : Engine) (i : Nat) : (s.enterRecord e i).link.lostTimer =
    s.link.lostTimer := by
  unfold State.enterRecord
  dsimp only
  repeat' split
  all_goals simp

@[simp] theorem State.enterRecord_link_failed (e : Engine) (i : Nat) : (s.enterRecord e i).link.failed =
    s.link.failed := by
  unfold State.enterRecord
  dsimp only
  repeat' split
  all_goals simp

@[simp] theorem State.enterRecord_link_weldRuns (e : Engine) (i : Nat) : (s.enterRecord e i).link.weldRuns =
    s.link.weldRuns := by
  unfold State.enterRecord
  dsimp only
  repeat' split
  all_goals simp

@[simp] theorem State.enterRecord_link_weldReady (e : Engine) (i : Nat) : (s.enterRecord e i).link.weldReady =
    s.link.weldReady := by
  unfold State.enterRecord
  dsimp only
  repeat' split
  all_goals simp

@[simp] theorem State.enterRecord_link_progRun (e : Engine) (i : Nat) : (s.enterRecord e i).link.progRun =
    s.link.progRun := by
  unfold State.enterRecord
  dsimp only
  repeat' split
  all_goals simp

@[simp] theorem State.enterRecord_link_progReady (e : Engine) (i : Nat) : (s.enterRecord e i).link.progReady =
    s.link.progReady := by
  unfold State.enterRecord
  dsimp only
  repeat' split
  all_goals simp

@[simp] theorem State.enterRecord_link_demandSlot (e : Engine) (i : Nat) : (s.enterRecord e i).link.demandSlot =
    s.link.demandSlot := by
  unfold State.enterRecord
  dsimp only
  repeat' split
  all_goals simp

@[simp] theorem State.enterRecord_link_statusSlot (e : Engine) (i : Nat) : (s.enterRecord e i).link.statusSlot =
    s.link.statusSlot := by
  unfold State.enterRecord
  dsimp only
  repeat' split
  all_goals simp

@[simp] theorem State.enterRecord_link_noticeNext (e : Engine) (i : Nat) : (s.enterRecord e i).link.noticeNext =
    s.link.noticeNext := by
  unfold State.enterRecord
  dsimp only
  repeat' split
  all_goals simp

@[simp] theorem State.enterRecord_link_recordSlot (e : Engine) (i : Nat) : (s.enterRecord e i).link.recordSlot =
    s.link.recordSlot := by
  unfold State.enterRecord
  dsimp only
  repeat' split
  all_goals simp

@[simp] theorem State.enterRecord_link_traceSlot (e : Engine) (i : Nat) : (s.enterRecord e i).link.traceSlot =
    s.link.traceSlot := by
  unfold State.enterRecord
  dsimp only
  repeat' split
  all_goals simp

@[simp] theorem State.enterRecord_link_onBus (e : Engine) (i : Nat) : (s.enterRecord e i).link.onBus = s.link.onBus
    := by
  unfold State.enterRecord
  dsimp only
  repeat' split
  all_goals simp

@[simp] theorem State.enterRecord_link_demandGap (e : Engine) (i : Nat) : (s.enterRecord e i).link.demandGap =
    s.link.demandGap := by
  unfold State.enterRecord
  dsimp only
  repeat' split
  all_goals simp

end Sys2Proof.Machine
end

