-- ==== Sys2Proof/WellFormed.lean ====
section
/-! DEFINITION. Which commands the outside world can send: a CAN frame holds at most eight data bytes (R181), and the
first byte tells a run's first frame from its later ones (R182). -/

namespace Sys2Proof

/-- A CAN data frame carries 0 to 8 data bytes (R181). -/
def frameFits (data : List Byte) : Bool := decide (data.length ≤ 8)

/-- A frame whose byte 0 is 192 or more is a first frame of a run (R182). -/
def isFirstFrame (data : List Byte) : Bool :=
  match data with
  | [] => false
  | b :: _ => decide (192 ≤ b.toNat)

/-- The command is one the outside world can send. -/
def Instr.wellFormed : Instr → Bool
  | .reset => true
  | .configurationRead _ => true
  | .listenPeriodEnd => true
  | .lostPeriodEnd => true
  | .frameOffer _ => true
  | .frameAcknowledged => true
  | .frameNotAcknowledged => true
  | .busOff => true
  | .duplicateStationFrame => true
  | .runFirstFrame _ data => frameFits data && isFirstFrame data
  | .programmeFirstFrame _ data => frameFits data && isFirstFrame data
  | .runLaterFrame _ _ data => frameFits data && !isFirstFrame data
  | .runAssemblySilence _ => true
  | .programmeSilence => true
  | .rating _ data => frameFits data
  | .demand _ data => frameFits data
  | .abort _ data => frameFits data
  | .weldRequest => true
  | .clear _ data => frameFits data
  | .programme => true
  | .captureClear _ data => frameFits data
  | .recordQuery _ data => frameFits data
  | .traceQuery _ data => frameFits data
  | .fetchCompletion => true
  | .regulationInterval _ _ => true
  | .tenMsSample => true
  | .headStatusPeriod => true
  | .demandPeriod => true
  | .encoderEdge _ => true
  | .referenceMark => true
  | .quadratureError _ => true
  | .inputLevelChange _ => true
  | .contactorFeedbackTimeout => true
  | .clampTimeout => true
  | .pullStall => true
  | .pullTimeout => true
  | .settleExpiry => true
  | .admitTimeout => true
  | .peerLapse _ => true
  | .peerRemoval _ => true
  | .ratingAgeThreshold => true
  | .yieldLimit => true
  | .minrunExpiry => true
  | .preheatPauseRestart => true
  | .pulseOnEnd => true
  | .pulseOffEnd => true
  | .shortOnset => true
  | .openCircuit => true
  | .abortRetractStill => true
  | .powerWindowComplete => true
  | .boostTimeReached => true
  | .currentOff => true
  | .upsetStall => true
  | .upsetTimeout => true
  | .holdTimeEnd => true
  | .shearTimeout => true
  | .shearReturnTimeout => true
  | .releaseRampEnd => true
  | .clampOpenTimeout => true
  | .resetRelease _ => true

end Sys2Proof
end

