-- ==== Sys2Proof/Tests/Slice0.lean ====
section
/-! SUPPORT. The model's own tests: the well-formedness smoke, the manual's worked examples, single steps, and a state that
meets the hypotheses of each statement. -/

namespace Sys2Proof.Tests

-- One theorem at a time: the many short kernel checks otherwise run on as many threads.
set_option Elab.async false

open Sys2Proof.Machine

/-! ### WellFormed: one ill-formed term for each check -/

theorem test_wf_frame_of_nine_bytes : (Instr.demand 1 (List.replicate 9 0)).wellFormed = false := by decide
theorem test_wf_frame_of_eight_bytes : (Instr.demand 1 (List.replicate 8 0)).wellFormed = true := by decide
theorem test_wf_first_frame_below_192 : (Instr.runFirstFrame 1 [191]).wellFormed = false := by decide
theorem test_wf_first_frame_empty : (Instr.programmeFirstFrame 1 []).wellFormed = false := by decide
theorem test_wf_first_frame : (Instr.runFirstFrame 1 [194, 3]).wellFormed = true := by decide
theorem test_wf_later_frame_from_192 : (Instr.runLaterFrame .programme 1 [192]).wellFormed = false := by decide
theorem test_wf_later_frame : (Instr.runLaterFrame .programme 1 [1]).wellFormed = true := by decide

/-! ### The table gives no bits -/

theorem test_no_word_spells_a_command : decodeTableWord 16 0 = none := by decide
theorem test_no_word_is_queued : (State.reset.withFetchWord 16 7).pending = [] := by decide

/-! ### Programme 1207 (section 2.7) in the encoding of section 11.9 -/

/-- The header and the windows of section 2.7. -/
def header1207 : List Byte :=
  leBytes 1 2 ++ leBytes 2 1207 ++ leBytes 1 10 ++ leBytes 1 30 ++ leBytes 1 20 ++ leBytes 1 20 ++ leBytes 2 3000
    ++ leBytes 4 12000 ++ leBytes 4 15000 ++ leBytes 2 10000 ++ leBytes 2 600 ++ leBytes 2 1000 ++ leBytes 2 100
    ++ leBytes 2 400 ++ leBytes 2 600 ++ leBytes 2 1500 ++ leBytes 4 5000 ++ leBytes 4 14000 ++ leBytes 1 20
    ++ leBytes 2 1500

/-- Records 0 to 5 of section 2.7. -/
def records1207 : List Byte :=
  (leBytes 1 1 ++ leBytes 2 8000)
    ++ (leBytes 1 2 ++ leBytes 2 1500 ++ leBytes 2 800 ++ leBytes 2 1000 ++ leBytes 4 60000)
    ++ (leBytes 1 (3 + 128) ++ leBytes 2 380 ++ leBytes 1 5 ++ leBytes 1 6 ++ leBytes 2 2000 ++ leBytes 2 1500
      ++ leBytes 2 150 ++ leBytes 2 2000 ++ leBytes 2 1000 ++ leBytes 2 4000)
    ++ (leBytes 1 4 ++ leBytes 2 420 ++ leBytes 2 260 ++ leBytes 1 5 ++ leBytes 1 3 ++ leBytes 2 200 ++ leBytes 2 400
      ++ leBytes 2 6000 ++ leBytes 2 2400 ++ leBytes 2 1500 ++ leBytes 1 20 ++ leBytes 2 4500 ++ leBytes 1 20
      ++ leBytes 2 1500 ++ leBytes 2 6000 ++ leBytes 2 200 ++ leBytes 2 200 ++ leBytes 2 800)
    ++ (leBytes 1 4 ++ leBytes 2 450 ++ leBytes 2 280 ++ leBytes 1 6 ++ leBytes 1 3 ++ leBytes 2 400 ++ leBytes 2 800
      ++ leBytes 2 4000 ++ leBytes 2 2600 ++ leBytes 2 1600 ++ leBytes 1 20 ++ leBytes 2 4800 ++ leBytes 1 20
      ++ leBytes 2 1500 ++ leBytes 2 6000 ++ leBytes 2 200 ++ leBytes 2 200 ++ leBytes 2 0)
    ++ (leBytes 1 (5 + 128) ++ leBytes 2 650 ++ leBytes 1 8 ++ leBytes 2 3000 ++ leBytes 2 3000 ++ leBytes 2 1500)

/-- The whole run, with the upset speed open. -/
def payload1207 (upsetSpeed : Nat) : List Byte :=
  header1207 ++ records1207
    ++ (leBytes 1 (6 + 128) ++ leBytes 2 600 ++ leBytes 2 upsetSpeed ++ leBytes 2 1000 ++ leBytes 2 250
      ++ leBytes 2 12000 ++ leBytes 2 3000)
    ++ (leBytes 1 7 ++ leBytes 2 900 ++ leBytes 2 45) ++ (leBytes 1 8 ++ leBytes 2 10000)
    ++ (leBytes 1 9 ++ leBytes 2 8000)

/-- Programme 1207 as section 2.7 writes it, with an upset speed of 18,000 µm/s. -/
def prog1207 : Programme :=
  { number := 1207, recordCount := 10, tAdmit := 30, tYieldMax := 20, tMinrun := 20, overrun := 3000
    windows :=
      { burnMin := 12000, burnMax := 15000, distanceMin := 10000, forceMin := 600, forceMax := 1000, curTimeMin := 100
        curTimeMax := 400, flashMin := 600, flashMax := 1500, energyMin := 5000, energyMax := 14000, maxShorts := 20
        maxOpen := 1500 }
    records :=
      [⟨false, .clamp 8000⟩,
       ⟨false, .pull { speed := 1500, forceLimit := 800, tolerance := 1000, timeout := 60000 }⟩,
       ⟨true, .preheat { load := 380, step := 5, pulses := 6, onTime := 2000, offTime := 1500, contactForce := 150
                         openDistance := 2000, approach := 1000, pauseTolerance := 4000 }⟩,
       ⟨false, .flash { load := 420, reducedLoad := 260, step := 5, reducedStep := 3, va := 200, vb := 400, lf := 6000
                        is := 2400, isRed := 1500, k := 20, isc := 4500, tsc := 20, dr := 1500, vr := 6000
                        iOpen := 200, tOpen := 200, approach := 800 }⟩,
       ⟨false, .flash { load := 450, reducedLoad := 280, step := 6, reducedStep := 3, va := 400, vb := 800, lf := 4000
                        is := 2600, isRed := 1600, k := 20, isc := 4800, tsc := 20, dr := 1500, vr := 6000
                        iOpen := 200, tOpen := 200, approach := 0 }⟩,
       ⟨true, .boost { load := 650, step := 8, speed := 3000, length := 3000, time := 1500 }⟩,
       ⟨true, .upset { load := 600, speed := 18000, fu := 1000, tuc := 250, du := 12000, timeout := 3000 }⟩,
       ⟨false, .hold 900 45⟩, ⟨false, .trim 10000⟩, ⟨false, .release 8000⟩] }

/-- The image of section 2.7, its other fields at recommended values. -/
def image : Image :=
  { Image.blank with
    generator := 1, standalone := true, reserve := 10, standby := 20, fallback := 300, tPeer := 300, tLinger := 4000
    fMax := 1200, vMax := 20000, vRetractMax := 10000, stroke := 160000, travelReserve := 10000
    clearanceMin := 2000, iContact := 300, abortDistance := 5000, rampTime := 2000, creep := 300, fbTime := 60
    current := ⟨0, 6000⟩, voltage := ⟨0, 2500⟩, force := ⟨0, 50000⟩, resolution := 1, refPosition := 10000
    refTolerance := 20, filterTime := 6 }

/-- Station 3 in READY with the link JOINED. -/
def ready : State :=
  { State.reset with
    loader := .good, station := 3, image := image, engine := .ready, slots := setSlot State.reset.slots 2 (some prog1207)
    link := { Link.reset with state := .joined }
    meas := { Meas.reset with homed := true } }

/-- The run of a payload in as many frames as it takes. -/
def runOf (payload : List Byte) : ProgRun := ⟨programmeFrames payload.length, payload⟩

theorem test_example_2_7_refused : ready.validate (runOf (payload1207 40000)) = .refused (.limit 6) := by decide +kernel
theorem test_example_2_7_stored : ready.validate (runOf (payload1207 18000)) = .stored prog1207 := by decide +kernel
/-- 169 bytes: six in the first frame, and 163 in 24 more. -/
theorem test_example_2_7_frames : (payload1207 18000).length = 169 ∧ programmeFrames 169 = 25 := by decide +kernel
/-- R38: a surplus empty frame is FORMAT. -/
theorem test_surplus_frame_is_format : ready.validate ⟨26, payload1207 18000⟩ = .refused .format := by decide +kernel
/-- R30: a record after RELEASE is ORDER with no index, whatever count is declared. -/
theorem test_record_after_release :
    ready.validate (runOf ((payload1207 18000).set 3 11 ++ leBytes 1 9 ++ leBytes 2 8000)) = .refused (.order none) := by
  decide +kernel
theorem test_example_2_7_class_zero : prog1207.classZero = 650 := by decide
theorem test_example_2_7_travel : prog1207.travel 0 = 25000 := by decide

/-! ### More worked examples of the manual -/

/-- The largest request of R46. -/
theorem test_pull_of_the_largest_request : RequestData.pReq ⟨-400, 700, 1200, 1⟩ = 1518000 := by decide
/-- R47: a clearance of exactly the minimum passes. -/
theorem test_gap_at_the_minimum : ready.checkProgramme ⟨0, 0, 0, 2000⟩ prog1207 = none := by decide
theorem test_gap_below_the_minimum : ready.checkProgramme ⟨0, 0, 0, 1999⟩ prog1207 = some .gapShort := by decide
/-- The voltage of 600 of section 11.9: 0 in byte 0, 2 in bytes 5-6, 88 in byte 7. -/
theorem test_voltage_of_600 : (Sample.mk 0 0 600 0).frame 1 = [1, 0, 0, 0, 0, 0, 64, 88] := by decide +kernel
/-- R71: the quotient of the correction is truncated toward zero. -/
theorem test_correction_truncates : FlashRec.correction
    { load := 0, reducedLoad := 0, step := 1, reducedStep := 1, va := 0, vb := 0, lf := 100, is := 0, isRed := 0, k := 1
      isc := 0, tsc := 1, dr := 0, vr := 0, iOpen := 0, tOpen := 0, approach := 0 } 0 19 = -1 := by decide
/-- R77: a window of 50 intervals at 600 x 2400 is 1,440 x 100 W; at 420 kW the guard compares with 462 kW. -/
theorem test_guard_of_a_window : guardSetpoint 2400 420 500 = some 2016 ∧ guardSetpoint 2400 420 462 = none := by decide

/-- A weld on programme 1207 with the record `i` in force. -/
def ctx (i : Nat) : WeldCtx :=
  { ready.newCtx ⟨41, 2, ⟨50, 270, 2, 40000⟩⟩ prog1207 with phase := some i }

/-- The quantities of weld 45 of section 9.7. -/
def ctx45 : WeldCtx :=
  { ctx 9 with
    burnOff := 14620, distance := some 12016, peak := some 9640, curTime := some 250, firstFlash := some 41200
    eRaw := 61234567890, shortCount := 23, openTime := 1180, latches := [⟨.upsetStart, 0, 112950⟩] }

theorem test_example_9_7_reject : ctx45.judge.reasons = [.freeze] := by decide
theorem test_example_9_7_accept : ({ ctx45 with shortCount := 20 } : WeldCtx).judge.reasons = [] := by decide
theorem test_example_9_7_energy : ctx45.energy = 12246 ∧ ctx45.flashTime = some 717 := by decide

/-! ### Small states -/

/-- Station 3 in a weld, with the record `i` in force and the contexts' values changed by `f`. -/
def weld (e : Engine) (i : Nat) (f : WeldCtx → WeldCtx) : State :=
  { ready with
    engine := e, ctx := some (f (ctx i)), nextSerial := 2, lastSerial := 1
    out := { Outputs.reset with force := 9000, fixedClose := true, movingClose := true } }

/-- An input with an established level. -/
def level (s : State) (i : Input) (x : Bool) : State :=
  { s with meas := { s.meas with inputs := s.meas.inputs.set i ⟨x, 10, true, x⟩ } }

/-- An input whose filter is about to accept the other level: three samples cover 6 ms. -/
def moving (s : State) (i : Input) (x : Bool) : State :=
  { s with meas := { s.meas with inputs := s.meas.inputs.set i ⟨x, 3, true, !x⟩ } }

/-- What a command leaves of a state, through a function. -/
def after {α : Type} (i : Instr) (s : State) (f : State → α) : Option α :=
  match exec i s with
  | .next t => some (f t)
  | .fault _ | .refused _ => none

theorem test_strap_weights : after (.resetRelease 0b0011) State.reset (fun t => t.station.val) = some 3 := by decide
theorem test_edge_moves_away : after (.encoderEdge false) ready (fun t => t.meas.position) = some (-1) := by decide
theorem test_mark_homes : after .referenceMark { ready with meas := Meas.reset } (fun t => t.meas.position) = some 10000 := by
  decide +kernel
theorem test_boost_by_time_latches :
    after .boostTimeReached (weld .boost 5 fun c => { c with phaseTimer := 1500, weldTime := 7 })
      (fun t => t.ctx.map fun c => c.latches) = some (some [⟨.upsetStart, 0, 7⟩]) := by decide +kernel
theorem test_current_off_records_the_timer :
    after .currentOff
      { weld .upset 6 id with upset := { Upset.reset with currentTimer := ⟨true, 250⟩ } }
      (fun t => t.ctx.map fun c => c.curTime) = some (some (some 250)) := by decide +kernel
theorem test_emergency_holds_the_force :
    after (.inputLevelChange .emergency) (moving (weld .pulling 1 id) .emergency true) (fun t => (t.engine, t.out.force))
      = some (.faultHold, 9000) := by decide +kernel
theorem test_busy_in_a_weld :
    after .weldRequest
      { weld .flash 3 id with link := { ready.link with weldReady := [⟨leBytes 2 7 ++ leBytes 1 2 ++ leBytes 10 0, none⟩] } }
      (fun t => t.link.notices) = some [.refused 7 1] := by decide +kernel
theorem test_rating_sets_the_budget :
    after (.rating 1 (leBytes 2 1000 ++ [0])) ready State.budget = some 900 := by decide +kernel

/-! ### The bus and the Loader -/

/-- R181, R187: kind × 16 + sender; the own number, a kind without command, 29 bits, a remote frame, and kind code 0. -/
theorem test_rating_identifier : (BusFrame.mk false false 17 [1]).command 3 = some (.rating 1 [1]) := by decide
theorem test_own_number_is_a_duplicate : (BusFrame.mk true true 227 []).command 3 = some .duplicateStationFrame := by decide
theorem test_ignored_identifiers :
    (BusFrame.mk false false 225 [1]).command 3 = none ∧ (BusFrame.mk true false 17 [1]).command 3 = none
      ∧ (BusFrame.mk false true 17 [1]).command 3 = none ∧ (BusFrame.mk false false 1 [1]).command 3 = none
      ∧ (BusFrame.mk false false 97 [1]).command 3 = none := by decide
theorem test_trace_query_identifier : (BusFrame.mk false false 193 [3]).command 3 = some (.traceQuery 1 [3]) := by decide
/-- R181: the four bit rates, and the one of CONFIG FAULT. -/
theorem test_bit_rates :
    [0, 1, 2, 3].map (bitRateInForce .good) = [125, 250, 500, 1000] ∧ bitRateInForce .wrongSum 3 = 250 := by decide

/-! ### Single steps at the corners -/

/-- R42: the timer of WAITING starts at 0. -/
theorem test_waiting_starts_at_zero :
    after .clampOpenTimeout
      (level { weld .releasing 9 id with
        stress := { Stress.reset with release := some .opening, releaseTimer := ⟨true, 8000⟩ } } .clampF true)
      (fun t => (t.stress.release, t.stress.releaseTimer)) = some (some .waiting, ⟨true, 0⟩) := by decide +kernel
/-- R104: a yield taken in PULSE OFF is an open command; with CONT_FB asserted the load of before is held. -/
theorem test_yield_in_pulse_off_starts_a_hold :
    after (.demand 1 ([0x30, 1] ++ leBytes 2 4000 ++ leBytes 2 4000 ++ leBytes 2 0))
      (level (weld .preheat 2 fun c => { c with sub := some .pulseOff }) .contFb true)
      (fun t => (t.yielded, t.share.hold)) = some (true, some 380) := by decide +kernel
/-- R69: the burn-off that crosses the target in RETRACTING does not meet the exit criterion. -/
theorem test_crossing_in_retracting_is_no_exit :
    let s := { weld .flash 3 (fun c => { c with
        burnOff := 5990, contactPos := some 0, retract := some ⟨4490, 6000, 5990⟩ }) with
      mode := .retracting, meas := { ready.meas with intervalPos := 6010 } }
    s.evalUnits.ctx.map (fun c => (c.burnOff, c.exitMet)) = some (6010, false) := by decide +kernel
/-- R74: an open run that a move to the next record leaves at its t_open enters OPEN in an evaluated interval alone. -/
theorem test_open_run_waits_for_its_interval :
    after .openCircuit { weld .flash 4 (fun c => { c with openRun := 400 }) with mode := .regulating } (fun t => t.mode)
      = some .regulating := by decide +kernel
/-- R72: the 10th interval at I_sc is the onset, with d_r and v_r of record 3. -/
theorem test_tenth_interval_is_the_onset :
    let s := { weld .flash 3 (fun c => { c with shortRun := 18 }) with
      mode := .regulating, meas := { ready.meas with im := 4500, intervalPos := 9130 } }
    s.evalFlash.ctx.map (fun c => c.onset) = some (some ⟨7630, 6000, 0⟩) := by decide +kernel
/-- R92: the shear timer is 0 again on entry to DONE. -/
theorem test_shear_timer_of_done :
    after .shearReturnTimeout
      { weld .trim 8 id with upset := { Upset.reset with shear := some .returning, shearTimer := 10000 } }
      (fun t => (t.engine, t.upset.shear, t.upset.shearTimer)) = some (.releasing, none, 0) := by decide +kernel
/-- R75: the interval that leaves FLASH in OPEN counts. -/
theorem test_leaving_interval_counts_open_time :
    let s := { weld .flash 4 (fun c => { c with burnOff := 9990, contactPos := some 0, openRun := 210 }) with
      mode := .openGap, share := { Share.reset with hold := some 4000 }
      meas := { ready.meas with intervalPos := 10000, im := 100 } }
    (s.evalUnits.engine, s.evalUnits.ctx.map fun c => c.openTime) = (.boost, some 212) := by decide +kernel
/-- R144: a homing after the fifth interval lies in the next sample. -/
theorem test_homing_after_the_fifth_interval :
    after .referenceMark { ready with meas := { Meas.reset with sampleIntervals := 5 } }
      (fun t => (t.meas.homedInSample, t.meas.homedNext)) = some (false, true) := by decide +kernel
/-- R154: a level accepted in an interval is compared in it. -/
theorem test_feedback_compares_the_accepted_level :
    let s := { ready with
      meas := { ready.meas with
        fbTimer := 60
        inputs := ready.meas.inputs.set .contFb ⟨false, 2, true, true⟩ } }
    after (.regulationInterval false ⟨.replicate _ 0, .replicate _ 0, .replicate _ 0, 0⟩) s (fun t => t.meas.fbTimer)
      = some 0 := by decide +kernel

/-! ### States that meet the hypotheses of the statements -/

/-- A good image in the memory's layout (R188). -/
def imageBody : List Byte :=
  [166, 2, 1, 1, 10] ++ leBytes 2 20 ++ leBytes 2 3000 ++ leBytes 2 300 ++ leBytes 2 4000 ++ leBytes 2 1200
    ++ leBytes 2 20000 ++ leBytes 2 10000 ++ leBytes 4 160000 ++ leBytes 4 10000 ++ leBytes 2 2000 ++ leBytes 2 300
    ++ leBytes 2 5000 ++ leBytes 2 2000 ++ leBytes 2 300 ++ leBytes 2 60 ++ leBytes 2 0 ++ leBytes 2 6000
    ++ leBytes 2 0 ++ leBytes 2 2500 ++ leBytes 2 0 ++ leBytes 2 50000 ++ leBytes 1 1 ++ leBytes 4 10000
    ++ leBytes 2 20 ++ leBytes 1 0 ++ leBytes 1 6 ++ leBytes 2 65535

/-- The body with its sum. -/
def imageBytes : List Byte := imageBody ++ leBytes 2 (imageSum imageBody)

/-- The same bytes as the Loader reads them. -/
def imageVector : Vector Byte 64 := Vector.ofFn fun i => imageBytes.getD i.val 0

/-- The same with a frame count out of range and its sum made good. -/
def imageOutOfRange : Vector Byte 64 :=
  Vector.ofFn fun i => (imageBody.set 4 51 ++ leBytes 2 (imageSum (imageBody.set 4 51))).getD i.val 0

theorem witness_StepTakesTheFrontCommand :
    ({ ready with pending := [.busOff, .reset] } : State).pending = .busOff :: [.reset] ∧ State.reset.pending = [] := by
  decide
theorem witness_ResetAndReleaseSetTheState : State.reset.loader = .held ∧ ready.loader ≠ .held := by decide
theorem witness_ConfigurationReadReports_good :
    ({ State.reset with loader := .reading } : State).loader = .reading ∧ natAt imageVector.toList 0 1 = 166
      ∧ natAt imageVector.toList 62 2 = ((imageVector.toList.take 62).map BitVec.toNat).sum % 65536
      ∧ imageInRange imageVector.toList = true := by decide +kernel
theorem witness_ConfigurationReadReports_unreadable : natAt (imageVector.set 0 0).toList 0 1 ≠ 166 := by decide +kernel
theorem witness_ConfigurationReadReports_sum :
    natAt (imageVector.set 63 255).toList 0 1 = 166
      ∧ natAt (imageVector.set 63 255).toList 62 2
        ≠ (((imageVector.set 63 255).toList.take 62).map BitVec.toNat).sum % 65536 := by decide +kernel
theorem witness_ConfigurationReadReports_range :
    natAt imageOutOfRange.toList 0 1 = 166 ∧ imageInRange imageOutOfRange.toList = false := by decide +kernel

/-- A state with the link changed. -/
def linked (s : State) (l : Link) : State := { s with link := l }

theorem witness_LinkPeriodsEnd_listen :
    let s := linked { ready with engine := .starting } { Link.reset with listen := ⟨true, 250⟩ }
    s.link.state = .listening ∧ s.link.listen.running = true ∧ 250 ≤ s.link.listen.ms
      ∧ (s.engine = .starting ∨ s.engine = .ready) := by decide
theorem witness_LinkPeriodsEnd_lost :
    let s := linked ready { Link.reset with state := .lost, lostTimer := 1000 }
    s.link.state = .lost ∧ 1000 ≤ s.link.lostTimer ∧ s.weldSound = true := by decide +kernel
theorem witness_FrameOffer_demand :
    let s := linked ready { ready.link with demandSlot := some (.standby 20), demandGap := 5 }
    s.link.state = .joined ∧ s.link.onBus = none ∧ s.link.demandSlot = some (.standby 20) ∧ 5 ≤ s.link.demandGap := by
  decide
theorem witness_FrameOffer_none : ready.link.state = .joined ∧ ready.link.onBus = none ∧ ready.link.ready = none := by
  decide
theorem witness_FrameOffer_status :
    let s := linked ready { ready.link with
      demandSlot := some (.standby 20), demandGap := 4, statusSlot := some ⟨[[194], [1]], 1⟩ }
    s.link.state = .joined ∧ s.link.onBus = none ∧ (s.link.demandSlot = none ∨ s.link.demandGap < 5)
      ∧ s.link.statusSlot = some ⟨[[194], [1]], 1⟩ ∧ [[194], [(1 : Byte)]][1]? = some [1] := by decide
theorem witness_FrameOffer_notice :
    let s := linked ready { ready.link with notices := [.noRecord 1] }
    s.link.state = .joined ∧ s.link.onBus = none ∧ (s.link.demandSlot = none ∨ s.link.demandGap < 5)
      ∧ s.link.statusSlot = none ∧ s.link.notices = .noRecord 1 :: []
      ∧ (headFrames (Notice.noRecord 1).bytes)[s.link.noticeNext]? = some [194, 8, 1, 0, 0, 0, 0, 0] := by decide +kernel
theorem witness_FrameOffer_record :
    let s := linked ready { ready.link with recordSlot := some ⟨[[193]], 0⟩, traceSlot := some ⟨[[193]], 0⟩ }
    s.link.state = .joined ∧ s.link.onBus = none ∧ (s.link.demandSlot = none ∨ s.link.demandGap < 5)
      ∧ s.link.statusSlot = none ∧ s.link.notices = [] ∧ (∀ q ∈ s.link.traceSlot, q.next = 0)
      ∧ s.link.recordSlot = some ⟨[[193]], 0⟩ ∧ [[(193 : Byte)]][0]? = some [193] := by decide

theorem witness_FrameOffer_trace_alone :
    let s := linked ready { ready.link with traceSlot := some ⟨[[193]], 0⟩ }
    s.link.state = .joined ∧ s.link.onBus = none ∧ (s.link.demandSlot = none ∨ s.link.demandGap < 5)
      ∧ s.link.statusSlot = none ∧ s.link.notices = [] ∧ s.link.recordSlot = none
      ∧ s.link.traceSlot = some ⟨[[193]], 0⟩ ∧ [[(193 : Byte)]][0]? = some [193] := by decide
theorem witness_FrameOffer_trace_started :
    let s := linked ready { ready.link with recordSlot := some ⟨[[193]], 0⟩, traceSlot := some ⟨[[194], [1]], 1⟩ }
    s.link.state = .joined ∧ s.link.onBus = none ∧ (s.link.demandSlot = none ∨ s.link.demandGap < 5)
      ∧ s.link.statusSlot = none ∧ s.link.notices = [] ∧ 0 < 1 ∧ (∀ q ∈ s.link.recordSlot, q.next = 0)
      ∧ s.link.traceSlot = some ⟨[[194], [1]], 1⟩ ∧ [[194], [(1 : Byte)]][1]? = some [1] := by decide

/-- A link with an own frame on the bus. -/
def sending (k : TxKind) (stale : Bool) : Link := { ready.link with onBus := some ⟨k, 0, [], stale⟩ }

theorem witness_FrameAcknowledged_stale :
    (linked ready (sending .demand true)).link.onBus = some ⟨.demand, 0, [], true⟩ := by decide
theorem witness_FrameAcknowledged_demand :
    (linked ready (sending .demand false)).link.onBus = some ⟨.demand, 0, [], false⟩ := by decide
theorem witness_FrameAcknowledged_status :
    let s := linked ready { sending .headStatus false with statusSlot := some ⟨[[193]], 0⟩ }
    s.link.onBus = some ⟨.headStatus, 0, [], false⟩ ∧ s.link.statusSlot = some ⟨[[193]], 0⟩ := by decide
theorem witness_FrameAcknowledged_notice :
    let s := linked ready { sending .notice false with notices := [.noRecord 1], noticeNext := 1 }
    s.link.onBus = some ⟨.notice, 0, [], false⟩ ∧ s.link.notices = .noRecord 1 :: []
      ∧ s.link.noticeNext + 1 = (headFrames (Notice.noRecord 1).bytes).length := by decide +kernel
theorem witness_FrameAcknowledged_record :
    let s := linked ready { sending .recordData false with recordSlot := some ⟨[[193]], 0⟩ }
    s.link.onBus = some ⟨.recordData, 0, [], false⟩ ∧ s.link.recordSlot = some ⟨[[193]], 0⟩
      ∧ s.records.waiting = none := by decide
/-- Bank 1 of weld 1 with one closed block. -/
def bank1 (capturing : Bool) : Bank :=
  { Bank.empty with owner := some 1, capturing := capturing, blocks := [⟨0, true, none, 0, 0, [⟨0, 0, 0, 0⟩]⟩] }

/-- A TRACE BLOCK run at its last frame, with a stream of weld 1 at this block. -/
def tracing (index : Nat) (follow capturing : Bool) (waiting : Option TraceQuery) (gone : Bool) : State :=
  { linked ready { sending .traceBlock false with traceSlot := some ⟨[[193]], 0⟩ } with
    trace := { TraceStore.reset with
      bank1 := bank1 capturing, readout := .sending, stream := some ⟨1, true, index, follow, 0⟩, waiting := waiting
      gonePending := gone } }

/-- What every state of these clauses has. -/
theorem witness_FrameAcknowledged_trace (index : Nat) (follow capturing : Bool) (w : Option TraceQuery) (gone : Bool) :
    let s := tracing index follow capturing w gone
    s.link.onBus = some ⟨.traceBlock, 0, [], false⟩ ∧ s.link.traceSlot = some ⟨[[193]], 0⟩
      ∧ 0 + 1 = ([[193]] : List (List Byte)).length ∧ s.trace.stream = some ⟨1, true, index, follow, 0⟩
      ∧ s.trace.gonePending = gone ∧ s.trace.waiting = w := ⟨rfl, rfl, rfl, rfl, rfl, rfl⟩
theorem witness_FrameAcknowledged_trace_goes_on :
    let s := linked ready { sending .traceBlock false with traceSlot := some ⟨[[194], [1]], 0⟩ }
    s.link.onBus = some ⟨.traceBlock, 0, [], false⟩ ∧ s.link.traceSlot = some ⟨[[194], [1]], 0⟩
      ∧ 0 + 1 < ([[194], [(1 : Byte)]] : List (List Byte)).length := by decide
theorem witness_FrameAcknowledged_trace_follows :
    let s : State := { tracing 0 true false none false with
      trace := { (tracing 0 true false none false).trace with
        bank1 := { bank1 false with blocks := (bank1 false).blocks ++ (bank1 false).blocks } } }
    s.trace.stream = some ⟨1, true, 0, true, 0⟩ ∧ 0 + 1 < (s.trace.bank true).blocks.length := by decide
theorem witness_FrameAcknowledged_trace_pauses :
    let s := tracing 0 true true none false
    0 + 1 = (s.trace.bank true).blocks.length ∧ (s.trace.bank true).capturing = true := by decide
theorem witness_FrameAcknowledged_trace_ends :
    let s := tracing 0 true false none false
    let u := tracing 1 true true none false
    (s.trace.bank true).blocks.length ≤ 0 + 1 ∧ (s.trace.bank true).capturing = false
      ∧ (u.trace.bank true).blocks.length ≤ 1 + 1 ∧ (u.trace.bank true).blocks.length < 1 + 1 := by decide
theorem witness_FrameAcknowledged_trace_gone :
    let s := tracing 0 true false none true
    s.trace.gonePending = true ∧ s.trace.waiting = none ∧ s.link.notices.length < 8 := by decide
theorem witness_FrameAcknowledged_trace_waiting :
    let q : TraceQuery := { serial := 1, index := 0, offset := 0, follow := false }
    let s := tracing 0 true false (some q) false
    s.trace.gonePending = false ∧ s.trace.waiting = some q ∧ q.serial ≠ 0
      ∧ (s.trace.bank (bankOf q.serial)).owner = some q.serial
      ∧ q.index < (s.trace.bank (bankOf q.serial)).blocks.length
      ∧ (s.trace.bank (bankOf 2)).owner ≠ some 2 ∧ s.link.notices.length < 8 := by decide
theorem witness_LinkIsLost_fails :
    let s := linked ready { sending .demand false with failed := 14 }
    s.link.state = .joined ∧ s.link.onBus = some ⟨.demand, 0, [], false⟩ ∧ s.link.failed + 1 < 16 := by decide
theorem witness_LinkIsLost_duplicate :
    let s := linked ready Link.reset
    s.link.state = .listening ∧ s.receives = true := by decide
theorem witness_LinkIsLost_lost : (linked ready { Link.reset with state := .lost }).link.state = .lost := by decide
theorem witness_LinkIsLost_sixteenth :
    let s := linked (weld .hold 7 id) { sending .demand false with failed := 15 }
    s.link.state = .joined ∧ s.receives = true ∧ s.link.onBus = some ⟨.demand, 0, [], false⟩ ∧ s.link.failed = 15
      ∧ s.engine = .hold ∧ s.ctx = some (ctx 7) := by decide +kernel
theorem witness_LinkIsLost_ready : ready.link.state = .joined ∧ ready.engine = .ready := by decide

/-- The first frame of a two-frame run to station 3. -/
def twoFrameRun : List Byte := 194 :: 3 :: [9]

theorem witness_WeldRequestRun_first :
    ready.receives = true ∧ (1 : Station) ≠ ready.station ∧ (3 : Byte).toNat = ready.station.val := by decide
theorem witness_WeldRequestRun_later :
    let s := linked ready { ready.link with weldRuns := [⟨1, 2, 1, [9], 100, false⟩] }
    s.receives = true ∧ (1 : Station) ≠ s.station ∧ s.link.weldRuns = [⟨1, 2, 1, [9], 100, false⟩]
      ∧ (⟨1, 2, 1, [9], 100, false⟩ : Assembly) ∈ s.link.weldRuns ∧ (1 : Station).val = 1 ∧ 100 ≤ 100 := by decide
theorem witness_WeldRequestRun_listening :
    let s := fun e => { linked ready { ready.link with state := .listening } with engine := e }
    (s .ready).receives = true ∧ (s .ready).link.state = .listening ∧ (s .clamping).engine ≠ .ready
      ∧ (s .clamping).engine ≠ .faultHold ∧ (s .ready).nextSerial ≤ Config.serialMax ∧ (s .faultHold).engine = .faultHold
      ∧ Config.serialMax < ({ s .ready with nextSerial := 4294967296 } : State).nextSerial := by decide
theorem witness_WeldRequestRun_frames :
    (227 % 16 = (3 : Station).val) ∧ 17 % 16 ≠ (3 : Station).val ∧ 223 < 225 ∧ 1 < 16 ∧ (1 : Station) ≠ 3
      ∧ 65 = 64 + (1 : Station).val ∧ 192 ≤ natAt [192] 0 1 ∧ natAt [191] 0 1 < 192 := by decide
/-- One identifier of sender 1 for each kind. -/
theorem witness_WeldRequestRun_kinds :
    [16, 32, 48, 64, 80, 128, 144, 160, 192, 96, 112, 176, 208].map (fun k => decide (k + 1 = k + (1 : Station).val))
      = List.replicate 13 true := by decide
theorem witness_ProgrammeBuffer_free : ready.receives = true ∧ (1 : Station) ≠ ready.station
    ∧ (3 : Byte).toNat = ready.station.val ∧ ready.link.progRun = none := by decide
/-- Byte 0 of runs of 1, 2 and 48 frames, and the lengths 0 and 49 that no run has. -/
theorem witness_ProgrammeBuffer_lengths :
    (193 : Byte).toNat = 192 + 1 ∧ (194 : Byte).toNat = 192 + 2 ∧ (240 : Byte).toNat = 192 + 48 ∧ (192 : Byte).toNat < 193
      ∧ 240 < (241 : Byte).toNat := by decide
/-- Frames 1 and 46 of a run of 48 at the index next expected, one out of place, and the last frame. -/
theorem witness_ProgrammeBuffer_middle :
    let at' (got : Nat) := linked ready { ready.link with progRun := some ⟨1, 48, got, [9], 0, false⟩ }
    (at' 1).link.progRun = some ⟨1, 48, 1, [9], 0, false⟩ ∧ (1 : Station).val = 1 ∧ (1 : Byte).toNat < 192
      ∧ (1 : Byte).toNat % 64 = 1 ∧ 1 + 1 < 48 ∧ (46 : Byte).toNat % 64 = 46 ∧ 46 + 1 < 48 ∧ (2 : Byte).toNat % 64 ≠ 1
      ∧ (at' 47).link.progRun = some ⟨1, 48, 47, [9], 0, false⟩ ∧ (47 : Byte).toNat % 64 = 47 ∧ 48 ≤ 47 + 1 := by decide
theorem witness_ProgrammeBuffer_taken :
    let s := linked ready { ready.link with progRun := some ⟨2, 2, 1, [9], 100, false⟩ }
    s.receives = true ∧ (1 : Station) ≠ s.station ∧ s.link.progRun = some ⟨2, 2, 1, [9], 100, false⟩ ∧ 2 ≠ (1 : Station).val
      ∧ s.link.state = .joined ∧ 100 ≤ 100 := by decide
theorem witness_ProgrammeBuffer_own :
    (linked ready { ready.link with progRun := some ⟨1, 2, 1, [9], 0, false⟩ }).link.progRun = some ⟨1, 2, 1, [9], 0, false⟩
      ∧ (1 : Station).val = 1 := by decide
theorem witness_ProgrammeBuffer_elsewhere :
    (2 : Byte).toNat ≠ ready.station.val
      ∧ (linked ready { ready.link with progRun := some ⟨1, 2, 1, [9], 0, true⟩ }).link.progRun
        = some ⟨1, 2, 1, [9], 0, true⟩ := by decide

theorem witness_Rating :
    ready.receives = true ∧ (1 : Station) ≠ ready.station ∧ ready.engine ≠ .configFault
      ∧ (1 : Station).val = ready.image.generator ∧ 3 ≤ (leBytes 2 4001 ++ [(3 : Byte)]).length
      ∧ (2 : Station) ≠ ready.station ∧ (2 : Station).val ≠ ready.image.generator ∧ ready.weldSound = true := by
  decide +kernel
/-- A budget that falls to 360 makes the head of 420 kW yield, and one of 450 lets it go on. -/
theorem witness_Rating_lowers_the_budget :
    let s := { weld .flash 3 id with
      share := { Share.reset with rating := some 1000, genState := some .running, source := .generator } }
    s.engine = .flash ∧ s.ctx = some (ctx 3) ∧ (ctx 3).flash?.isSome = true ∧ s.share.rise.ask = none
      ∧ s.highestRise = none ∧ 0 < s.reduction ∧ genStateOf (natAt (leBytes 2 400 ++ [(0 : Byte)]) 2 1) ≠ .stopping
      ∧ 400 * (100 - s.image.reserve) / 100 < s.budget ∧ s.rBelow 1 none = 0
      ∧ 400 * (100 - s.image.reserve) / 100 < s.presentLoad ∧ s.presentLoad ≤ 500 * (100 - s.image.reserve) / 100 := by
  decide +kernel

/-- A DEMAND of a rise of class 0 to 4,000 kW. -/
def demandOf4000 : List Byte := [0x30, 1] ++ leBytes 2 4000 ++ leBytes 2 4000 ++ leBytes 2 0

theorem witness_DemandEntersTheTable :
    ready.receives = true ∧ (1 : Station) ≠ ready.station ∧ ready.engine ≠ .configFault ∧ 8 ≤ demandOf4000.length
      ∧ risingStations ready.share.peers = true ∧ ready.weldSound = true := by decide +kernel

/-- The own rise of class 2 in SETTLING. -/
def asking (state : RiseState) (a : Ask) (settle wait : Nat) : Share :=
  { Share.reset with rise := ⟨state, some a, ⟨true, settle⟩, ⟨true, wait⟩⟩ }

theorem witness_DemandOfAHigherRise_withdraws :
    let s := { weld .admitting 0 id with share := asking .settling ⟨.sequencer, 380, 2⟩ 0 0 }
    s.receives = true ∧ (1 : Station) ≠ s.station ∧ 8 ≤ demandOf4000.length ∧ s.share.peers = [] ∧ s.yielded = false
      ∧ s.ctx = some (ctx 0) ∧ s.engine = .admitting ∧ s.share.rise.state = .settling
      ∧ s.share.rise.ask = some ⟨.sequencer, 380, 2⟩ ∧ s.share.admitted = none
      ∧ ((Peer.ofDemand 1 demandOf4000).rise.elim false fun k => outranks k 1 2 s.station.val) = true := by
  decide +kernel
theorem witness_DemandOfAHigherRise_yields :
    let s := weld .flash 3 id
    s.yielded = false ∧ s.engine = .flash ∧ (ctx 3).flash?.isSome = true ∧ (ctx 3).lists .yield = true
      ∧ s.share.rise.ask = none ∧ s.share.rise.state = .none ∧ s.reduction ≠ 0 ∧ (Peer.ofDemand 1 demandOf4000).rise = some 0
      ∧ s.budget < (Peer.ofDemand 1 demandOf4000).claim + s.presentLoad ∧ s.share.hold = none := by decide +kernel
theorem witness_DemandValuesAreClamped :
    natAt demandOf4000 1 1 ≠ 0 ∧ natAt demandOf4000 0 1 % 16 = 0 ∧ natAt demandOf4000 0 1 / 16 = 3
      ∧ natAt [0x12, 0] 1 1 = 0 ∧ natAt [0x12, 0] 0 1 % 16 ≠ 0 ∧ natAt [0x12, 0] 0 1 / 16 = 1
      ∧ natAt [0x20] 0 1 / 16 = 2 ∧ natAt [0x40] 0 1 / 16 > 3 ∧ natAt [0x00] 0 1 / 16 = 0 := by decide

theorem witness_RisesAreRanked :
    let p := { Peer.ofDemand 1 demandOf4000 with rise := some 1 }
    p.live = true ∧ p.rise.isSome = true ∧ p.station ≠ 2 ∧ p.above 1 2 = true ∧ p.above 1 0 = false ∧ p.above 0 2 = false
      ∧ ({ p with live := false } : Peer).live = false ∧ ({ p with rise := none } : Peer).rise = none
      ∧ p.ranksAbove { p with station := 2 } = true := by decide
theorem witness_Abort :
    ∀ e ∈ [Engine.boost, .hold, .flash],
      let s := weld e 3 id
      s.receives = true ∧ (1 : Station) ≠ s.station ∧ s.link.state = .joined ∧ (3 : Byte).toNat = s.station.val
        ∧ (2 : Byte).toNat ≠ s.station.val ∧ s.ctx = some (ctx 3) ∧ (ctx 3).ending = none
        ∧ (ctx 3).abortTarget = none ∧ s.engine = e := by decide +kernel

theorem witness_Abort_ignored :
    ready.engine = .ready ∧ ready.receives = true ∧ (1 : Station) ≠ ready.station ∧ ready.link.state = .joined
      ∧ (3 : Byte).toNat = ready.station.val := by decide

/-- A WELD REQUEST of 20 m from 5.0 to 27.0 degrees on slot 2, with a gap of 40 mm. -/
def request : List Byte := leBytes 2 41 ++ leBytes 1 2 ++ leBytes 2 50 ++ leBytes 2 270 ++ leBytes 2 20 ++ leBytes 4 40000

/-- The head ready for it. -/
def requested : State :=
  level (linked ready { ready.link with weldReady := [⟨request, none⟩] }) .pressOk true

theorem witness_WeldRequestIsAccepted :
    requested.link.weldReady = ⟨request, none⟩ :: []
      ∧ Request.parse request = some ⟨41, 2, ⟨50, 270, 20, 40000⟩⟩
      ∧ requested.checkRequest ⟨41, 2, ⟨50, 270, 20, 40000⟩⟩ = none ∧ requested.slot 2 = some prog1207
      ∧ requested.bothClosed = false := by decide +kernel
theorem witness_WeldRequestIsRefused :
    let s := { requested with meas := { requested.meas with homed := false } }
    s.link.weldReady = ⟨request, none⟩ :: [] ∧ Request.parse request = some ⟨41, 2, ⟨50, 270, 20, 40000⟩⟩
      ∧ s.checkRequest ⟨41, 2, ⟨50, 270, 20, 40000⟩⟩ = some .notHomed ∧ s.link.notices.length < 8 := by decide +kernel
/-- A request on slot 2 with its gap and temperatures. -/
def asked (tr tn : Int) (l : Nat) (g : Int) : Request := ⟨41, 2, ⟨tr, tn, l, g⟩⟩
/-- R3: each check in its order, on states and requests that pass the ones before it; G and T_r at the edges of their ranges. -/
theorem witness_WeldRequestIsRefused_checks :
    ({ requested with nextSerial := 4294967296 }).checkRequest (asked 50 270 20 40000) = some .busy
      ∧ ({ requested with engine := .hold }).checkRequest (asked 50 270 20 40000) = some .busy
      ∧ ({ requested with engine := .faultHold }).checkRequest (asked 50 270 20 40000) = some .faultHold
      ∧ (linked requested { requested.link with state := .lost }).checkRequest (asked 50 270 20 40000) = some .isolated
      ∧ ({ requested with meas := { requested.meas with homed := false } }).checkRequest (asked 50 270 20 40000)
        = some .notHomed := by decide +kernel
theorem witness_WeldRequestIsRefused_slots :
    [0, 1, 5].map (fun n => requested.checkRequest { asked 50 270 20 40000 with slot := n })
      = List.replicate 3 (some .noProgramme) ∧ requested.slots.toList[1]? = some (some prog1207) := by decide +kernel
theorem witness_WeldRequestIsRefused_data :
    requested.checkRequest (asked (-401) 270 20 40000) = some .badRequest
      ∧ requested.checkRequest (asked (-400) 700 1 40000) = none
      ∧ requested.checkRequest (asked 50 701 20 40000) = some .badRequest
      ∧ requested.checkRequest (asked 50 270 1201 40000) = some .badRequest
      ∧ requested.checkRequest (asked 50 270 20 0) = some .badRequest
      ∧ (level requested .trainMove true).checkRequest (asked 50 270 20 40000) = some .interlock
      ∧ (level requested .pressOk false).checkRequest (asked 50 270 20 40000) = some .interlock
      ∧ ({ requested with meas := { requested.meas with fm := 12601 } }).checkRequest (asked 50 270 20 40000)
        = some .interlock
      ∧ ({ requested with meas := { requested.meas with fm := 12600 } }).checkRequest (asked 50 270 20 40000) = none := by
  decide +kernel
/-- R46 to R48: programme 1207 without its PULL; and 150,000 of travel, met and passed by 1, of which it needs 25,000. -/
theorem witness_WeldRequestIsRefused_programme :
    let p := { prog1207 with records := prog1207.records.eraseIdx 1 }
    let s := { requested with slots := setSlot requested.slots 2 (some p) }
    s.checkRequest (asked 50 270 20 40000) = some .pullMissing ∧ s.checkRequest (asked 50 50 20 40000) = none
      ∧ requested.checkRequest (asked 50 270 20 7059) = some .gapShort
      ∧ requested.checkRequest (asked 50 270 20 125000) = none
      ∧ requested.checkRequest (asked 50 270 20 125001) = some .travel := by decide +kernel
/-- The run completed while the head listened in STARTING, and the listen period that has run out since then. -/
def listening : State :=
  { requested with engine := .starting, link := { requested.link with
      state := .listening, listen := ⟨true, Config.listenMs⟩, weldRuns := [⟨1, 2, 1, request.take 6, 0, false⟩]
      weldReady := [] } }
/-- R183: the join that falls due before the Sequencer takes the run does not let it through. -/
theorem test_run_of_LISTENING_is_refused :
    after (.runLaterFrame .weldRequest 1 (1#8 :: request.drop 6)) listening
      (fun t => (t.link.weldReady, t.dueLink.link.state, t.dueLink.engine, t.dueLink.link.notices))
      = some ([⟨request, some .busy⟩], .joined, .ready, [.refused 41 1]) := by decide +kernel
theorem witness_WeldRequestIsRefused_of_LISTENING :
    let s := { requested with link := { requested.link with weldReady := [⟨request, some .isolated⟩] } }
    s.link.weldReady = ⟨request, some .isolated⟩ :: [] ∧ Request.parse request = some ⟨41, 2, ⟨50, 270, 20, 40000⟩⟩
      ∧ s.checkRequest ⟨41, 2, ⟨50, 270, 20, 40000⟩⟩ = none ∧ s.link.notices.length < 8 := by decide +kernel
theorem witness_GapShortIsRefused_request :
    let d : RequestData := ⟨50, 270, 20, 7059⟩
    requested.slot 2 = some prog1207 ∧ requested.engine = .ready ∧ requested.nextSerial ≤ Config.serialMax
      ∧ requested.link.state = .joined ∧ requested.meas.homed = true ∧ d.bad = false ∧ requested.interlocked = false
      ∧ d.g - (d.pReq : Int) < requested.image.clearanceMin ∧ requested.checkRequest ⟨41, 2, d⟩ = some .gapShort := by
  decide +kernel
theorem witness_GapShortIsRefused :
    let d : RequestData := ⟨50, 270, 20, 7060⟩
    prog1207.has .pull = true ∧ d.tr < d.tn ∧ (d.pReq : Int) = 5060 ∧ ready.image.clearanceMin ≤ d.g - (d.pReq : Int)
      ∧ (7059 : Int) - (d.pReq : Int) < ready.image.clearanceMin := by decide
theorem witness_ClearEntersReleasing :
    let s := weld .faultHold 7 fun c => { c with phase := none }
    s.receives = true ∧ (1 : Station) ≠ s.station ∧ s.link.state = .joined ∧ (3 : Byte).toNat = s.station.val
      ∧ s.engine = .faultHold ∧ s.level .emergency = false ∧ s.level .trainMove = false ∧ s.level .contFb = false
      ∧ prog1207.find .release = some 9 ∧ s.out.force ≠ 0 := by decide +kernel
theorem witness_ClearIsIgnored :
    (level (weld .faultHold 7 id) .emergency true).level .emergency = true ∧ ready.engine ≠ .faultHold := by decide
theorem witness_ProgrammeIsStored :
    let s := linked ready { ready.link with progReady := [runOf (payload1207 18000)] }
    s.link.progReady = runOf (payload1207 18000) :: [] ∧ s.link.notices.length < 8
      ∧ s.validate (runOf (payload1207 18000)) = .stored prog1207 := by decide +kernel
theorem witness_ProgrammeIsEmptied :
    ready.validate ⟨1, [4, 0, 0, 0]⟩ = .empty ∧ ready.validate ⟨1, [5, 0, 0, 0]⟩ = .refused .slot
      ∧ ready.engine ≠ .configFault ∧ natAt [4, 0, 0, 0] 0 1 = 4 ∧ natAt [4, 0, 0, 0] 1 2 = 0 ∧ (2 : Nat) ≠ 1 := by decide
theorem witness_ProgrammeIsEmptied_in_two_frames :
    let s := linked ready { ready.link with progReady := [⟨2, [4, 0, 0, 0]⟩] }
    s.link.progReady = ⟨2, [4, 0, 0, 0]⟩ :: [] ∧ s.link.notices.length < 8 ∧ s.engine ≠ .configFault
      ∧ ([4, 0, 0, 0] : List Byte).length = 4 := by decide
/-- R38: each check on the run of section 2.7, spoilt so that it passes the checks before. -/
theorem witness_ProgrammeChecks_format :
    ({ ready with engine := .configFault }).validate (runOf (payload1207 18000)) = .refused .noConfig
      ∧ ready.validate (runOf ((payload1207 18000).set 0 5)) = .refused .slot
      ∧ ready.validate (runOf [2, 1, 0]) = .refused .format ∧ ready.validate (runOf [2, 0, 0, 0, 0]) = .refused .format
      ∧ ready.validate (runOf ((payload1207 18000).take 41)) = .refused .format
      ∧ ready.validate (runOf ((payload1207 18000).take 168)) = .refused .format
      ∧ ready.validate ⟨24, payload1207 18000⟩ = .refused .format := by decide +kernel
theorem witness_ProgrammeChecks_order :
    ready.validate (runOf [2, 1, 0, 0]) = .refused (.order none)
      ∧ ready.validate (runOf (header1207 ++ records1207)) = .refused (.order none)
      ∧ ready.validate (runOf ((payload1207 18000).set 3 11)) = .refused (.order none)
      ∧ ready.validate (runOf ((payload1207 18000).set 42 10)) = .refused (.order none)
      ∧ ready.validate (runOf (header1207 ++ (payload1207 18000).drop 45)) = .refused (.order (some 0))
      ∧ mayStand [] = true ∧ mayStand [.pull] = false ∧ isOrder (prog1207.records.map fun r => r.body.kind) = true := by
  decide +kernel
theorem witness_ProgrammeChecks_fields :
    ready.validate (runOf ((payload1207 18000).set 4 0)) = .refused (.range none)
      ∧ ready.validate (runOf ((payload1207 18000).set 10 255)) = .refused .window
      ∧ ready.validate (runOf ((payload1207 18000).set 44 0)) = .refused (.range (some 0))
      ∧ prog1207.headerFits = true ∧ prog1207.windows.boundsOrdered = true
      ∧ (prog1207.records.all fun r => r.body.fits (decide (prog1207.find .flash = some (prog1207.records.idxOf r))))
      ∧ (prog1207.records.all fun r => r.body.withinLimits image) := by decide +kernel
theorem witness_CaptureClear :
    ready.receives = true ∧ (1 : Station) ≠ ready.station ∧ ready.link.state = .joined
      ∧ (3 : Byte).toNat = ready.station.val ∧ (2 : Byte).toNat ≠ ready.station.val := by decide
theorem witness_CaptureClear_set_flag_stays :
    let s := { ready with meas := { ready.meas with capture := ready.meas.capture.set .emergency true } }
    s.meas.capture.get .emergency = true ∧ Instr.listenPeriodEnd ≠ .reset
      ∧ (∀ n d, Instr.listenPeriodEnd ≠ .captureClear n d) := by
  refine ⟨by decide, by decide, fun n d => by simp⟩

/-- A record of a weld. -/
def record : WeldRecord := (ctx 9).record .aborted ⟨true, 0, false⟩

theorem witness_RecordQuery_idle :
    ready.receives = true ∧ (1 : Station) ≠ ready.station ∧ ready.link.state = .joined
      ∧ 5 ≤ ((3 : Byte) :: leBytes 4 0).length ∧ natAt (3 :: leBytes 4 0) 0 1 = ready.station.val
      ∧ ready.records.sending = none ∧ natAt (3 :: leBytes 4 0) 1 4 = 0 ∧ ready.records.find 0 = none
      ∧ ready.link.notices.length < 8 := by decide
theorem witness_RecordQuery_found :
    let s := { ready with records := { RecordStore.reset with list := [record] } }
    s.records.sending = none ∧ s.records.find 0 = some record := by decide +kernel
theorem witness_RecordQuery_sending :
    ({ ready with records := { RecordStore.reset with sending := some record } } : State).records.sending.isSome
      = true := by decide

/-- A TRACE QUERY of weld 1. -/
def traceQuery (index : Nat) : List Byte := 3 :: (leBytes 4 1 ++ leBytes 2 index ++ [32])

theorem witness_TraceQuery_closed :
    let s := { ready with trace := { TraceStore.reset with bank1 := bank1 false } }
    s.receives = true ∧ (1 : Station) ≠ s.station ∧ s.link.state = .joined ∧ 8 ≤ (traceQuery 0).length
      ∧ natAt (traceQuery 0) 0 1 = s.station.val ∧ s.trace.readout ≠ .sending ∧ natAt (traceQuery 0) 1 4 = 1
      ∧ (s.trace.bank (bankOf 1)).owner = some 1 ∧ natAt (traceQuery 0) 5 2 < (s.trace.bank (bankOf 1)).blocks.length := by
  decide +kernel
theorem witness_TraceQuery_not_yet :
    let s := { ready with trace := { TraceStore.reset with bank1 := bank1 true } }
    (s.trace.bank (bankOf 1)).owner = some 1 ∧ (s.trace.bank (bankOf 1)).blocks.length ≤ natAt (traceQuery 1) 5 2
      ∧ (s.trace.bank (bankOf 1)).capturing = true ∧ s.link.notices.length < 8 := by decide +kernel
theorem witness_TraceQuery_gone :
    natAt (traceQuery 0) 1 4 ≠ 0 ∧ (ready.trace.bank (bankOf 1)).owner ≠ some 1 ∧ ready.link.notices.length < 8 := by
  decide +kernel
theorem witness_TraceQuery_sending :
    ({ ready with trace := { TraceStore.reset with readout := .sending } } : State).trace.readout = .sending := by decide
theorem witness_FetchCompletion :
    let s := { ready with trace := { TraceStore.reset with
      bank1 := bank1 false, readout := .fetching, stream := some ⟨1, true, 0, false, 0⟩ } }
    s.trace.readout = .fetching ∧ s.trace.stream = some ⟨1, true, 0, false, 0⟩
      ∧ (s.trace.bank true).blocks[0]?.isSome = true := by decide +kernel

theorem witness_RegulationInterval :
    ready.loader = .good ∧ ready.engine = .ready ∧ ready.takeDue = ready := by decide +kernel
theorem witness_RegulationInterval_with_something_due :
    let s := { ready with meas := { ready.meas with sampleIntervals := 5 } }
    s.loader = .good ∧ s.takeDue ≠ s ∧ s.takeDue.engine = .ready := by decide +kernel
theorem witness_RegulationInterval_in_a_weld :
    let s := { weld .flash 3 id with mode := .regulating }
    s.loader = .good ∧ s.ctx = some (ctx 3) ∧ s.takeDue = s := by decide +kernel
theorem witness_PhaseUnits_pull :
    let c := { ctx 1 with pullStart := some 0, pReq := 506 }
    ((weld .pulling 1 fun _ => c).meas.position - c.pullStart.getD 0).toNat < c.pReq ∧ c.pull?.isSome = true := by
  decide +kernel
theorem witness_PhaseUnits_pull_met :
    let c := { ctx 1 with pullStart := some (-506), pReq := 506 }
    c.pReq ≤ ((weld .pulling 1 fun _ => c).meas.position - c.pullStart.getD 0).toNat ∧ c.pull?.isSome = true := by
  decide +kernel
/-- The boost length, met and not met by 1. -/
theorem witness_PhaseUnits_boost :
    let c := { ctx 5 with boostEntry := some 12600, contactPos := some 0 }
    c.boost?.isSome = true ∧ (3000 : Int) ≤ max c.burnOff (15600 - 0) - c.boostEntry.getD 0
      ∧ max c.burnOff (15599 - 0) - c.boostEntry.getD 0 < 3000 ∧ c.nextIndex = 6
      ∧ (prog1207.body 6).any (fun b => decide (b.kind = .upset)) = true ∧ 0 < 250 := by decide +kernel
theorem witness_PhaseUnits_upset_met :
    let c := { ctx 6 with upStart := some (-12000) }
    c.upset?.isSome = true ∧ 12000 ≤ c.upsetAdvance (weld .upset 6 id).meas.intervalPos
      ∧ prog1207.body c.nextIndex = some (.hold 900 45) := by decide +kernel
theorem witness_PhaseUnits_ramp :
    let s := { weld .releasing 9 id with stress := { Stress.reset with release := some .ramping, rampStart := some 9000 } }
    s.engine = .releasing ∧ s.stress.release = some .ramping ∧ s.stress.rampStart = some 9000 := by decide
theorem witness_PhaseUnits_approach :
    let c := { ctx 2 with sub := some .approach }
    c.abortTarget = none ∧ c.preheat?.isSome = true ∧ c.sub = some .approach ∧ (weld .preheat 2 id).engine = .preheat
      ∧ (weld .preheat 2 id).meas.im < image.iContact
      ∧ image.iContact ≤ ({ weld .preheat 2 id with meas := { ready.meas with im := 300 } } : State).meas.im := by
  decide +kernel
theorem witness_PhaseUnits_abort :
    let s := weld .flash 3 fun c => { c with abortTarget := some 0 }
    s.engine = .flash ∧ s.meas.intervalPos ≤ 0 ∧ s.wireForce ≠ 0
      ∧ (-1 : Int) < s.meas.intervalPos := by decide
theorem witness_PhaseUnits_upset :
    let c := { ctx 6 with upStart := some 0 }
    c.upset?.isSome = true ∧ c.upsetAdvance (weld .upset 6 id).meas.intervalPos < 12000 := by decide +kernel
theorem witness_SampleIsCaptured :
    let s := { weld .flash 3 id with
      meas := { ready.meas with sampleIntervals := 5 }
      trace := { TraceStore.reset with
        bank1 := { bank1 true with filling := some ⟨1, true, none, 0, 0, List.replicate 30 ⟨0, 0, 0, 0⟩⟩ } } }
    5 ≤ s.meas.sampleIntervals ∧ s.engine.fine = true ∧ bankOf (ctx 3).serial = true
      ∧ (s.trace.bank true).capturing = true ∧ (s.trace.bank true).filling.isSome = true := by decide +kernel
/-- The other blocks a sample finds: none open, one of 31 samples, one of the other period, and the last of the bank. -/
theorem witness_SampleIsCaptured_blocks :
    let s := { weld .hold 7 id with meas := { ready.meas with sampleIntervals := 5, sampleNo := 9 } }
    let b : Block := ⟨0, false, none, 0, 0, List.replicate 31 ⟨0, 0, 0, 0⟩⟩
    let last : Bank := { bank1 true with blocks := List.replicate 575 b }
    s.engine ∈ [Engine.clamping, .pulling, .admitting, .hold, .trim, .releasing] ∧ s.meas.sampleNo = 9
      ∧ ({ bank1 true with filling := none } : Bank).capturing = true ∧ b.fine = s.engine.fine ∧ 31 ≤ b.samples.length
      ∧ ({ b with fine := true } : Block).fine ≠ s.engine.fine ∧ (bank1 true).blocks.length < 575
      ∧ last.capturing = true ∧ 575 ≤ last.blocks.length ∧ ready.meas.sampleNo ≠ 9 := by decide +kernel
theorem witness_SpeedLaw :
    let s := { weld .flash 3 id with mode := .regulating }
    s.engine = .flash ∧ s.mode = .regulating ∧ (ctx 3).flash?.isSome = true ∧ (ctx 3).contactPending = false
      ∧ (ctx 3).abortTarget = none ∧ s.awaiting = false ∧ (ctx 3).burnOff < ((ctx 3).target : Int) := by decide +kernel
/-- Before CONTACT, below the target. -/
theorem witness_SpeedLaw_contact :
    let c := { ctx 3 with contactPending := true }
    let s := { weld .flash 3 (fun _ => c) with mode := .regulating }
    c.flash?.isSome = true ∧ c.contactPending = true ∧ c.abortTarget = none ∧ s.awaiting = false
      ∧ c.burnOff < (c.target : Int) ∧ s.meas.im < s.image.iContact
      ∧ s.image.iContact ≤ ({ s with meas := { s.meas with im := 300 } } : State).meas.im := by decide +kernel
/-- The first FLASH record at its target: 450 kW is above the present 420, and not above a held 450. -/
theorem witness_SpeedLaw_exit :
    let c := { ctx 3 with burnOff := 6000 }
    let s := { weld .flash 3 (fun _ => c) with mode := .regulating }
    c.flash?.isSome = true ∧ c.contactPending = false ∧ c.abortTarget = none ∧ s.awaiting = false ∧ c.exitMet = false
      ∧ (c.target : Int) ≤ c.burnOff ∧ (c.prog.body c.nextIndex).any (fun b => decide (b.kind = .flash)) = true
      ∧ s.presentLoad < 450 ∧ 450 ≤ ({ s with share := { s.share with hold := some 450 } } : State).presentLoad := by
  decide +kernel
/-- The second FLASH record at its target, before BOOST, and before UPSET where the copy has none. -/
theorem witness_SpeedLaw_moves :
    let c := { ctx 4 with burnOff := 10000 }
    let s := { weld .flash 4 (fun _ => c) with mode := .regulating, share := { Share.reset with hold := some 650 } }
    let d := { c with prog := { prog1207 with records := prog1207.records.eraseIdx 5 } }
    c.flash?.isSome = true ∧ (c.target : Int) ≤ c.burnOff ∧ c.prog.classZero ≤ s.presentLoad
      ∧ (c.prog.body c.nextIndex).any (fun b => decide (b.kind = .boost)) = true
      ∧ d.flash?.isSome = true ∧ (d.target : Int) ≤ d.burnOff ∧ d.prog.classZero ≤ s.presentLoad
      ∧ (d.prog.body d.nextIndex).any (fun b => decide (b.kind = .upset)) = true := by decide +kernel
/-- The burn-off at the overrun allowance, and 1 past it. -/
theorem witness_SpeedLaw_waiting :
    let c := { ctx 4 with burnOff := 13000, exitMet := true }
    let s := { weld .flash 4 (fun _ => c) with mode := .regulating, awaiting := true }
    c.flash?.isSome = true ∧ s.awaiting = true ∧ c.exitMet = true
      ∧ c.burnOff ≤ (c.target : Int) + (c.prog.overrun : Int)
      ∧ (c.target : Int) + (c.prog.overrun : Int) < ({ c with burnOff := 13001 } : WeldCtx).burnOff := by decide +kernel
theorem witness_TenMsSample :
    let s := { ready with meas := { ready.meas with sampleIntervals := 5, prevSample := some 1 } }
    5 ≤ s.meas.sampleIntervals ∧ s.meas.homedInSample = false ∧ s.meas.prevSample = some 1 ∧ ready.meas.prevSample = none := by
  decide
theorem witness_PeriodicMessages :
    let s := { ready with statusTimer := 1000, share := { Share.reset with demandTimer := 50 } }
    s.statusPeriod ≤ s.statusTimer ∧ s.link.state = .joined ∧ s.engine ≠ .configFault ∧ 50 ≤ s.share.demandTimer := by
  decide
theorem witness_EncoderCommands :
    ready.loader = .good ∧ (1 : Int) = ready.meas.position + ready.image.resolution
      ∧ ({ ready with meas := Meas.reset } : State).meas.homed = false ∧ ready.meas.homed = true
      ∧ ((9980 : Int) - ready.image.refPosition).natAbs ≤ ready.image.refTolerance ∧ ready.engine = .ready := by decide
theorem witness_EncoderCommands_edge_of_range :
    let s : State := { ready with meas := { ready.meas with position := 2147483646 } }
    s.meas.position + (s.image.resolution : Int) = 2147483647 := by decide
theorem witness_QuadratureError_in_hold :
    let s := weld .hold 7 fun c => { c with upsetBegun := true }
    s.loader = .good ∧ s.engine = .hold ∧ s.meas.positionError = false ∧ (ctx 7).outcome = none := by decide
theorem witness_TenMsSample_homing :
    let s := { ready with meas := { ready.meas with sampleIntervals := 5, homedInSample := true, homedNext := true } }
    5 ≤ s.meas.sampleIntervals ∧ s.meas.homedInSample = true := by decide
theorem witness_InputLevel : (moving ready .pressOk true).inputDue .pressOk = true := by decide
theorem witness_InputLevel_of_any : ∀ i ∈ allInputs, (moving ready i true).inputDue i = true := by decide
/-- CLAMP_F accepted with CLAMP_M asserted, deasserted, and falling in the same interval. -/
theorem witness_InputLevel_clamping :
    let s := level (moving (weld .clamping 0 fun c => { c with pReq := 506 }) .clampF true) .clampM true
    let open' := moving (weld .clamping 0 id) .clampF true
    let falls := moving open' .clampM false
    s.engine = .clamping ∧ (ctx 0).clampDone = false ∧ s.inputDue .clampF = true ∧ s.meas.inputs.clampF.sample = true
      ∧ s.inputDue .clampM = false ∧ s.level .clampM = true
      ∧ (prog1207.body (ctx 0).nextIndex).any (fun b => decide (b.kind = .pull)) = true
      ∧ open'.inputDue .clampM = false ∧ open'.level .clampM = false
      ∧ falls.inputDue .clampF = true ∧ falls.inputDue .clampM = true ∧ falls.meas.inputs.clampM.sample = false := by
  decide +kernel
theorem witness_InputLevel_no_pull :
    let p := { prog1207 with records := (prog1207.records.eraseIdx 1).eraseIdx 1 }
    p.firstCurrent = some 1 ∧ (p.body 1).any (fun b => decide (b.kind = .flash)) = true
      ∧ ({ ctx 0 with prog := p } : WeldCtx).nextIndex = 1 := by decide +kernel
/-- A clamp that falls in HOLD, and two that change together with the condition standing. -/
theorem witness_InputLevel_clamp_lost :
    let c := { ctx 7 with clampDone := true, upsetBegun := true }
    let s := level (moving (weld .hold 7 fun _ => c) .clampM false) .clampF true
    let both := moving (moving { weld .hold 7 (fun _ => c) with meas := { ready.meas with condClamp := true } } .clampM false)
      .clampF true
    s.engine = .hold ∧ c.clampDone = true ∧ c.releasingEntered = false ∧ c.outcome = none ∧ c.upsetBegun = true
      ∧ s.inputDue .clampM = true ∧ s.meas.condClamp = false ∧ s.meas.inputs.clampM.sample = false
      ∧ both.meas.condClamp = true ∧ both.inputDue .clampF = true ∧ both.inputDue .clampM = true
      ∧ both.meas.inputs.clampF.sample ≠ both.meas.inputs.clampM.sample := by decide +kernel
/-- R153: CLAMP_F closes in the interval in which CLAMP_M falls: the condition stands throughout, and nothing is reported
anew when both levels have been taken. -/
theorem test_clamps_of_one_interval :
    let s := moving (moving { weld .faultHold 7 (fun c => { c with clampDone := true }) with
      meas := { ready.meas with condClamp := true } } .clampM false) .clampF true
    (s.dueMeasured.level .clampF, s.dueMeasured.level .clampM, s.dueMeasured.meas.condClamp,
      s.dueMeasured.link.notices, s.dueMeasured.ctx.map fun c => c.faults) = (true, false, true, [], some []) := by
  decide +kernel
theorem witness_Emergency :
    let s := moving (weld .boost 5 id) .emergency true
    s.engine = .boost ∧ s.ctx = some (ctx 5) ∧ (ctx 5).outcome = none ∧ (ctx 5).upsetBegun = false
      ∧ s.inputDue .emergency = true ∧ s.meas.inputs.emergency.sample = true ∧ s.meas.condEmergency = false := by
  decide +kernel
theorem witness_ContactorFeedback :
    let s := { ready with meas := { ready.meas with fbTimer := 61 } }
    s.engine ≠ .configFault ∧ s.image.fbTime < s.meas.fbTimer ∧ s.engine = .ready ∧ s.meas.fbReported = false := by decide
theorem witness_ContactorFeedback_compares :
    ready.engine ≠ .configFault ∧ ready.level .contFb = ready.out.contactor
      ∧ (level ready .contFb true).level .contFb ≠ ready.out.contactor
      ∧ (moving ready .contFb true).inputDue .contFb = true := by decide
theorem witness_ContactorFeedback_in_hold :
    let s := { weld .hold 7 (fun c => { c with upsetBegun := true }) with meas := { ready.meas with fbTimer := 61 } }
    s.engine = .hold ∧ s.image.fbTime < s.meas.fbTimer ∧ s.meas.fbReported = false ∧ (ctx 7).outcome = none := by decide

theorem witness_SettleExpiry_waits :
    let s := { weld .admitting 0 id with share := asking .settling ⟨.sequencer, 380, 2⟩ 120 0 }
    s.share.rise.state = .settling ∧ s.share.rise.ask = some ⟨.sequencer, 380, 2⟩ ∧ 120 ≤ s.share.rise.settle.ms
      ∧ s.admissionMet 380 2 = false := by decide +kernel
/-- A budget of 900 kW. -/
def budgeted (h : Share) : Share := { h with rating := some 1000, genState := some .running, source := .generator }

theorem witness_SettleExpiry_admits :
    let s := { weld .admitting 0 id with share := budgeted (asking .settling ⟨.sequencer, 380, 2⟩ 120 0) }
    s.admissionMet 380 2 = true ∧ s.engine = .admitting ∧ s.yielded = false ∧ (ctx 0).abortTarget = none
      ∧ prog1207.firstCurrent = some 2 ∧ (prog1207.body 2).isSome = true := by decide +kernel
theorem witness_SettleExpiry_resumes :
    let s := { weld .flash 3 id with share := budgeted (asking .settling ⟨.resume, 420, 1⟩ 120 0), yielded := true }
    s.admissionMet 420 1 = true ∧ s.engine = .flash ∧ (ctx 3).flash?.isSome = true ∧ (ctx 3).lists .resume = true
      ∧ (ctx 3).yieldTime < (ctx 3).prog.tYieldMax * 1000 := by decide +kernel
theorem witness_SettleExpiry_at_the_limit :
    let c := { ctx 3 with yieldTime := 20000 }
    let s := { weld .flash 3 (fun _ => c) with
      share := budgeted (asking .settling ⟨.resume, 420, 1⟩ 120 0), yielded := true }
    s.admissionMet 420 1 = true ∧ s.engine = .flash ∧ c.abortTarget = none ∧ c.limitReported = false
      ∧ c.prog.tYieldMax ≠ 0 ∧ c.prog.tYieldMax * 1000 ≤ c.yieldTime := by decide +kernel
/-- The first FLASH record from ADMITTING, where the copy has no PREHEAT, and from PREHEAT. -/
theorem witness_SettleExpiry_first_flash :
    let p := { prog1207 with records := prog1207.records.eraseIdx 2 }
    let s := { weld .admitting 0 (fun c => { c with prog := p }) with
      share := budgeted (asking .settling ⟨.sequencer, 420, 1⟩ 120 0) }
    let u := { weld .preheat 2 id with share := budgeted (asking .settling ⟨.sequencer, 420, 1⟩ 120 0) }
    s.admissionMet 420 1 = true ∧ p.firstCurrent = some 2
      ∧ (p.body 2).any (fun b => decide (b.kind = .flash)) = true
      ∧ u.admissionMet 420 1 = true ∧ u.engine = .preheat ∧ (ctx 2).abortTarget = none
      ∧ (prog1207.body (ctx 2).nextIndex).any (fun b => decide (b.kind = .flash)) = true
      ∧ prog1207.find .flash = some (ctx 2).nextIndex := by decide +kernel
/-- The moves out of the two FLASH records, at once and after a short retraction. -/
theorem witness_SettleExpiry_moves :
    let s (i : Nat) := { weld .flash i id with
      share := budgeted (asking .settling ⟨.sequencer, 650, 0⟩ 120 0), mode := .regulating }
    (s 3).admissionMet 650 0 = true ∧ (ctx 3).flash?.isSome = true ∧ (ctx 3).abortTarget = none
      ∧ (prog1207.body (ctx 3).nextIndex).any (fun b => decide (b.kind = .flash)) = true
      ∧ (s 4).admissionMet 650 0 = true ∧ (ctx 4).flash?.isSome = true
      ∧ (prog1207.body (ctx 4).nextIndex).any (fun b => decide (b.kind = .boost)) = true ∧ (s 4).mode ≠ .retracting
      ∧ ({ s 4 with mode := .retracting } : State).mode = .retracting := by decide +kernel
theorem witness_AdmitTimeout :
    let s := { weld .admitting 0 id with share := asking .waiting ⟨.sequencer, 380, 2⟩ 120 30000 }
    s.engine = .admitting ∧ s.share.rise.state ≠ .none ∧ s.share.rise.admitWait.running = true
      ∧ (ctx 0).prog.tAdmit * 1000 ≤ s.share.rise.admitWait.ms ∧ s.wireForce ≠ 0 := by decide +kernel
theorem witness_YieldLimit :
    let c := { ctx 3 with yieldTime := 20000 }
    let s := { weld .flash 3 (fun _ => c) with yielded := true }
    s.engine = .flash ∧ c.limitReported = false ∧ c.prog.tYieldMax ≠ 0 ∧ c.abortTarget = none
      ∧ c.prog.tYieldMax * 1000 ≤ c.yieldTime := by decide
theorem witness_YieldLimit_in_an_abort_retract :
    let c := { ctx 3 with yieldTime := 20000, abortTarget := some 0 }
    let s := weld .flash 3 fun _ => c
    s.engine = .flash ∧ c.limitReported = false ∧ c.prog.tYieldMax * 1000 ≤ c.yieldTime ∧ c.abortTarget.isSome = true
      ∧ s.share.rise.ask = none ∧ s.link.notices.length < 8 := by decide
theorem witness_PeersLapseAndLeave :
    let p : Peer := { Peer.ofDemand 1 demandOf4000 with silence := 300 }
    let q : Peer := { p with live := false, silence := 4300 }
    p ∈ [p] ∧ p.station = (1 : Station).val ∧ p.live = true ∧ image.tPeer ≤ p.silence ∧ q.live = false
      ∧ image.tPeer + image.tLinger ≤ q.silence := by decide
theorem witness_RatingAge :
    let s := { ready with share := { Share.reset with ratingAge := some 5000, source := .held, everJoined := true } }
    s.share.ratingAge = some 5000 ∧ s.share.source = .held ∧ s.image.standalone = true ∧ s.share.everJoined = true
      ∧ ({ image with standalone := false } : Image).standalone = false := by decide
theorem witness_RatingAge_never_joined :
    let s := { ready with share := { Share.reset with ratingAge := some 5000, source := .held } }
    s.share.ratingAge = some 5000 ∧ s.share.source = .held ∧ s.share.everJoined = false := by decide
theorem witness_YieldTimers_minrun :
    let c := { ctx 3 with minrunBar := true, sinceResume := some 2000 }
    c.minrunBar = true ∧ c.sinceResume = some 2000 ∧ c.prog.tMinrun * 100 ≤ 2000 ∧ (weld .flash 3 id).yielded = false
      ∧ (weld .flash 3 id).highestRise = none := by decide +kernel
theorem witness_YieldTimers_pause :
    let c := { ctx 2 with pause := some 4002, restarts := 2 }
    c.preheat?.isSome = true ∧ c.pause = some 4002 ∧ 4000 < 4002 ∧ c.pauseTaken = false ∧ c.restarts = 2
      ∧ c.abortTarget = none ∧ (ctx 2).restarts < 2 := by decide +kernel
theorem witness_YieldTimers_restart_due :
    let c := { ctx 2 with restartDue := true, restarts := 2, abortTarget := some 0 }
    (weld .preheat 2 fun _ => c).engine = .preheat ∧ c.restartDue = true ∧ c.restarts = 2
      ∧ c.abortTarget.isSome = true := by decide
theorem witness_ClampTimeout :
    let s := level { weld .clamping 0 id with out := Outputs.reset, stress := { Stress.reset with clampTimer := ⟨true, 8000⟩ } }
      .clampF true
    s.engine = .clamping ∧ (ctx 0).body = some (.clamp 8000) ∧ 8000 ≤ s.stress.clampTimer.ms ∧ s.out.force = 0
      ∧ s.bothOpen = false := by decide +kernel
theorem witness_PullEnds :
    let s := { weld .pulling 1 (fun c => { c with phaseTimer := 60000 }) with stress := { Stress.reset with pullStall := 500 } }
    s.engine = .pulling ∧ (ctx 1).pull?.isSome = true ∧ 500 ≤ s.stress.pullStall ∧ 60000 ≤ s.phaseTimer := by decide +kernel
theorem witness_PullEnds_first_current :
    let p := { prog1207 with records := prog1207.records.eraseIdx 2 }
    prog1207.firstCurrent = some 2 ∧ (prog1207.body 2).any (fun b => decide (b.kind = .preheat)) = true
      ∧ p.firstCurrent = some 2 ∧ (p.body 2).any (fun b => decide (b.kind = .flash)) = true := by decide +kernel
theorem witness_Pulses :
    let on := { ctx 2 with sub := some .pulseOn, subTimer := 2000 }
    let off := { ctx 2 with sub := some .pulseOff, subTimer := 1500 }
    on.preheat?.isSome = true ∧ on.abortTarget = none ∧ on.sub = some .pulseOn ∧ 2000 ≤ on.subTimer
      ∧ off.sub = some .pulseOff ∧ 1500 ≤ off.subTimer ∧ (weld .preheat 2 id).yielded = false ∧ off.counted < 6 := by
  decide +kernel
/-- The sixth pulse counted: 420 kW is above the standby load of PULSE OFF's 380, and not above a held 420. -/
theorem witness_Pulses_exit :
    let c := { ctx 2 with sub := some .pulseOff, subTimer := 1500, counted := 6 }
    let s := weld .preheat 2 fun _ => c
    c.preheat?.isSome = true ∧ c.abortTarget = none ∧ 1500 ≤ c.subTimer ∧ s.yielded = false ∧ 6 ≤ c.counted
      ∧ c.exitMet = false ∧ (prog1207.body c.nextIndex).any (fun b => decide (b.kind = .flash)) = true
      ∧ prog1207.find .flash = some c.nextIndex ∧ s.presentLoad < 420
      ∧ 420 ≤ ({ s with share := { s.share with hold := some 420 } } : State).presentLoad := by decide +kernel
/-- A short retraction short of its target, at it, and at it with a move to BOOST that waits. -/
theorem witness_ShortRetraction :
    let c := { ctx 4 with retract := some ⟨0, 6000, 9130⟩, burnOff := 9130 }
    let s := { weld .flash 4 (fun _ => c) with mode := .retracting }
    s.engine = .flash ∧ c.flash?.isSome = true ∧ c.contactPending = false ∧ c.abortTarget = none ∧ c.exitMet = false
      ∧ (9130 : Int) < (c.target : Int) ∧ s.meas.intervalPos ≤ 0 ∧ (0 : Int) < 1 ∧ c.moveDue = false
      ∧ ({ c with moveDue := true, exitMet := true } : WeldCtx).moveDue = true ∧ s.awaiting = false
      ∧ (prog1207.body c.nextIndex).any (fun b => decide (b.kind = .boost)) = true := by decide +kernel
theorem witness_OpenEpisode :
    let c := { ctx 4 with openRun := 210, burnOff := 9130 }
    let s := { weld .flash 4 (fun _ => c) with mode := .openGap, meas := { ready.meas with im := 199 } }
    s.mode = .openGap ∧ c.flash?.isSome = true ∧ c.burnOff < (c.target : Int) ∧ s.meas.im < 200
      ∧ 200 ≤ ({ s with meas := { s.meas with im := 200 } } : State).meas.im := by decide +kernel
theorem witness_ShortAndOpen :
    let c := { ctx 3 with onset := some ⟨-1500, 6000, 0⟩, openMet := true }
    let s := { weld .flash 3 (fun _ => c) with mode := .regulating }
    s.engine = .flash ∧ s.mode = .regulating ∧ s.ctx = some c ∧ c.flash?.isSome = true ∧ c.contactPending = false
      ∧ c.abortTarget = none ∧ c.onset.isSome = true ∧ c.openMet = true ∧ s.awaiting = false
      ∧ c.burnOff < (c.target : Int) ∧ (c.latches.filter fun l => l.kind.repeated).length < 16 := by decide +kernel
theorem witness_ShortUnlisted :
    16 ≤ (({ ctx 3 with latches := List.replicate 16 ⟨.short, 0, 0⟩ } : WeldCtx).latches.filter
      fun l => l.kind.repeated).length := by decide
theorem witness_AbortRetractEnds :
    let s := weld .flash 3 fun c => { c with abortTarget := some 5, abortStill := 500 }
    (s.engine = .preheat ∨ s.engine = .flash) ∧ s.wireForce ≠ 0 ∧ s.abortStillDue = true := by decide +kernel
theorem witness_PowerWindow :
    let above := { ctx 3 with winCount := 50, winSum := 231500000 }
    let below := { ctx 3 with winCount := 50, winSum := 231000000 }
    above.flash?.isSome = true ∧ 50 ≤ above.winCount
      ∧ (weld .flash 3 fun _ => above).presentLoad * 110 / 100 < above.winSum / 500000
      ∧ below.winSum / 500000 ≤ (weld .flash 3 fun _ => below).presentLoad * 110 / 100 := by decide +kernel
theorem witness_PowerWindow_completes :
    let c := { ctx 3 with winCount := 49 }
    let s := { weld .flash 3 (fun _ => c) with out := { Outputs.reset with contactor := true } }
    c.winCount = 49 ∧ c.energyStopped = false ∧ s.out.contactor = true ∧ c.abortTarget = none ∧ s.engine = .flash
      ∧ c.flash?.isSome = true ∧ (c.winSum + s.meas.um * s.meas.im) / 500000 ≤ s.presentLoad * 110 / 100 := by
  decide +kernel
theorem witness_PowerWindow_above :
    let c := { ctx 3 with winCount := 49, winSum := 231500000, energyOn := true }
    let s := weld .flash 3 fun _ => c
    c.energyStopped = false ∧ c.energyOn = true ∧ s.presentLoad * 110 / 100 < (c.winSum + s.meas.um * s.meas.im) / 500000 := by
  decide +kernel
theorem witness_PowerWindow_in_preheat :
    let c := { ctx 2 with winCount := 49, energyOn := true }
    (weld .preheat 2 fun _ => c).engine = .preheat ∧ c.winCount = 49 ∧ c.energyStopped = false ∧ c.energyOn = true
      ∧ c.abortTarget = none := by decide
theorem witness_BoostTime :
    let c := { ctx 5 with phaseTimer := 1500 }
    c.boost?.isSome = true ∧ 1500 ≤ c.phaseTimer ∧ c.nextIndex = 6 ∧ (c.prog.body 6).isSome = true := by decide +kernel
theorem witness_CurrentOff :
    let s := { weld .upset 6 id with upset := { Upset.reset with currentTimer := ⟨true, 250⟩ } }
    s.engine = .upset ∧ (ctx 6).upset?.isSome = true ∧ (ctx 6).curTime = none ∧ 250 ≤ s.upset.currentTimer.ms
      ∧ s.level .contFb = false ∧ s.share.hold = none ∧ (level s .contFb true).level .contFb = true := by decide +kernel
theorem witness_UpsetEnds :
    let s := { weld .upset 6 (fun c => { c with phaseTimer := 3000 }) with upset := { Upset.reset with stall := 200 } }
    s.engine = .upset ∧ (ctx 6).upset?.isSome = true ∧ prog1207.body (ctx 6).nextIndex = some (.hold 900 45)
      ∧ 200 ≤ s.upset.stall ∧ 3000 ≤ s.phaseTimer := by decide +kernel
theorem witness_HoldEnds :
    let s := level (weld .hold 7 fun c => { c with phaseTimer := 45000 }) .shearHome true
    s.engine = .hold ∧ (ctx 7).body = some (.hold 900 45) ∧ 45 * 1000 ≤ s.phaseTimer
      ∧ prog1207.body (ctx 7).nextIndex = some (.trim 10000) ∧ s.level .shearHome = true
      ∧ s.level .shearEnd = false := by decide +kernel
/-- SHEAR_END in ADVANCING, SHEAR_HOME in RETURNING, and SHEAR_HOME left in ADVANCING. -/
theorem witness_ShearMoves :
    let s (x : ShearStep) := { weld .trim 8 id with upset := { Upset.reset with shear := some x } }
    let cut := moving (s .advancing) .shearEnd true
    let home := moving (s .returning) .shearHome true
    let left := moving (s .advancing) .shearHome false
    cut.engine = .trim ∧ cut.ctx = some (ctx 8) ∧ cut.upset.shear = some .advancing ∧ cut.inputDue .shearEnd = true
      ∧ cut.meas.inputs.shearEnd.sample = true ∧ cut.level .shearHome = false
      ∧ home.upset.shear = some .returning ∧ home.inputDue .shearHome = true
      ∧ home.meas.inputs.shearHome.sample = true ∧ home.wireForce ≠ 0
      ∧ left.upset.shear = some .advancing ∧ left.level .shearEnd = false ∧ left.inputDue .shearHome = true := by
  decide +kernel
theorem witness_ShearTimeouts :
    let s := { weld .trim 8 id with upset := { Upset.reset with shear := some .advancing, shearTimer := 10000 } }
    s.engine = .trim ∧ (ctx 8).body = some (.trim 10000) ∧ 10000 ≤ s.upset.shearTimer
      ∧ s.upset.shear = some .advancing ∧ s.level .shearHome = false ∧ s.wireForce ≠ 0 := by decide +kernel
theorem witness_ReleaseSteps :
    let s := level { weld .releasing 9 id with
      stress := { Stress.reset with release := some .ramping, releaseTimer := ⟨true, 2000⟩ } } .clampF true
    s.engine = .releasing ∧ s.bothOpen = false ∧ s.stress.release = some .ramping
      ∧ s.image.rampTime ≤ s.stress.releaseTimer.ms ∧ (ctx 9).body = some (.release 8000)
      ∧ s.link.notices.length < 8 := by decide +kernel
theorem witness_ReleaseCompletion :
    let s := moving { weld .releasing 9 (fun _ => { ctx45 with releasingEntered := true }) with
      stress := { Stress.reset with release := some .opening } } .clampM false
    s.engine = .releasing ∧ s.stress.release = some .opening ∧ ctx45.outcome = none ∧ ctx45.ending = none
      ∧ s.inputDue .clampM = true ∧ s.meas.inputs.clampM.sample = false ∧ s.level .clampF = false
      ∧ s.inputDue .clampF = false ∧ (moving s .clampF true).inputDue .clampF = true
      ∧ (moving s .clampF true).meas.inputs.clampF.sample = true := by decide +kernel
theorem witness_ReleaseCompletion_latch :
    (ctx45.latches.find? fun x => decide (x.kind = .upsetStart)) = some ⟨.upsetStart, 0, 112950⟩ := by decide
theorem witness_Frames :
    (∃ t, exec .clampTimeout ready = .next t) ∧ (∃ t, exec (.abort 1 []) ready = .next t)
      ∧ ∃ t, exec .frameAcknowledged ready = .next t := ⟨⟨_, rfl⟩, ⟨_, rfl⟩, ⟨_, rfl⟩⟩
theorem witness_Invariants :
    let s := { ready with pending := [.busOff] }
    (∃ t, step s = .next t) ∧ s.linesApart = true ∧ s.storesBounded = true ∧ s.banksFormed = true
      ∧ s.peersSound = true ∧ s.contactorSafe = true ∧ s.phasesLinked = true ∧ s.serialsSound = true :=
  ⟨⟨_, rfl⟩, by decide +kernel⟩

end Sys2Proof.Tests
end

/-! PROOFS. The order of rises (R112): what `outranks`, `Peer.above`, `Peer.below`, `Peer.countedFor`,
`Peer.ranksAbove` and `State.outranked` say, each once. -/

namespace Sys2Proof.Machine

/-! ### The order on rank class and station -/

/-- R112, first sentence: class first, then station number. -/
theorem outranks_iff (c st c' st' : Nat) :
    outranks c st c' st' = true ↔ c < c' ∨ (c = c' ∧ st < st') := by
  simp [outranks]

/-- R112: no two rises of different stations are equal in rank, so exactly one of them ranks above the other. -/
theorem outranks_iff_not_outranks_of_ne {st st' : Nat} (c c' : Nat) (hne : st ≠ st') :
    outranks c st c' st' = true ↔ outranks c' st' c st = false := by
  rw [← Bool.not_eq_true, outranks_iff, outranks_iff]
  omega

/-! ### An entry against the own rise -/

/-- The pending RISE of a LIVE entry ranks above the own rise as its class and station say. -/
theorem Peer.above_of_live {p : Peer} {k : Nat} (hl : p.live = true) (hr : p.rise = some k) (cls own : Nat) :
    p.above cls own = outranks k p.station cls own := by
  simp [Peer.above, hl, hr]

theorem Peer.below_of_live {p : Peer} {k : Nat} (hl : p.live = true) (hr : p.rise = some k) (cls own : Nat) :
    p.below cls own = outranks cls own k p.station := by
  simp [Peer.below, hl, hr]

/-- An entry that is LAPSED or without intent RISE is no pending RISE (R112). -/
theorem Peer.above_of_not_pending {p : Peer} (h : p.live = false ∨ p.rise = none) (cls own : Nat) :
    p.above cls own = false := by
  obtain hl | hr := h
  · simp [Peer.above, hl]
  · simp [Peer.above, hr]

theorem Peer.below_of_not_pending {p : Peer} (h : p.live = false ∨ p.rise = none) (cls own : Nat) :
    p.below cls own = false := by
  obtain hl | hr := h
  · simp [Peer.below, hl]
  · simp [Peer.below, hr]

theorem Peer.above_iff (p : Peer) (cls own : Nat) :
    p.above cls own = true ↔
      p.live = true ∧ ∃ k, p.rise = some k ∧ (k < cls ∨ (k = cls ∧ p.station < own)) := by
  cases hl : p.live with
  | false => simp [Peer.above_of_not_pending (.inl hl)]
  | true =>
    cases hr : p.rise with
    | none => simp [Peer.above_of_not_pending (.inr hr)]
    | some k => simp [Peer.above_of_live hl hr, outranks_iff]

/-- R112: "in all other cases it is lower-ranked". -/
theorem Peer.below_iff_not_above {p : Peer} {own : Nat} (hl : p.live = true) (hr : p.rise.isSome = true)
    (hne : p.station ≠ own) (cls : Nat) : p.below cls own = true ↔ p.above cls own = false := by
  obtain ⟨k, hk⟩ := Option.isSome_iff_exists.mp hr
  rw [Peer.below_of_live hl hk, Peer.above_of_live hl hk]
  exact outranks_iff_not_outranks_of_ne cls k hne.symm

/-- R111: a LAPSED entry keeps its last counted load, since it is below no rise. -/
theorem Peer.countedFor_of_lapsed {p : Peer} (hl : p.live = false) (hr : p.rise.isSome = true) (cls own : Nat) :
    p.countedFor cls own = max p.present p.claim := by
  simp [Peer.countedFor, Peer.below_of_not_pending (.inl hl), Peer.counted, hr]

/-! ### Entries among each other, and the table -/

theorem Peer.ranksAbove_of_rises {p q : Peer} {k m : Nat} (hp : p.rise = some k) (hq : q.rise = some m) :
    p.ranksAbove q = outranks k p.station m q.station := by
  simp [Peer.ranksAbove, hp, hq]

theorem State.outranked_iff (s : State) (cls : Nat) :
    s.outranked cls = true ↔ ∃ q ∈ s.share.peers, q.above cls s.station.val = true :=
  List.any_eq_true

/-- Settles O14, from the order on rank class and station. The kind of an entry is no operand of `Peer.above` and
`Peer.below`, so that clause holds by definition. -/
theorem risesAreRanked : Obligations.RisesAreRanked := by
  intro p cls own
  refine ⟨p.above_iff cls own, fun hl hr hne => Peer.below_iff_not_above hl hr hne cls,
    fun h => ⟨Peer.above_of_not_pending h cls own, Peer.below_of_not_pending h cls own⟩,
    fun _ => ⟨rfl, rfl⟩, fun hl hr => Peer.countedFor_of_lapsed hl hr cls own, ?ranks,
    fun s => s.outranked_iff cls⟩
  case ranks =>
    intro q k m hp hq
    rw [Peer.ranksAbove_of_rises hp hq, outranks_iff]

end Sys2Proof.Machine

/-! PROOFS. The capture flags (R151, R152): CAPTURE CLEAR clears the flags its mask names, RESET clears all, and no other
command clears one. An input level that the filter accepts is the one thing that writes a flag elsewhere, and it sets it;
so every operation but that one has a lemma that it leaves the flags, which the commands then cite. -/

namespace Sys2Proof.Machine

variable (s : State)

/-! ### Eight flags and their byte (section 11.8) -/

@[simp] theorem PerInput.build_get {α : Type} (f : Input → α) (i : Input) : (PerInput.build f).get i = f i := by
  cases i <;> rfl

@[simp] theorem PerInput.all_get {α : Type} (a : α) (i : Input) : (PerInput.all a).get i = a := by
  cases i <;> rfl

theorem PerInput.set_get {α : Type} (v : PerInput α) (i j : Input) (a : α) :
    (v.set i a).get j = if j = i then a else v.get j := by
  cases i <;> cases j <;> rfl

@[simp] theorem inputsOfByte_get (b : Byte) (i : Input) : (inputsOfByte b).get i = b.getLsbD (inputBit i) := by
  simp [inputsOfByte]

theorem ite_eq_mul_toNat (b : Bool) (n : Nat) : (if b then n else 0) = n * b.toNat := by
  cases b <;> simp

/-- The byte of eight flags is their sum by weight. -/
theorem inputByte_eq (v : PerInput Bool) :
    inputByte v = BitVec.ofNat 8 (v.clampF.toNat + 2 * v.clampM.toNat + 4 * v.pressOk.toNat + 8 * v.shearHome.toNat
      + 16 * v.shearEnd.toNat + 32 * v.contFb.toNat + 64 * v.emergency.toNat + 128 * v.trainMove.toNat) := by
  simp only [inputByte, ite_eq_mul_toNat]
  simp [allInputs, inputBit, PerInput.get, Nat.add_assoc, Nat.mul_comm]

/-- Each weight is a power of 2 of its own, so a bit of the sum is one flag. -/
theorem inputByte_getLsbD (v : PerInput Bool) (i : Input) : (inputByte v).getLsbD (inputBit i) = v.get i := by
  have h0 := Bool.toNat_lt v.clampF
  have h1 := Bool.toNat_lt v.clampM
  have h2 := Bool.toNat_lt v.pressOk
  have h3 := Bool.toNat_lt v.shearHome
  have h4 := Bool.toNat_lt v.shearEnd
  have h5 := Bool.toNat_lt v.contFb
  have h6 := Bool.toNat_lt v.emergency
  have h7 := Bool.toNat_lt v.trainMove
  -- The weighted sum divided by the flag's weight has the flag as its remainder by 2.
  have flag : ∀ (n : Nat) (b : Bool), n = b.toNat → decide (n = 1) = b := by
    rintro _ b rfl
    cases b <;> rfl
  rw [inputByte_eq, BitVec.getLsbD_ofNat, Nat.testBit_eq_decide_div_mod_eq, decide_eq_true (by cases i <;> decide),
    Bool.true_and]
  apply flag
  cases i <;> simp only [inputBit, PerInput.get] <;> omega

/-! ### What the sequencing of a weld leaves -/

/-- A weld writes nothing of the Measurement Unit. -/
theorem State.meas_of_besidesWeld {t u : State} (h : t.besidesWeld = u.besidesWeld) : t.meas = u.meas := by
  have h' := congrArg State.meas h
  exact h'

/-- The end of RELEASING, which enters READY, leaves the measurements, the capture flags with them (R22, R152). -/
@[simp] theorem State.completeRelease_meas : s.completeRelease.meas = s.meas :=
  State.meas_of_besidesWeld s.completeRelease_besidesWeld
@[simp] theorem State.enterReleasing_meas : s.enterReleasing.meas = s.meas :=
  State.meas_of_besidesWeld s.enterReleasing_besidesWeld
@[simp] theorem State.endTrim_meas : s.endTrim.meas = s.meas := State.meas_of_besidesWeld s.endTrim_besidesWeld
@[simp] theorem State.enterReturning_meas : s.enterReturning.meas = s.meas :=
  State.meas_of_besidesWeld s.enterReturning_besidesWeld
@[simp] theorem State.endUpset_meas : s.endUpset.meas = s.meas := State.meas_of_besidesWeld s.endUpset_besidesWeld
@[simp] theorem State.endBoost_meas : s.endBoost.meas = s.meas := State.meas_of_besidesWeld s.endBoost_besidesWeld
@[simp] theorem State.makeMove_meas : s.makeMove.meas = s.meas := State.meas_of_besidesWeld s.makeMove_besidesWeld
@[simp] theorem State.flashExit_meas : s.flashExit.meas = s.meas := State.meas_of_besidesWeld s.flashExit_besidesWeld
@[simp] theorem State.endPull_meas : s.endPull.meas = s.meas := State.meas_of_besidesWeld s.endPull_besidesWeld
@[simp] theorem State.clampExit_meas : s.clampExit.meas = s.meas := State.meas_of_besidesWeld s.clampExit_besidesWeld
@[simp] theorem State.enterClamp_meas : s.enterClamp.meas = s.meas := State.meas_of_besidesWeld s.enterClamp_besidesWeld
@[simp] theorem State.closeEpisode_meas : s.closeEpisode.meas = s.meas :=
  State.meas_of_besidesWeld s.closeEpisode_besidesWeld
@[simp] theorem State.stopCause_meas (x : StopCause) : (s.stopCause x).meas = s.meas :=
  State.meas_of_besidesWeld (s.stopCause_besidesWeld x)
@[simp] theorem State.endCause_meas (x : EndCause) (tag : Option Nat) : (s.endCause x tag).meas = s.meas :=
  State.meas_of_besidesWeld (s.endCause_besidesWeld x tag)
@[simp] theorem State.admitRise_meas (a : Ask) : (s.admitRise a).meas = s.meas :=
  State.meas_of_besidesWeld (s.admitRise_besidesWeld a)
@[simp] theorem State.shareEvent_meas (a b : Bool) : (s.shareEvent a b).meas = s.meas :=
  State.meas_of_besidesWeld (s.shareEvent_besidesWeld a b)
@[simp] theorem State.withPeers_meas (peers : List Peer) : (s.withPeers peers).meas = s.meas :=
  State.shareEvent_meas _ _ _
@[simp] theorem State.budgetEvent_meas (before : State) : (s.budgetEvent before).meas = s.meas :=
  State.shareEvent_meas _ _ _

@[simp] theorem State.clearBank_meas (n : Nat) : (s.clearBank n).meas = s.meas := by
  unfold State.clearBank
  dsimp only
  repeat' split
  all_goals simp
/-- Acceptance of a weld leaves the measurements, the capture flags with them (R152). -/
@[simp] theorem State.acceptWeld_meas (q : Request) (p : Programme) : (s.acceptWeld q p).meas = s.meas := by
  simp [State.acceptWeld]
@[simp] theorem State.takeRequest_meas (f : Option RequestFault) (q : Request) : (s.takeRequest f q).meas = s.meas := by
  unfold State.takeRequest
  split <;> simp
@[simp] theorem State.nextRequest_meas : s.nextRequest.meas = s.meas := by
  unfold State.nextRequest
  dsimp only
  repeat' split
  all_goals simp
@[simp] theorem State.takeProgramme_meas (run : ProgRun) : (s.takeProgramme run).meas = s.meas := by
  unfold State.takeProgramme
  dsimp only
  split <;> simp
@[simp] theorem State.nextProgramme_meas : s.nextProgramme.meas = s.meas := by
  unfold State.nextProgramme
  split <;> simp

/-! ### What the Measurement Unit leaves -/

@[simp] theorem State.testCondition_meas (a b : Bool) (x : StopCause) : (s.testCondition a b x).meas = s.meas := by
  unfold State.testCondition
  split <;> simp
@[simp] theorem State.testEmergency_capture : s.testEmergency.meas.capture = s.meas.capture := by
  simp [State.testEmergency]
@[simp] theorem State.testTrain_capture : s.testTrain.meas.capture = s.meas.capture := by
  simp [State.testTrain]
@[simp] theorem State.testClamp_capture (closed : Bool) : (s.testClamp closed).meas.capture = s.meas.capture := by
  simp [State.testClamp]
@[simp] theorem State.testForce_capture : s.testForce.meas.capture = s.meas.capture := by
  simp [State.testForce]
@[simp] theorem State.testConditions_capture : s.testConditions.meas.capture = s.meas.capture := by
  unfold State.testConditions
  split <;> simp
@[simp] theorem State.takeReadings_capture (r : Readings) : (s.takeReadings r).meas.capture = s.meas.capture := by
  unfold State.takeReadings
  split <;> rfl
@[simp] theorem State.sampleInputs_capture (pins : Byte) : (s.sampleInputs pins).meas.capture = s.meas.capture := by
  unfold State.sampleInputs
  split <;> rfl
@[simp] theorem State.compareContactor_capture : s.compareContactor.meas.capture = s.meas.capture := by
  unfold State.compareContactor
  repeat' split
  all_goals rfl
@[simp] theorem State.measure_capture (r : Readings) : (s.measure r).meas.capture = s.meas.capture := by
  simp [State.measure]
@[simp] theorem State.handSample_meas (p : Int) (i u f : Nat) (b : Bool) : (s.handSample p i u f b).meas = s.meas := by
  unfold State.handSample
  dsimp only
  repeat' split
  all_goals rfl
@[simp] theorem State.takeSample_capture : s.takeSample.meas.capture = s.meas.capture := by
  simp [State.takeSample]
@[simp] theorem State.quadratureError_capture : s.quadratureError.meas.capture = s.meas.capture := by
  unfold State.quadratureError
  dsimp only
  split <;> simp
@[simp] theorem State.countEdge_capture (toward : Bool) : (s.countEdge toward).meas.capture = s.meas.capture := by
  unfold State.countEdge
  dsimp only
  repeat' split
  all_goals simp
@[simp] theorem State.passMark_capture : s.passMark.meas.capture = s.meas.capture := by
  unfold State.passMark
  repeat' split
  all_goals simp
@[simp] theorem State.contactorFault_capture : s.contactorFault.meas.capture = s.meas.capture := by
  simp [State.contactorFault]
@[simp] theorem State.clampMoved_meas : s.clampMoved.meas = s.meas := by
  unfold State.clampMoved
  repeat' split
  all_goals simp
@[simp] theorem State.shearMoved_meas : s.shearMoved.meas = s.meas := by
  unfold State.shearMoved
  repeat' split
  all_goals simp
@[simp] theorem State.feedbackMoved_meas : s.feedbackMoved.meas = s.meas := by
  unfold State.feedbackMoved
  split <;> rfl

/-- The blocks that read an input act on its level and leave the capture flags (R150). -/
@[simp] theorem State.inputMoved_capture (i : Input) : (s.inputMoved i).meas.capture = s.meas.capture := by
  unfold State.inputMoved
  repeat' split
  all_goals simp [State.testClampNow]

/-! ### What the evaluation of an interval leaves -/

@[simp] theorem State.countPower_meas : s.countPower.meas = s.meas := by
  rw [State.countPower_eq]
@[simp] theorem State.updateBurnOff_meas : s.updateBurnOff.meas = s.meas := rfl
@[simp] theorem State.countOpen_meas (r : FlashRec) : (s.countOpen r).meas = s.meas := by
  rw [State.countOpen_eq]
@[simp] theorem State.takeWindow_meas : s.takeWindow.meas = s.meas := rfl
@[simp] theorem State.testFlashExit_meas : s.testFlashExit.meas = s.meas := by
  unfold State.testFlashExit
  repeat' split
  all_goals simp
@[simp] theorem State.testFlash_meas : s.testFlash.meas = s.meas := by
  unfold State.testFlash
  repeat' split
  all_goals simp
@[simp] theorem State.endRetraction_meas : s.endRetraction.meas = s.meas := by
  unfold State.endRetraction
  dsimp only
  split <;> simp
@[simp] theorem State.regulateFlash_meas (i : Nat) (r now : FlashRec) : (s.regulateFlash i r now).meas = s.meas := by
  unfold State.regulateFlash
  dsimp only
  repeat' split
  all_goals simp [State.takeContact, State.closeGap]
@[simp] theorem State.evalFlash_meas : s.evalFlash.meas = s.meas := by
  unfold State.evalFlash
  dsimp only
  repeat' split
  all_goals simp
@[simp] theorem State.evalAbort_meas (target : Int) : (s.evalAbort target).meas = s.meas := by
  unfold State.evalAbort
  split <;> simp
@[simp] theorem State.evalPreheat_meas : s.evalPreheat.meas = s.meas := by
  unfold State.evalPreheat
  dsimp only
  repeat' split
  all_goals simp
@[simp] theorem State.evalCurrent_meas : s.evalCurrent.meas = s.meas := by
  unfold State.evalCurrent
  dsimp only
  repeat' split
  all_goals simp
@[simp] theorem State.evalBoost_meas : s.evalBoost.meas = s.meas := by
  unfold State.evalBoost
  repeat' split
  all_goals simp
@[simp] theorem State.evalUpset_meas : s.evalUpset.meas = s.meas := by
  unfold State.evalUpset
  dsimp only
  repeat' split
  all_goals simp
@[simp] theorem State.evalPull_meas : s.evalPull.meas = s.meas := by
  unfold State.evalPull
  dsimp only
  repeat' split
  all_goals simp
@[simp] theorem State.evalRelease_meas : s.evalRelease.meas = s.meas := by
  unfold State.evalRelease
  split <;> simp
@[simp] theorem State.evalUnits_meas : s.evalUnits.meas = s.meas := by
  unfold State.evalUnits
  split <;> simp
@[simp] theorem State.evaluate_capture (causesFirst : Bool) :
    (s.evaluate causesFirst).meas.capture = s.meas.capture := by
  unfold State.evaluate
  split <;> simp

/-! ### What the events leave -/

theorem State.event_capture {act : State → State} (h : ∀ t : State, (act t).meas.capture = t.meas.capture)
    (due : Bool) : (s.event due act).meas.capture = s.meas.capture := by
  unfold State.event
  split
  · rw [State.declare_meas, h]
  · rfl

/-- An event whose act writes nothing but a weld's own part. -/
theorem State.event_capture_of_besidesWeld {act : State → State}
    (h : ∀ t : State, (act t).besidesWeld = t.besidesWeld) (due : Bool) :
    (s.event due act).meas.capture = s.meas.capture :=
  s.event_capture (fun t => congrArg Meas.capture (State.meas_of_besidesWeld (h t))) due

/-- An event whose act leaves the measurements. -/
theorem State.event_capture_of_meas {act : State → State} (h : ∀ t : State, (act t).meas = t.meas) (due : Bool) :
    (s.event due act).meas.capture = s.meas.capture :=
  s.event_capture (fun t => congrArg Meas.capture (h t)) due

theorem forEach_capture {α : Type} {f : State → α → State} (h : ∀ t a, (f t a).meas.capture = t.meas.capture)
    (keys : List α) : (forEach f keys s).meas.capture = s.meas.capture := by
  unfold forEach
  induction keys generalizing s with
  | nil => rfl
  | cons a l ih => exact (ih (f s a)).trans (h s a)

@[simp] theorem State.sampleEvent_capture : s.sampleEvent.meas.capture = s.meas.capture :=
  s.event_capture State.takeSample_capture _
@[simp] theorem State.windowEvent_capture : s.windowEvent.meas.capture = s.meas.capture :=
  s.event_capture_of_meas State.takeWindow_meas _
@[simp] theorem State.contactorEvent_capture : s.contactorEvent.meas.capture = s.meas.capture :=
  s.event_capture State.contactorFault_capture _

@[simp] theorem State.shortBegins_meas : s.shortBegins.meas = s.meas := by
  unfold State.shortBegins
  split <;> simp
@[simp] theorem State.shortEvent_capture : s.shortEvent.meas.capture = s.meas.capture :=
  s.event_capture_of_meas State.shortBegins_meas _
@[simp] theorem State.openEvent_capture : s.openEvent.meas.capture = s.meas.capture :=
  s.event_capture_of_meas (act := State.openBegins) (fun _ => rfl) _
@[simp] theorem State.pulseOnEvent_capture : s.pulseOnEvent.meas.capture = s.meas.capture :=
  s.event_capture_of_besidesWeld (act := State.pulseOnEnds) (fun _ => State.enterPulseOff_besidesWeld _) _
@[simp] theorem State.pulseOffEvent_capture : s.pulseOffEvent.meas.capture = s.meas.capture :=
  s.event_capture_of_besidesWeld State.endPulseOff_besidesWeld _
@[simp] theorem State.boostEvent_capture : s.boostEvent.meas.capture = s.meas.capture :=
  s.event_capture_of_besidesWeld State.endBoost_besidesWeld _
@[simp] theorem State.currentOffEvent_capture : s.currentOffEvent.meas.capture = s.meas.capture :=
  s.event_capture_of_besidesWeld State.takeCurrentOff_besidesWeld _
@[simp] theorem State.upsetStallEvent_capture : s.upsetStallEvent.meas.capture = s.meas.capture :=
  s.event_capture_of_besidesWeld State.endUpset_besidesWeld _
@[simp] theorem State.upsetTimeoutEvent_capture : s.upsetTimeoutEvent.meas.capture = s.meas.capture :=
  s.event_capture_of_besidesWeld State.endUpset_besidesWeld _
@[simp] theorem State.holdEvent_capture : s.holdEvent.meas.capture = s.meas.capture :=
  s.event_capture_of_besidesWeld State.endHold_besidesWeld _
@[simp] theorem State.shearEvent_capture : s.shearEvent.meas.capture = s.meas.capture :=
  s.event_capture_of_besidesWeld (fun t => t.shearFails.enterReturning_besidesWeld.trans t.shearFails_besidesWeld) _
@[simp] theorem State.shearReturnEvent_capture : s.shearReturnEvent.meas.capture = s.meas.capture :=
  s.event_capture_of_besidesWeld (fun t => t.shearFails.endTrim_besidesWeld.trans t.shearFails_besidesWeld) _
@[simp] theorem State.clampTimeoutEvent_capture : s.clampTimeoutEvent.meas.capture = s.meas.capture :=
  s.event_capture_of_besidesWeld (act := State.clampTimedOut) (fun _ => State.endCause_besidesWeld _ _ _) _
@[simp] theorem State.pullStallEvent_capture : s.pullStallEvent.meas.capture = s.meas.capture :=
  s.event_capture_of_besidesWeld State.endPull_besidesWeld _
@[simp] theorem State.pullTimeoutEvent_capture : s.pullTimeoutEvent.meas.capture = s.meas.capture :=
  s.event_capture_of_besidesWeld State.endPull_besidesWeld _
@[simp] theorem State.rampEvent_capture : s.rampEvent.meas.capture = s.meas.capture :=
  s.event_capture_of_besidesWeld (act := State.rampEnds) (fun _ => State.enterOpening_besidesWeld _) _
@[simp] theorem State.clampOpenEvent_capture : s.clampOpenEvent.meas.capture = s.meas.capture :=
  s.event_capture_of_besidesWeld State.enterWaiting_besidesWeld _
@[simp] theorem State.abortStillEvent_capture : s.abortStillEvent.meas.capture = s.meas.capture :=
  s.event_capture_of_besidesWeld State.enterReleasing_besidesWeld _

@[simp] theorem State.settleExpires_meas : s.settleExpires.meas = s.meas := by
  unfold State.settleExpires
  dsimp only
  repeat' split
  all_goals simp
@[simp] theorem State.yieldLimitEvent_capture : s.yieldLimitEvent.meas.capture = s.meas.capture :=
  s.event_capture_of_besidesWeld State.yieldLimited_besidesWeld _
@[simp] theorem State.minrunEvent_capture : s.minrunEvent.meas.capture = s.meas.capture :=
  s.event_capture_of_besidesWeld (fun t => (State.yieldEval_besidesWeld _ _).trans (t.onCtx_besidesWeld _)) _
@[simp] theorem State.pauseEvent_capture : s.pauseEvent.meas.capture = s.meas.capture :=
  s.event_capture_of_besidesWeld State.pauseRestarts_besidesWeld _
@[simp] theorem State.settleEvent_capture : s.settleEvent.meas.capture = s.meas.capture :=
  s.event_capture_of_meas State.settleExpires_meas _
@[simp] theorem State.admitTimeoutEvent_capture : s.admitTimeoutEvent.meas.capture = s.meas.capture :=
  s.event_capture_of_meas (fun t => by simp [State.admitTimedOut]) _
@[simp] theorem State.lapseEvent_capture (n : Nat) : (s.lapseEvent n).meas.capture = s.meas.capture :=
  s.event_capture_of_meas (fun t => t.withPeers_meas _) _
@[simp] theorem State.removalEvent_capture (n : Nat) : (s.removalEvent n).meas.capture = s.meas.capture :=
  s.event_capture_of_meas (fun t => t.withPeers_meas _) _
@[simp] theorem State.ratingAgeEvent_capture : s.ratingAgeEvent.meas.capture = s.meas.capture :=
  s.event_capture_of_meas (fun t => t.budgetEvent_meas t) _

/-- The first join, which enters READY, leaves the measurements, the capture flags with them (R24, R152). -/
@[simp] theorem State.join_meas : s.join.meas = s.meas := by
  unfold State.join
  dsimp only
  rw [State.placeDemand_meas]
  repeat' split
  all_goals simp
@[simp] theorem State.listenEvent_capture : s.listenEvent.meas.capture = s.meas.capture :=
  s.event_capture_of_meas State.join_meas _
@[simp] theorem State.lostEvent_capture : s.lostEvent.meas.capture = s.meas.capture :=
  s.event_capture_of_meas (act := State.rejoin) (fun _ => State.withPeers_meas _ _) _
@[simp] theorem State.runSilenceEvent_capture (n : Nat) : (s.runSilenceEvent n).meas.capture = s.meas.capture :=
  s.event_capture_of_meas (act := fun t => t.dropRun n) (fun _ => rfl) _
@[simp] theorem State.progSilenceEvent_capture : s.progSilenceEvent.meas.capture = s.meas.capture :=
  s.event_capture_of_meas (act := State.dropProg) (fun _ => rfl) _
@[simp] theorem State.programmeEvent_capture : s.programmeEvent.meas.capture = s.meas.capture :=
  s.event_capture_of_meas State.nextProgramme_meas _
@[simp] theorem State.requestEvent_capture : s.requestEvent.meas.capture = s.meas.capture :=
  s.event_capture_of_meas State.nextRequest_meas _
@[simp] theorem State.statusEvent_capture : s.statusEvent.meas.capture = s.meas.capture :=
  s.event_capture (act := State.placeStatus) (fun _ => rfl) _
@[simp] theorem State.demandEvent_capture : s.demandEvent.meas.capture = s.meas.capture :=
  s.event_capture_of_meas State.placeDemand_meas _

@[simp] theorem State.duePhases_capture : s.duePhases.meas.capture = s.meas.capture := by
  simp [State.duePhases]
@[simp] theorem State.dueShare_capture : s.dueShare.meas.capture = s.meas.capture := by
  simp [State.dueShare, forEach_capture]
@[simp] theorem State.dueLink_capture : s.dueLink.meas.capture = s.meas.capture := by
  simp [State.dueLink, forEach_capture]

/-! ### What the bus and the messages leave -/

@[simp] theorem State.recordLookup_meas (n : Nat) : (s.recordLookup n).meas = s.meas := by
  unfold State.recordLookup
  split <;> simp
@[simp] theorem State.recordRunSent_meas : s.recordRunSent.meas = s.meas := by
  unfold State.recordRunSent
  split <;> simp
@[simp] theorem State.traceLookup_meas (q : TraceQuery) : (s.traceLookup q).meas = s.meas := by
  unfold State.traceLookup
  dsimp only
  repeat' split
  all_goals simp
@[simp] theorem State.takeTraceWaiting_meas : s.takeTraceWaiting.meas = s.meas := by
  unfold State.takeTraceWaiting
  split <;> simp
@[simp] theorem State.traceRunSent_meas : s.traceRunSent.meas = s.meas := by
  unfold State.traceRunSent
  repeat' split
  all_goals simp
@[simp] theorem State.fetchDone_meas : s.fetchDone.meas = s.meas := by
  unfold State.fetchDone
  repeat' split
  all_goals rfl
@[simp] theorem State.recordFrameSent_meas : s.recordFrameSent.meas = s.meas := by
  unfold State.recordFrameSent
  split <;> simp
@[simp] theorem State.traceFrameSent_meas : s.traceFrameSent.meas = s.meas := by
  unfold State.traceFrameSent
  split <;> simp
@[simp] theorem State.frameSent_meas (f : TxFrame) : (s.frameSent f).meas = s.meas := by
  unfold State.frameSent
  dsimp only
  repeat' split
  all_goals simp
@[simp] theorem State.loseLink_meas : s.loseLink.meas = s.meas := by
  simp [State.loseLink]
@[simp] theorem State.duplicate_meas : s.duplicate.meas = s.meas := by
  unfold State.duplicate
  split <;> simp
@[simp] theorem State.offer_meas (won : Bool) : (s.offer won).meas = s.meas := by
  unfold State.offer
  repeat' split
  all_goals rfl
@[simp] theorem State.acknowledged_meas : s.acknowledged.meas = s.meas := by
  unfold State.acknowledged
  cases s.link.onBus <;> simp
@[simp] theorem State.notAcknowledged_meas : s.notAcknowledged.meas = s.meas := by
  unfold State.notAcknowledged State.frameFailed
  dsimp only
  repeat' split
  all_goals simp
@[simp] theorem State.weldFirst_meas (n : Nat) (d : List Byte) : (s.weldFirst n d).meas = s.meas := by
  unfold State.weldFirst
  dsimp only
  split <;> rfl
@[simp] theorem State.settleProg_meas (a : Assembly) : (s.settleProg a).meas = s.meas := by
  unfold State.settleProg
  split <;> rfl
@[simp] theorem State.progFirst_meas (n : Nat) (d : List Byte) : (s.progFirst n d).meas = s.meas := by
  unfold State.progFirst
  dsimp only
  repeat' split
  all_goals simp
@[simp] theorem State.weldLater_meas (n : Nat) (d : List Byte) : (s.weldLater n d).meas = s.meas := by
  unfold State.weldLater
  dsimp only
  repeat' split
  all_goals rfl
@[simp] theorem State.progLater_meas (n : Nat) (d : List Byte) : (s.progLater n d).meas = s.meas := by
  unfold State.progLater
  repeat' split
  all_goals simp
@[simp] theorem State.laterFrame_meas (k : RunKind) (n : Nat) (d : List Byte) : (s.laterFrame k n d).meas = s.meas := by
  unfold State.laterFrame
  repeat' split
  all_goals simp
@[simp] theorem State.takeRating_meas (n : Station) (d : List Byte) : (s.takeRating n d).meas = s.meas := by
  unfold State.takeRating
  split <;> simp
@[simp] theorem State.takeDemand_meas (n : Station) (d : List Byte) : (s.takeDemand n d).meas = s.meas := by
  unfold State.takeDemand
  split <;> simp
@[simp] theorem State.takeAbort_meas (d : List Byte) : (s.takeAbort d).meas = s.meas := by
  unfold State.takeAbort
  split <;> simp
@[simp] theorem State.takeClear_meas (d : List Byte) : (s.takeClear d).meas = s.meas := by
  unfold State.takeClear
  split <;> simp
@[simp] theorem State.takeRecordQuery_meas (d : List Byte) : (s.takeRecordQuery d).meas = s.meas := by
  unfold State.takeRecordQuery
  repeat' split
  all_goals simp
@[simp] theorem State.takeTraceQuery_meas (d : List Byte) : (s.takeTraceQuery d).meas = s.meas := by
  unfold State.takeTraceQuery
  repeat' split
  all_goals simp

/-- A received frame leaves what its owner leaves: the loss of the link at a frame of the own number leaves it too. -/
theorem State.onRx_meas {f : State → State} (h : (f s).meas = s.meas) (n : Station) : (s.onRx n f).meas = s.meas := by
  unfold State.onRx
  repeat' split
  all_goals simp [h]
theorem State.ifJoined_meas {f : State → State} (h : (f s).meas = s.meas) : (s.ifJoined f).meas = s.meas := by
  unfold State.ifJoined
  split <;> simp [h]
theorem State.ifSharing_meas {f : State → State} (h : (f s).meas = s.meas) : (s.ifSharing f).meas = s.meas := by
  unfold State.ifSharing
  split <;> simp [h]
theorem State.ifDecoding_capture {f : State → State} (h : (f s).meas.capture = s.meas.capture) :
    (s.ifDecoding f).meas.capture = s.meas.capture := by
  unfold State.ifDecoding
  split <;> simp [h]
@[simp] theorem State.latchStraps_meas (g : BitVec 4) : (s.latchStraps g).meas = s.meas := by
  unfold State.latchStraps
  split <;> rfl
@[simp] theorem State.loadImage_meas (b : List Byte) : (s.loadImage b).meas = s.meas := by
  unfold State.loadImage
  dsimp only
  split <;> simp

/-! ### The flags that stand (R151) -/

/-- Every capture flag set in `s` is set in `t`. -/
def State.CapturesStand (s t : State) : Prop := ∀ x : Input, s.meas.capture.get x = true → t.meas.capture.get x = true

variable {s} {t u : State}

theorem State.CapturesStand.of_eq (h : t.meas.capture = s.meas.capture) : s.CapturesStand t := by
  intro x hx
  rw [h, hx]

theorem State.CapturesStand.trans (h : s.CapturesStand t) (h' : t.CapturesStand u) : s.CapturesStand u :=
  fun x hx => h' x (h x hx)

variable (s)

/-- "A flag already set stays set" (R151). -/
theorem State.acceptLevel_capturesStand (i : Input) : s.CapturesStand (s.acceptLevel i) := by
  intro x hx
  unfold State.acceptLevel
  dsimp only
  rw [PerInput.set_get]
  split
  · next h => rw [← h, hx, Bool.true_or]
  · exact hx

theorem State.inputEvent_capturesStand (i : Input) : s.CapturesStand (s.inputEvent i) := by
  unfold State.inputEvent State.event State.takeLevel
  split
  · exact (s.acceptLevel_capturesStand i).trans (.of_eq (by simp))
  · exact .of_eq rfl

theorem forEach_capturesStand {α : Type} {f : State → α → State}
    (h : ∀ (t : State) (a : α), t.CapturesStand (f t a)) (keys : List α) :
    s.CapturesStand (forEach f keys s) := by
  unfold forEach
  induction keys generalizing s with
  | nil => exact .of_eq rfl
  | cons a l ih => exact (h s a).trans (ih (f s a))

/-- Of what stands due at the start of an interval the accepted levels alone write the flags (log 5). -/
theorem State.takeDue_capturesStand : s.CapturesStand s.takeDue :=
  have levels := forEach_capturesStand (f := State.inputEvent) s.sampleEvent.windowEvent State.inputEvent_capturesStand
    allInputs
  have before : s.CapturesStand s.sampleEvent.windowEvent := .of_eq (by simp)
  (before.trans levels).trans (.of_eq (by simp [State.takeDue, State.dueMeasured]))

theorem State.interval_capturesStand (causesFirst : Bool) (r : Readings) :
    s.CapturesStand (s.interval causesFirst r) := by
  unfold State.interval
  split
  · exact .of_eq rfl
  · exact s.takeDue_capturesStand.trans (.of_eq (by simp))

/-! ### Every command (R152) -/

/-- CAPTURE CLEAR and reset alone clear a capture flag (R152). Of the other commands only INPUT_LEVEL_CHANGE and
REGULATION_INTERVAL accept levels; the rest leave the flags exactly as they are. -/
theorem exec_capturesStand {i : Instr} (hr : i ≠ .reset) (hc : ∀ n d, i ≠ .captureClear n d)
    (h : exec i s = .next t) : s.CapturesStand t := by
  cases i
  case reset => exact absurd rfl hr
  case captureClear n d => exact absurd rfl (hc n d)
  case inputLevelChange x =>
    obtain rfl := Host.Outcome.next.inj h
    exact s.inputEvent_capturesStand x
  case regulationInterval causesFirst r =>
    obtain rfl := Host.Outcome.next.inj h
    exact s.interval_capturesStand causesFirst r
  case quadratureError what =>
    have h' : s.ifDecoding State.quadratureError = t := by
      cases what <;> exact Host.Outcome.next.inj h
    subst h'
    exact .of_eq (s.ifDecoding_capture s.quadratureError_capture)
  case configurationRead | busOff | duplicateStationFrame =>
    obtain rfl := Host.Outcome.next.inj h
    refine .of_eq ?_
    split <;> simp
  all_goals
    obtain rfl := Host.Outcome.next.inj h
    refine .of_eq ?_
    simp [State.onRx_meas, State.ifJoined_meas, State.ifSharing_meas, State.ifDecoding_capture]

theorem exec_reset_capture (h : exec .reset s = .next t) (x : Input) : t.meas.capture.get x = false := by
  obtain rfl := Host.Outcome.next.inj h
  exact PerInput.all_get false x

/-! ### CAPTURE CLEAR and HEAD STATUS (R25, R152) -/

/-- A frame of another station, received in JOINED, reaches its owner (R181, R183). -/
theorem State.onRx_ifJoined {n : Station} (hr : s.receives = true) (hn : n ≠ s.station) (hj : s.link.state = .joined)
    (f : State → State) : (s.onRx n fun t => t.ifJoined f) = f s := by
  simp [State.onRx, State.ifJoined, hr, hn, hj]

theorem State.targeted_pair (tgt mask : Byte) : s.targeted [tgt, mask] 2 = decide (tgt.toNat = s.station.val) := by
  simp [State.targeted, natAt, bytesAt, natOfBytes]

theorem State.takeCaptureClear_elsewhere {tgt : Byte} (mask : Byte) (h : tgt.toNat ≠ s.station.val) :
    s.takeCaptureClear [tgt, mask] = s := by
  simp [State.takeCaptureClear, State.targeted_pair, h]

theorem State.takeCaptureClear_addressed {tgt : Byte} (mask : Byte) (h : tgt.toNat = s.station.val) :
    s.takeCaptureClear [tgt, mask] = { s with meas := { s.meas with
      capture := .build fun i => s.meas.capture.get i && !mask.getLsbD (inputBit i) } } := by
  simp [State.takeCaptureClear, State.targeted_pair, h, natAt, bytesAt, natOfBytes]

/-- Byte 3 of HEAD STATUS (section 11.8). -/
theorem State.statusPayload_captures : s.statusPayload[3]?.getD 0 = inputByte s.meas.capture := rfl

/-- Settles O21, from the flags that stand under every other command (`exec_capturesStand`), the bits of the flags' byte
(`inputByte_getLsbD`), and what an addressed CAPTURE CLEAR writes. -/
theorem captureClearClearsTheNamedFlags : Obligations.CaptureClearClearsTheNamedFlags := by
  refine ⟨fun i s t h => ⟨?reset, fun hr hc => exec_capturesStand s hr hc h⟩, ?status, ?clear⟩
  case reset =>
    rintro rfl
    exact exec_reset_capture s h
  case status =>
    intro s x
    rw [s.statusPayload_captures, inputByte_getLsbD]
  case clear =>
    intro s n tgt mask hr hn hj
    have taken : exec (.captureClear n [tgt, mask]) s = .next (s.takeCaptureClear [tgt, mask]) :=
      congrArg Host.Outcome.next (s.onRx_ifJoined hr hn hj _)
    constructor
    · intro elsewhere
      rw [taken, s.takeCaptureClear_elsewhere mask elsewhere]
    · intro addressed
      refine ⟨_, taken, ?_⟩
      rw [s.takeCaptureClear_addressed mask addressed]
      exact ⟨rfl, fun i => PerInput.build_get _ i⟩

end Sys2Proof.Machine

/-! PROOFS. What no step unmakes (R2, R14, R21, R41, R43, R68, R82, R92, R132, R149, R163, R164, R169, R173, R174, R184).
`State.Develops` says of two states of one run what the second keeps of the first: valve lines apart, stores and banks
within their bounds, serials that only rise, and a weld in flight that never loses what it has fixed. It is reflexive and
transitive; every operation has one lemma that carries it on, and the commands cite those. -/

namespace Sys2Proof.Machine

/-! ### The events of an interval are commands (log 5) -/

/-- The commands that an interval takes by itself where they stand due (log 5). -/
def takenWhenDue : Instr → Bool
  | .tenMsSample | .powerWindowComplete | .inputLevelChange _ | .contactorFeedbackTimeout | .shortOnset | .openCircuit
  | .pulseOnEnd | .pulseOffEnd | .boostTimeReached | .currentOff | .upsetStall | .upsetTimeout | .holdTimeEnd
  | .shearTimeout | .shearReturnTimeout | .clampTimeout | .pullStall | .pullTimeout | .releaseRampEnd
  | .clampOpenTimeout | .abortRetractStill | .yieldLimit | .minrunExpiry | .preheatPauseRestart | .settleExpiry
  | .admitTimeout | .peerLapse _ | .peerRemoval _ | .ratingAgeThreshold | .listenPeriodEnd | .lostPeriodEnd
  | .runAssemblySilence _ | .programmeSilence | .programme | .weldRequest | .headStatusPeriod | .demandPeriod => true
  | .reset | .configurationRead _ | .frameOffer _ | .frameAcknowledged | .frameNotAcknowledged | .busOff
  | .duplicateStationFrame | .runFirstFrame _ _ | .programmeFirstFrame _ _ | .runLaterFrame _ _ _ | .rating _ _
  | .demand _ _ | .abort _ _ | .clear _ _ | .captureClear _ _ | .recordQuery _ _ | .traceQuery _ _ | .fetchCompletion
  | .regulationInterval _ _ | .encoderEdge _ | .referenceMark | .quadratureError _ | .resetRelease _ => false

theorem forEach_keeps {α : Type} {P : State → Prop} {f : State → α → State} (keys : List α) {s : State}
    (keep : ∀ u, P u → ∀ a ∈ keys, P (f u a)) (h : P s) : P (forEach f keys s) := by
  unfold forEach
  induction keys generalizing s with
  | nil => exact h
  | cons a l ih =>
    exact ih (fun u hu b hb => keep u hu b (List.mem_cons_of_mem a hb)) (keep s h a List.mem_cons_self)

/-- What each of these commands keeps, the events that stand due when an interval starts keep: each of them is taken as its
own command takes it. -/
theorem State.takeDue_keeps {P : State → Prop}
    (keep : ∀ (i : Instr) (u v : State), takenWhenDue i = true → exec i u = .next v → P u → P v) {s : State} (h : P s) :
    P s.takeDue := by
  have take : ∀ (i : Instr) {u v : State}, takenWhenDue i = true → exec i u = .next v → P u → P v :=
    fun i u v => keep i u v
  have measured : P s.dueMeasured :=
    take .contactorFeedbackTimeout rfl rfl (forEach_keeps _ (fun u hu i _ => take (.inputLevelChange i) rfl rfl hu)
      (take .powerWindowComplete rfl rfl (take .tenMsSample rfl rfl h)))
  have current : P s.dueMeasured.shortEvent.openEvent.pulseOnEvent.pulseOffEvent.boostEvent.currentOffEvent :=
    take .currentOff rfl rfl (take .boostTimeReached rfl rfl (take .pulseOffEnd rfl rfl (take .pulseOnEnd rfl rfl
      (take .openCircuit rfl rfl (take .shortOnset rfl rfl measured)))))
  have phases : P s.dueMeasured.duePhases :=
    take .abortRetractStill rfl rfl (take .clampOpenTimeout rfl rfl (take .releaseRampEnd rfl rfl
      (take .pullTimeout rfl rfl (take .pullStall rfl rfl (take .clampTimeout rfl rfl (take .shearReturnTimeout rfl rfl
        (take .shearTimeout rfl rfl (take .holdTimeEnd rfl rfl (take .upsetTimeout rfl rfl
          (take .upsetStall rfl rfl current))))))))))
  have share : P s.dueMeasured.duePhases.dueShare :=
    take .ratingAgeThreshold rfl rfl
      (forEach_keeps _ (fun u hu n hn => take (.peerRemoval ⟨n, List.mem_range.1 hn⟩) rfl rfl hu)
        (forEach_keeps _ (fun u hu n hn => take (.peerLapse ⟨n, List.mem_range.1 hn⟩) rfl rfl hu)
          (take .admitTimeout rfl rfl (take .settleExpiry rfl rfl (take .preheatPauseRestart rfl rfl
            (take .minrunExpiry rfl rfl (take .yieldLimit rfl rfl phases)))))))
  have runs : P (forEach State.runSilenceEvent (List.range 16)
      s.dueMeasured.duePhases.dueShare.listenEvent.lostEvent) :=
    forEach_keeps _ (fun u hu n hn => take (.runAssemblySilence ⟨n, List.mem_range.1 hn⟩) rfl rfl hu)
      (take .lostPeriodEnd rfl rfl (take .listenPeriodEnd rfl rfl share))
  have complete : P (forEach State.runSilenceEvent (List.range 16)
      s.dueMeasured.duePhases.dueShare.listenEvent.lostEvent).progSilenceEvent.programmeEvent.requestEvent :=
    take .weldRequest rfl rfl (take .programme rfl rfl (take .programmeSilence rfl rfl runs))
  have last := take .demandPeriod rfl rfl (take .headStatusPeriod rfl rfl complete)
  exact last

/-! ### One weld context and a later one -/

/-- What a weld context holds of the things that a step may not unmake, or that have a bound. -/
def WeldCtx.fixed (c : WeldCtx) :=
  (c.serial, c.tag, c.slot, c.prog, c.request, c.startPos, c.pReq, c.outcome, c.ending, c.burnOff, c.weldTime, c.eRaw,
    c.upsetBegun, c.currentBegun, c.faults, c.latches, c.yieldTime)

theorem WeldCtx.follows_iff (c' c : WeldCtx) :
    c'.follows c = true ↔ (c'.prog = c.prog ∧ c'.request = c.request ∧ c'.tag = c.tag ∧ c'.slot = c.slot
      ∧ c'.startPos = c.startPos ∧ c'.pReq = c.pReq) ∧ (c.outcome = none ∨ c'.outcome = c.outcome)
      ∧ (c.ending = none ∨ c'.ending = c.ending) ∧ c.burnOff ≤ c'.burnOff ∧ c.weldTime ≤ c'.weldTime
      ∧ (c.eRaw ≤ c'.eRaw ∨ Config.energyMax < c.eRaw) ∧ (c.upsetBegun = true → c'.upsetBegun = true)
      ∧ (c.currentBegun = true → c'.currentBegun = true) := by
  simp only [WeldCtx.follows, Bool.and_eq_true, decide_eq_true_eq, Bool.or_eq_true, Option.isNone_iff_eq_none,
    Bool.not_eq_true', ← Bool.not_eq_true, and_assoc, ← imp_iff_not_or]

theorem WeldCtx.bounded_iff (c : WeldCtx) :
    c.bounded = true ↔ c.faults.length ≤ 4 ∧ (c.latches.filter fun l => l.kind.repeated).length ≤ 16
      ∧ c.eRaw ≤ Config.energyMax ∧ c.yieldTime ≤ c.yieldLimitMs := by
  simp [WeldCtx.bounded, and_assoc]

/-- `c'` is a later context of the weld of `c`. -/
structure WeldCtx.Becomes (c c' : WeldCtx) : Prop where
  serial : c'.serial = c.serial
  follows : c'.follows c = true
  energy : c.eRaw ≤ Config.energyMax → c'.eRaw ≤ Config.energyMax
  bounded : c.bounded = true → c'.bounded = true

namespace WeldCtx.Becomes

variable {c c' c'' : WeldCtx}

theorem refl (c : WeldCtx) : c.Becomes c where
  serial := rfl
  follows := (WeldCtx.follows_iff c c).2 (by simp)
  energy := id
  bounded := id

/-- The energy never falls, since a step keeps it within its bound (R82). -/
theorem trans (h : c.Becomes c') (h' : c'.Becomes c'') : c.Becomes c'' where
  serial := h'.serial.trans h.serial
  energy := h'.energy ∘ h.energy
  bounded := h'.bounded ∘ h.bounded
  follows := by
    obtain ⟨⟨p1, p2, p3, p4, p5, p6⟩, o, e, b, w, r, u, k⟩ := (WeldCtx.follows_iff _ _).1 h.follows
    obtain ⟨⟨p1', p2', p3', p4', p5', p6'⟩, o', e', b', w', r', u', k'⟩ := (WeldCtx.follows_iff _ _).1 h'.follows
    have hr := h.energy
    have once {α : Type} {x y z : Option α} (hx : x = none ∨ y = x) (hy : y = none ∨ z = y) : x = none ∨ z = x := by
      obtain rfl | rfl := hx
      · exact .inl rfl
      · exact hy
    exact (WeldCtx.follows_iff _ _).2 ⟨⟨p1'.trans p1, p2'.trans p2, p3'.trans p3, p4'.trans p4, p5'.trans p5,
      p6'.trans p6⟩, once o o', once e e', b.trans b', w.trans w', by omega, u' ∘ u, k' ∘ k⟩

/-- A context that differs in nothing that is fixed or bounded. -/
theorem of_fixed (h : c'.fixed = c.fixed) : c.Becomes c' := by
  simp only [WeldCtx.fixed, Prod.mk.injEq] at h
  obtain ⟨hs, ht, hl, hp, hr, hst, hpr, ho, he, hb, hw, hen, hu, hc, hf, hla, hy⟩ := h
  refine ⟨hs, (WeldCtx.follows_iff _ _).2 ?_, ?_, ?_⟩
  · rw [hp, hr, ht, hl, hst, hpr, ho, he, hb, hw, hen, hu, hc]
    simp
  · rw [hen]
    exact id
  · rw [WeldCtx.bounded_iff, WeldCtx.bounded_iff, WeldCtx.yieldLimitMs, WeldCtx.yieldLimitMs, hf, hla, hen, hy, hp]
    exact id

theorem addReason (c : WeldCtx) (r : Reason) : c.Becomes (c.addReason r) := by
  unfold WeldCtx.addReason
  split
  · exact refl c
  · exact of_fixed rfl

/-- R21: an outcome is fixed where none is. -/
theorem outcome (h : c.outcome = none) (v : Option Verdict) : c.Becomes { c with outcome := v } where
  serial := rfl
  follows := (WeldCtx.follows_iff _ _).2 (by simp [h])
  energy := id
  bounded := id

/-- R16: an ending cause is stored where none is. -/
theorem storeEnding (c : WeldCtx) (x : EndCause) (tag : Option Nat) : c.Becomes (c.storeEnding x tag) := by
  unfold WeldCtx.storeEnding
  split
  · exact refl c
  · next h => exact ⟨rfl, (WeldCtx.follows_iff _ _).2 (by simp_all), id, id⟩

theorem judge (c : WeldCtx) : c.Becomes c.judge := by
  unfold WeldCtx.judge
  generalize c.missed = l
  induction l generalizing c with
  | nil => exact refl c
  | cons r l ih => exact (addReason c r).trans (ih _)

theorem appendFault (c : WeldCtx) (x : StopCause) : c.Becomes { c with faults := Machine.appendFault c.faults x } where
  serial := rfl
  follows := (WeldCtx.follows_iff _ _).2 (by simp)
  energy := id
  bounded h := by
    rw [WeldCtx.bounded_iff] at h ⊢
    refine ⟨?_, h.2⟩
    show (Machine.appendFault c.faults x).length ≤ 4
    unfold Machine.appendFault
    split
    · simp only [List.length_append, List.length_singleton]
      omega
    · exact h.1

/-- R149: a repeated kind is listed while fewer than 16 are. -/
theorem latched (c : WeldCtx) (k : LatchKind) (p : Int) (time : Nat) (h : c.lists k = true) :
    c.Becomes { c with latches := c.latches ++ [⟨k, p, time⟩] } where
  serial := rfl
  follows := (WeldCtx.follows_iff _ _).2 (by simp)
  energy := id
  bounded hb := by
    rw [WeldCtx.bounded_iff] at hb ⊢
    refine ⟨hb.1, ?_, hb.2.2⟩
    simp only [WeldCtx.lists, Bool.or_eq_true, Bool.not_eq_true', decide_eq_true_eq] at h
    obtain h | h := h
    · simpa [List.filter_append, h] using hb.2.1
    · simp only [List.filter_append, List.length_append]
      have one : (([⟨k, p, time⟩] : List Latch).filter fun l => l.kind.repeated).length ≤ 1 :=
        List.length_filter_le _ _
      omega

end WeldCtx.Becomes

/-! ### Banks (R169, R173, R174) -/

theorem Bank.formed_iff (b : Bank) :
    b.formed = true ↔ b.blocks.length ≤ Config.bankBlocks
      ∧ (b.capturing = true ∨ b.filling.isSome = true → b.blocks.length < Config.bankBlocks)
      ∧ (∀ k ∈ b.blocks, 1 ≤ k.samples.length ∧ k.samples.length ≤ Config.blockSamples)
      ∧ ∀ k ∈ b.filling, 1 ≤ k.samples.length ∧ k.samples.length < Config.blockSamples := by
  cases hf : b.filling <;> cases hc : b.capturing <;> simp [Bank.formed, hf, hc, and_assoc]

/-- Both banks of a store are formed. -/
def TraceStore.Formed (t : TraceStore) : Prop := ∀ b : Bool, (t.bank b).formed = true

theorem State.banksFormed_iff (s : State) : s.banksFormed = true ↔ s.trace.Formed := by
  simp [State.banksFormed, TraceStore.Formed, TraceStore.bank]

@[simp] theorem TraceStore.bank_setBank (t : TraceStore) (b : Bool) (k : Bank) : (t.setBank b k).bank b = k := by
  cases b <;> rfl

theorem TraceStore.bank_setBank_of_ne (t : TraceStore) {a b : Bool} (h : a ≠ b) (k : Bank) :
    (t.setBank b k).bank a = t.bank a := by
  match a, b, h with
  | false, false, h => exact absurd rfl h
  | true, true, h => exact absurd rfl h
  | false, true, _ => rfl
  | true, false, _ => rfl

@[simp] theorem TraceStore.bank_wake (t : TraceStore) (a b : Bool) : (t.wake a).bank b = t.bank b := by
  unfold TraceStore.wake
  repeat' split
  all_goals rfl

@[simp] theorem TraceStore.bank_markers (t : TraceStore) (n : Nat) (b : Bool) :
    ({ t with markers := n } : TraceStore).bank b = t.bank b := rfl

theorem TraceStore.Formed.setBank {t : TraceStore} (h : t.Formed) {k : Bank} (hk : k.formed = true) (b : Bool) :
    (t.setBank b k).Formed := by
  intro a
  by_cases hab : a = b
  · subst hab
    rw [TraceStore.bank_setBank, hk]
  · rw [TraceStore.bank_setBank_of_ne t hab, h a]

theorem TraceStore.Formed.of_banks {t u : TraceStore} (h : t.Formed) (e : ∀ b, u.bank b = t.bank b) : u.Formed :=
  fun b => (e b).symm ▸ h b

/-- The bank that a closed block makes of a bank (R173, R174). -/
def Bank.closed (k : Bank) (blk : Block) (atEnd : Bool) : Bank :=
  { k with
    blocks := k.blocks ++ [blk]
    filling := none
    capturing := k.capturing && !(decide (Config.bankBlocks ≤ k.blocks.length + 1) && !atEnd)
    truncated := k.truncated || (decide (Config.bankBlocks ≤ k.blocks.length + 1) && !atEnd) }

theorem TraceStore.closeBlock_of_none {t : TraceStore} {b : Bool} (h : (t.bank b).filling = none) (e : Bool) :
    t.closeBlock b e = t := by
  simp [TraceStore.closeBlock, h]

theorem TraceStore.bank_closeBlock {t : TraceStore} {b : Bool} {blk : Block} (h : (t.bank b).filling = some blk)
    (e a : Bool) : (t.closeBlock b e).bank a = (t.setBank b ((t.bank b).closed blk e)).bank a := by
  simp [TraceStore.closeBlock, h, Bank.closed]

/-- A bank with room that holds an open block of at most 32 samples is formed once that is closed, but for the capture that
its end then stops. -/
theorem Bank.closed_formed {k : Bank} {blk : Block} {e : Bool} (hroom : k.blocks.length < Config.bankBlocks)
    (hb : ∀ x ∈ k.blocks, 1 ≤ x.samples.length ∧ x.samples.length ≤ Config.blockSamples)
    (hk : 1 ≤ blk.samples.length ∧ blk.samples.length ≤ Config.blockSamples) :
    ({ k.closed blk e with capturing := (k.closed blk e).capturing && !e } : Bank).formed = true := by
  rw [Bank.formed_iff]
  have hl : (k.blocks ++ [blk]).length = k.blocks.length + 1 := List.length_append
  refine ⟨by simp only [Bank.closed, hl]; omega, ?_, ?_, by simp [Bank.closed]⟩
  · simp only [Bank.closed, hl]
    cases e <;> simp
  · intro x hx
    obtain hx | hx := List.mem_append.1 hx
    · exact hb x hx
    · rw [List.mem_singleton.1 hx]
      exact hk

theorem TraceStore.Formed.closeBlock {t : TraceStore} (h : t.Formed) (b : Bool) : (t.closeBlock b false).Formed := by
  cases hf : (t.bank b).filling with
  | none => rwa [TraceStore.closeBlock_of_none hf]
  | some blk =>
    obtain ⟨-, room, blocks, open'⟩ := (Bank.formed_iff _).1 (h b)
    have hk := Bank.closed_formed (e := false) (room (.inr (by rw [hf]; rfl))) blocks
      ((open' blk hf).imp_right Nat.le_of_lt)
    exact (h.setBank (by simpa using hk) b).of_banks (TraceStore.bank_closeBlock hf false)

/-- The open block after one more sample (R173). -/
def Bank.sampled (k : Bank) (fine : Bool) (phase : Option Nat) (time markers : Nat) (x : Sample) : Block :=
  match k.filling with
  | none => { index := k.blocks.length, fine := fine, phase := phase, time := time, markers := markers, samples := [x] }
  | some b => { b with markers := b.markers + markers, samples := b.samples ++ [x] }

theorem TraceStore.writeSample_eq (t : TraceStore) (b fine : Bool) (phase : Option Nat) (time : Nat) (x : Sample) :
    t.writeSample b fine phase time x =
      if Config.blockSamples ≤ ((t.bank b).sampled fine phase time t.markers x).samples.length then
        ({ t.setBank b { t.bank b with filling := some ((t.bank b).sampled fine phase time t.markers x) } with
          markers := 0 } : TraceStore).closeBlock b false
      else
        { t.setBank b { t.bank b with filling := some ((t.bank b).sampled fine phase time t.markers x) } with
          markers := 0 } := by
  rfl

theorem Bank.sampled_length {k : Bank} (h : k.formed = true) (fine : Bool) (phase : Option Nat) (time markers : Nat)
    (x : Sample) : 1 ≤ (k.sampled fine phase time markers x).samples.length
      ∧ (k.sampled fine phase time markers x).samples.length ≤ Config.blockSamples := by
  have hf := ((Bank.formed_iff _).1 h).2.2.2
  unfold Bank.sampled
  split
  · exact ⟨Nat.le_refl 1, show 1 ≤ Config.blockSamples by decide⟩
  · next b hb =>
    have := hf b hb
    simp only [List.length_append, List.length_singleton]
    omega

theorem TraceStore.Formed.writeSample {t : TraceStore} (h : t.Formed) {b : Bool} (hc : (t.bank b).capturing = true)
    (fine : Bool) (phase : Option Nat) (time : Nat) (x : Sample) : (t.writeSample b fine phase time x).Formed := by
  obtain ⟨most, room, blocks, -⟩ := (Bank.formed_iff _).1 (h b)
  have hroom := room (.inl hc)
  have hk := Bank.sampled_length (h b) fine phase time t.markers x
  rw [TraceStore.writeSample_eq]
  generalize (t.bank b).sampled fine phase time t.markers x = blk at hk
  split
  · have hf : (({ t.setBank b { t.bank b with filling := some blk } with markers := 0 } : TraceStore).bank b).filling
        = some blk := by simp
    have closed := Bank.closed_formed (k := { t.bank b with filling := some blk }) (e := false) hroom blocks hk
    refine (h.setBank (k := Bank.closed { t.bank b with filling := some blk } blk false) (by simpa using closed) b).of_banks
      fun a => ?_
    rw [TraceStore.bank_closeBlock hf]
    by_cases hab : a = b
    · subst hab
      simp
    · simp [TraceStore.bank_setBank_of_ne _ hab]
  · next hlt =>
    refine TraceStore.Formed.of_banks (h.setBank ?_ b) fun a => rfl
    rw [Bank.formed_iff]
    refine ⟨most, fun _ => hroom, blocks, fun k hk' => ?_⟩
    obtain rfl := Option.mem_some_iff.1 hk'
    exact ⟨hk.1, Nat.lt_of_not_le hlt⟩

theorem TraceStore.Formed.capture {t : TraceStore} (h : t.Formed) (b fine : Bool) (phase : Option Nat) (time : Nat)
    (x : Sample) : (t.capture b fine phase time x).Formed := by
  have write : ∀ u : TraceStore, u.Formed →
      (if (u.bank b).capturing then u.writeSample b fine phase time x else u).Formed := by
    intro u hu
    split
    · next hc => exact hu.writeSample hc fine phase time x
    · exact hu
  refine write _ ?_
  split
  · exact h.closeBlock b
  · exact h

/-- Capture ended: the open block is closed, and the bank captures no more (R175). -/
theorem TraceStore.Formed.endCapture {t : TraceStore} (h : t.Formed) (b : Bool) : (t.endCapture b).Formed := by
  unfold TraceStore.endCapture
  split
  · dsimp only
    obtain ⟨most, room, blocks, open'⟩ := (Bank.formed_iff _).1 (h b)
    have ended : ({ (t.closeBlock b true).bank b with capturing := false } : Bank).formed = true := by
      cases hf : (t.bank b).filling with
      | none =>
        rw [TraceStore.closeBlock_of_none hf, Bank.formed_iff]
        exact ⟨most, by simp [hf], blocks, open'⟩
      | some blk =>
        rw [TraceStore.bank_closeBlock hf, TraceStore.bank_setBank]
        have := Bank.closed_formed (k := t.bank b) (e := true) (room (.inr (by rw [hf]; rfl))) blocks
          ((open' blk hf).imp_right Nat.le_of_lt)
        simpa using this
    intro a
    rw [TraceStore.bank_wake, TraceStore.bank_markers]
    by_cases hab : a = b
    · subst hab
      rw [TraceStore.bank_setBank, ended]
    · rw [TraceStore.bank_setBank_of_ne _ hab]
      cases hf : (t.bank b).filling with
      | none => rw [TraceStore.closeBlock_of_none hf, h a]
      | some blk => rw [TraceStore.bank_closeBlock hf, TraceStore.bank_setBank_of_ne _ hab, h a]
  · exact h

end Sys2Proof.Machine

/-! PROOFS. `State.Develops`: what a state keeps of an earlier one, carried through every operation. -/

namespace Sys2Proof.Machine

/-! ### The relation -/

/-- The bounds of the Record Store (R163, R164). -/
def RecordStore.Bounded (r : RecordStore) : Prop :=
  r.list.length ≤ Config.recordLimit ∧ ∀ x ∈ r.list, x.faults.length ≤ 4

theorem State.storesBounded_iff (s : State) :
    s.storesBounded = true ↔ s.link.notices.length ≤ Config.noticeLimit ∧ s.records.Bounded
      ∧ ∀ c ∈ s.ctx, c.bounded = true := by
  cases h : s.ctx <;> simp [State.storesBounded, RecordStore.Bounded, h, and_assoc]

/-- The valve lines of the outputs. -/
def Outputs.lines (o : Outputs) :=
  (o.fixedClose, o.fixedOpen, o.movingClose, o.movingOpen, o.shearAdvance, o.shearRetract)

/-- What `State.Develops` speaks of. -/
def State.stores (s : State) :=
  (s.out.lines, s.wire.lines, s.ctx, s.nextSerial, s.link.notices, s.records.list, s.trace.bank0, s.trace.bank1)

theorem Outputs.apart_of_lines {o p : Outputs} (h : p.lines = o.lines) :
    p.clampsApart = o.clampsApart ∧ p.shearApart = o.shearApart := by
  simp only [Outputs.lines, Prod.mk.injEq] at h
  obtain ⟨h1, h2, h3, h4, h5, h6⟩ := h
  simp [Outputs.clampsApart, Outputs.shearApart, h1, h2, h3, h4, h5, h6]

/-- `t` comes after `s` in a run without a reset between them: valve lines stay apart, stores and banks within their bounds,
serials only rise, and the weld in flight in `t` is that of `s` at a later time, or one begun since. -/
structure State.Develops (s t : State) : Prop where
  lines : s.linesApart = true → t.linesApart = true
  stores : s.storesBounded = true → t.storesBounded = true
  banks : s.banksFormed = true → t.banksFormed = true
  serials : s.nextSerial ≤ t.nextSerial
  weld : ∀ c', t.ctx = some c' →
    (s.nextSerial ≤ c'.serial ∧ c'.serial < t.nextSerial) ∨ ∃ c, s.ctx = some c ∧ c.Becomes c'

namespace State.Develops

variable {s t u : State}

theorem refl (s : State) : s.Develops s where
  lines := id
  stores := id
  banks := id
  serials := Nat.le_refl _
  weld c' h := .inr ⟨c', h, .refl c'⟩

theorem trans (h : s.Develops t) (h' : t.Develops u) : s.Develops u where
  lines := h'.lines ∘ h.lines
  stores := h'.stores ∘ h.stores
  banks := h'.banks ∘ h.banks
  serials := Nat.le_trans h.serials h'.serials
  weld c'' hu := by
    obtain ⟨low, high⟩ | ⟨c', ht, hc⟩ := h'.weld c'' hu
    · exact .inl ⟨Nat.le_trans h.serials low, high⟩
    · obtain ⟨low, high⟩ | ⟨c, hs, hb⟩ := h.weld c' ht
      · rw [← hc.serial] at low high
        exact .inl ⟨low, Nat.lt_of_lt_of_le high h'.serials⟩
      · exact .inr ⟨c, hs, hb.trans hc⟩

/-- A state with the same stores. -/
theorem same (h : s.Develops t) (e : u.stores = t.stores) : s.Develops u := by
  simp only [State.stores, Prod.mk.injEq] at e
  obtain ⟨ho, hw, hc, hn, hq, hr, h0, h1⟩ := e
  obtain ⟨oc, os⟩ := Outputs.apart_of_lines ho
  obtain ⟨wc, ws⟩ := Outputs.apart_of_lines hw
  refine ⟨fun x => ?_, fun x => ?_, fun x => ?_, hn ▸ h.serials, fun c' hu => ?_⟩
  · rw [State.linesApart, oc, os, wc, ws]
    exact h.lines x
  · rw [State.storesBounded, hq, hr, hc]
    exact h.stores x
  · rw [State.banksFormed, h0, h1]
    exact h.banks x
  · rw [hn]
    exact h.weld c' (hc ▸ hu)

/-- The weld context is left, or is that of the weld in flight at a later time. -/
theorem setCtx {c c' : WeldCtx} (h : s.Develops t) (ht : t.ctx = some c) (hc : c.Becomes c') :
    s.Develops { t with ctx := some c' } := by
  refine h.trans ⟨id, fun x => ?_, id, Nat.le_refl _, fun d hd => .inr ⟨c, ht, ?_⟩⟩
  · rw [State.storesBounded_iff] at x ⊢
    refine ⟨x.1, x.2.1, fun d hd => ?_⟩
    obtain rfl := Option.mem_some_iff.1 hd
    exact hc.bounded (x.2.2 c ht)
  · obtain rfl := Option.some.inj hd
    exact hc

theorem onCtx {f : WeldCtx → WeldCtx} (h : s.Develops t) (hf : ∀ c, t.ctx = some c → c.Becomes (f c)) :
    s.Develops (t.onCtx f) := by
  cases ht : t.ctx with
  | none =>
    refine h.same ?_
    simp only [State.stores, State.onCtx, ht]
    rfl
  | some c =>
    refine (h.setCtx ht (hf c ht)).same ?_
    simp only [State.stores, State.onCtx, ht]
    rfl

theorem setMark {c c' : WeldCtx} (h : s.Develops t) (ht : t.ctx = some c) (hc : c'.fixed = c.fixed) :
    s.Develops { t with ctx := some c' } :=
  h.setCtx ht (.of_fixed hc)

/-- A change of the context that fixes nothing and bounds nothing. -/
theorem mark {f : WeldCtx → WeldCtx} (h : s.Develops t) (hf : ∀ c : WeldCtx, (f c).fixed = c.fixed) :
    s.Develops (t.onCtx f) :=
  h.onCtx fun c _ => .of_fixed (hf c)

/-- The weld is over: its context is discarded (R22). -/
theorem discard (h : s.Develops t) : s.Develops { t with ctx := none } := by
  refine h.trans ⟨id, fun x => ?_, id, Nat.le_refl _, fun d hd => nomatch hd⟩
  rw [State.storesBounded_iff] at x ⊢
  exact ⟨x.1, x.2.1, fun d hd => nomatch hd⟩

/-! ### Notices, latches, outputs -/

theorem notice (h : s.Develops t) (n : Notice) : s.Develops (t.notice n) := by
  unfold State.notice
  split
  · next hroom =>
    refine h.trans ⟨id, fun x => ?_, id, Nat.le_refl _, fun c' hc => .inr ⟨c', hc, .refl c'⟩⟩
    rw [State.storesBounded_iff] at x ⊢
    refine ⟨?_, x.2⟩
    simp only [List.length_append, List.length_singleton]
    omega
  · exact h

theorem noticeFault (h : s.Develops t) (x : Reason) (tag : Option Nat) : s.Develops (t.noticeFault x tag) := by
  unfold State.noticeFault
  split
  · exact h
  · exact h.notice _

theorem latch (h : s.Develops t) (k : LatchKind) (p : Int) : s.Develops (t.latch k p) := by
  unfold State.latch
  split
  · exact h
  · next c hc =>
    split
    · next hl =>
      refine (h.setCtx hc (.latched c k p c.weldTime hl)).same ?_
      dsimp only [State.stores]
      split <;> rfl
    · exact h.setMark hc rfl

theorem setVelocity (h : s.Develops t) (v : Int) : s.Develops (t.setVelocity v) := h.same rfl
theorem setForce (h : s.Develops t) (n : Nat) : s.Develops (t.setForce n) := h.same rfl
theorem setStep (h : s.Develops t) (n : Nat) : s.Develops (t.setStep n) := h.same rfl
theorem openContactor (h : s.Develops t) : s.Develops t.openContactor := h.same rfl
theorem closeContactor (h : s.Develops t) : s.Develops t.closeContactor := h.same rfl
theorem cancelRise (h : s.Develops t) : s.Develops t.cancelRise := h.same rfl
theorem clearYield (h : s.Develops t) : s.Develops t.clearYield :=
  have marked := h.mark (f := fun c => { c with pause := none, guard := if t.yielded then none else c.guard }) fun _ => rfl
  marked.same rfl

/-- R43: the two lines of a clamp are set apart. -/
theorem setClamps (h : s.Develops t) {close opn : Bool} (hco : (close && opn) = false) :
    s.Develops (t.setClamps close opn) := by
  refine h.trans ⟨fun x => ?_, id, id, Nat.le_refl _, fun c' hc => .inr ⟨c', hc, .refl c'⟩⟩
  simp only [State.linesApart, Outputs.clampsApart, State.setClamps, hco, Bool.and_eq_true] at x ⊢
  exact ⟨⟨⟨⟨rfl, rfl⟩, x.1.1.2⟩, x.1.2⟩, x.2⟩

/-- R92: the two shear lines are set apart. -/
theorem setShear (h : s.Develops t) {advance retract : Bool} (har : (advance && retract) = false) :
    s.Develops (t.setShear advance retract) := by
  refine h.trans ⟨fun x => ?_, id, id, Nat.le_refl _, fun c' hc => .inr ⟨c', hc, .refl c'⟩⟩
  simp only [State.linesApart, Outputs.shearApart, State.setShear, har, Bool.and_eq_true] at x ⊢
  exact ⟨⟨⟨x.1.1.1, rfl⟩, x.1.2⟩, x.2⟩

theorem placeDemand (h : s.Develops t) : s.Develops t.placeDemand :=
  h.same (by simp [State.stores])

theorem declare (h : s.Develops t) : s.Develops t.declare :=
  h.same (by simp [State.stores])

theorem raise (h : s.Develops t) (x : RiseSource) (n c : Nat) : s.Develops (t.raise x n c) :=
  State.Develops.placeDemand (h.same rfl)

theorem event (h : s.Develops t) {act : State → State} (ha : due = true → s.Develops (act t)) :
    s.Develops (t.event due act) := by
  unfold State.event
  split
  · next hd => exact (ha hd).declare
  · exact h

/-! ### The outcome and the record (R21, R160 to R164) -/

theorem records (h : s.Develops t) {r : RecordStore}
    (hr : t.records.Bounded → (∀ c, t.ctx = some c → c.bounded = true) → r.Bounded) :
    s.Develops { t with records := r } := by
  refine h.trans ⟨id, fun x => ?_, id, Nat.le_refl _, fun c' hc => .inr ⟨c', hc, .refl c'⟩⟩
  rw [State.storesBounded_iff] at x ⊢
  exact ⟨x.1, hr x.2.1 x.2.2, x.2.2⟩

end State.Develops

theorem RecordStore.Bounded.insert {r : RecordStore} (h : r.Bounded) {x : WeldRecord} (hx : x.faults.length ≤ 4) :
    (r.insert x).Bounded := by
  obtain ⟨most, faults⟩ := h
  constructor
  · simp only [RecordStore.insert, List.length_append, List.length_singleton]
    split
    · rw [List.length_drop]
      have : 1 ≤ Config.recordLimit := by decide
      omega
    · omega
  · intro y hy
    obtain hy | hy := List.mem_append.1 hy
    · refine faults y ?_
      split at hy
      · exact List.mem_of_mem_drop hy
      · exact hy
    · rw [List.mem_singleton.1 hy]
      exact hx

theorem appendFault_length_le {l : List StopCause} (h : l.length ≤ 4) (x : StopCause) : (appendFault l x).length ≤ 4 := by
  unfold appendFault
  split
  · simp only [List.length_append, List.length_singleton]
    omega
  · exact h

theorem RecordStore.Bounded.map {r : RecordStore} (h : r.Bounded) {f : WeldRecord → WeldRecord}
    (hf : ∀ x, x.faults.length ≤ 4 → (f x).faults.length ≤ 4) : ({ r with list := r.list.map f } : RecordStore).Bounded := by
  refine ⟨(List.length_map f).trans_le h.1, fun y hy => ?_⟩
  obtain ⟨x, hx, rfl⟩ := List.mem_map.1 hy
  exact hf x (h.2 x hx)

theorem RecordStore.Bounded.appendFault {r : RecordStore} (h : r.Bounded) (n : Nat) (x : StopCause) :
    (r.appendFault n x).Bounded :=
  h.map fun y hy => by
    split
    · exact appendFault_length_le hy x
    · exact hy

theorem RecordStore.Bounded.dropTrace {r : RecordStore} (h : r.Bounded) (n : Nat) : (r.dropTrace n).Bounded :=
  h.map fun y hy => by split <;> exact hy

namespace State.Develops

variable {s t u : State}

theorem trace (h : s.Develops t) {x : TraceStore} (hx : t.trace.Formed → x.Formed) :
    s.Develops { t with trace := x } := by
  refine h.trans ⟨id, id, fun y => ?_, Nat.le_refl _, fun c' hc => .inr ⟨c', hc, .refl c'⟩⟩
  rw [State.banksFormed_iff] at y ⊢
  exact hx y

/-- R21: the outcome of the weld in flight is fixed, where it is not yet. -/
theorem settle (h : s.Develops t) (v : Verdict) (ho : ∀ c, t.ctx = some c → c.outcome = Option.none) :
    s.Develops (t.settle v) := by
  unfold State.settle
  split
  · exact h
  · next c hc =>
    dsimp only
    refine notice ?_ _
    have ended := h.trace (x := t.trace.endCapture (bankOf c.serial)) fun x => x.endCapture _
    have recorded := ended.records
      (r := t.records.insert (c.record v ((t.trace.endCapture (bankOf c.serial)).reference (bankOf c.serial))))
      fun x hb => x.insert ((WeldCtx.bounded_iff c).1 (hb c hc)).1
    exact recorded.setCtx hc (.outcome (ho c hc) (some v))

theorem settleAtStop (h : s.Develops t) (x : StopCause) : s.Develops (t.settleAtStop x) := by
  unfold State.settleAtStop
  split
  · exact h
  · next c hc =>
    split
    · exact h.records fun y _ => y.appendFault _ _
    · next ho =>
      have none : c.outcome = none := by simpa using ho
      split
      · refine (h.setCtx hc (.addReason c x.reason)).settle .reject fun d hd => ?_
        obtain rfl := Option.some.inj hd
        unfold WeldCtx.addReason
        split <;> exact none
      · exact h.settle .aborted fun d hd => Option.some.inj (hc.symm.trans hd) ▸ none

end State.Develops

@[simp] theorem WeldCtx.addReason_outcome (c : WeldCtx) (r : Reason) : (c.addReason r).outcome = c.outcome := by
  unfold WeldCtx.addReason
  split <;> rfl

/-- The judgement adds reasons and nothing else (R159). -/
theorem WeldCtx.judge_outcome (c : WeldCtx) : c.judge.outcome = c.outcome := by
  unfold WeldCtx.judge
  generalize c.missed = l
  induction l generalizing c with
  | nil => rfl
  | cons r l ih => exact (ih _).trans (c.addReason_outcome r)

namespace State.Develops

variable {s t u : State}

theorem settleAtRelease (h : s.Develops t) : s.Develops t.settleAtRelease := by
  unfold State.settleAtRelease
  split
  · exact h
  · next c hc =>
    split
    · exact h
    · next ho =>
      have none : c.outcome = none := by simpa using ho
      split
      · exact h.settle .aborted fun d hd => Option.some.inj (hc.symm.trans hd) ▸ none
      · exact (h.setCtx hc (.judge c)).settle _ fun d hd => Option.some.inj hd ▸ (c.judge_outcome.trans none)

/-! ### The walk through the records -/

theorem enterRecord (h : s.Develops t) (e : Engine) (i : Nat) : s.Develops (t.enterRecord e i) := by
  have cleared : s.Develops (if e = .preheat ∨ e = .flash then t else t.clearYield) := by
    split
    · exact h
    · exact h.clearYield
  have entered := (cleared.mark (f := fun c =>
    { c with phase := some i, phaseTimer := 0, exitMet := false, moveDue := false }) fun _ => rfl)
  unfold State.enterRecord
  dsimp only
  have moved := entered.same (u := { (if e = .preheat ∨ e = .flash then t else t.clearYield).onCtx fun c =>
    { c with phase := some i, phaseTimer := 0, exitMet := false, moveDue := false } with engine := e }) rfl
  split
  · exact moved
  · split
    · exact moved
    · split
      · exact moved.notice _
      · exact moved

theorem closeEpisode (h : s.Develops t) : s.Develops t.closeEpisode := by
  unfold State.closeEpisode
  split
  · exact h.mark fun _ => rfl
  · exact h

theorem leaveRegulator (h : s.Develops t) : s.Develops t.leaveRegulator :=
  (h.closeEpisode.mark (f := fun c =>
    { c.restartRuns with
      sub := Option.none, drawTarget := Option.none, retract := Option.none, guard := Option.none
      abortTarget := Option.none, abortStill := 0 }) fun _ => rfl).same rfl

theorem stopPower (h : s.Develops t) : s.Develops t.stopPower := h.mark fun _ => rfl

theorem completeRelease (h : s.Develops t) : s.Develops t.completeRelease :=
  (h.setClamps (close := false) (opn := false) rfl).settleAtRelease.discard.same rfl

theorem enterOpening (h : s.Develops t) : s.Develops t.enterOpening := by
  have opening := (h.setClamps (close := false) (opn := true) rfl).same
    (u := { t.setClamps false true with
      stress := { t.stress with release := some .opening, releaseTimer := .started } }) rfl
  unfold State.enterOpening
  dsimp only
  split
  · exact opening.completeRelease
  · exact opening

theorem enterWaiting (h : s.Develops t) : s.Develops t.enterWaiting := by
  have waiting := ((h.setClamps (close := false) (opn := false) rfl).same
    (u := { t.setClamps false false with
      stress := { t.stress with release := some .waiting, releaseTimer := .started } }) rfl).noticeFault
    .releaseTimeout Option.none
  unfold State.enterWaiting
  dsimp only
  split
  · exact waiting.completeRelease
  · exact waiting

theorem enterReleasing (h : s.Develops t) : s.Develops t.enterReleasing := by
  unfold State.enterReleasing
  extract_lets f0 i s1 _ _ _ s2 s3
  have power : s.Develops s1 := (h.leaveRegulator.enterRecord .releasing i).stopPower
  have ramping : s.Develops s3 :=
    (power.mark (f := fun c => { c with releasingEntered := true }) fun _ => rfl).same rfl
  split
  · exact ramping.enterOpening
  · exact ramping

theorem endTrim (h : s.Develops t) : s.Develops t.endTrim :=
  State.Develops.enterReleasing ((h.setShear (advance := false) (retract := false) rfl).same rfl)

theorem enterReturning (h : s.Develops t) : s.Develops t.enterReturning := by
  have returning := (h.setShear (advance := false) (retract := true) rfl).same
    (u := { t.setShear false true with upset := { t.upset with shear := some .returning, shearTimer := 0 } }) rfl
  unfold State.enterReturning
  dsimp only
  split
  · exact returning.endTrim
  · exact returning

theorem enterTrim (h : s.Develops t) (i : Nat) : s.Develops (t.enterTrim i) := by
  unfold State.enterTrim
  dsimp only
  split
  · exact ((h.enterRecord .trim i).setShear (advance := true) (retract := false) rfl).same rfl
  · exact ((h.enterRecord .trim i).onCtx fun c _ => .addReason c _).enterReturning

theorem enterHold (h : s.Develops t) (i : Nat) : s.Develops (t.enterHold i) :=
  ((h.enterRecord .hold i).setVelocity _).setForce _

theorem endHold (h : s.Develops t) : s.Develops t.endHold := by
  have latched := h.latch .holdEnd t.meas.intervalPos
  unfold State.endHold
  dsimp only
  split
  · exact latched
  · split
    · exact latched.enterTrim _
    · exact latched.enterReleasing

theorem takeCurrentOff (h : s.Develops t) : s.Develops t.takeCurrentOff :=
  (((h.openContactor.mark (f := fun c => { c with curTime := some t.upset.currentTimer.ms }) fun _ => rfl).same
    (u := { t.openContactor.onCtx fun c => { c with curTime := some t.upset.currentTimer.ms } with
      upset := { t.upset with currentTimer := t.upset.currentTimer.stop } }) rfl).latch .currentOff
        t.meas.intervalPos).stopPower

/-- R85: UPSET START marks the weld for good. -/
theorem beginUpset (h : s.Develops t) (p : Option Int) (f : Option Nat) :
    s.Develops (t.onCtx fun c => { c with upStart := p, upsetBegun := true, peak := f }) :=
  h.onCtx fun c _ => ⟨rfl, (WeldCtx.follows_iff _ _).2 (by simp), id, id⟩

theorem enterUpset (h : s.Develops t) (i : Nat) : s.Develops (t.enterUpset i) := by
  unfold State.enterUpset
  extract_lets s1 _ _ s2
  have begun : s.Develops s1 := (h.leaveRegulator.enterRecord .upset i).latch .upsetStart t.meas.intervalPos
  have stroke : s.Develops s2 := (begun.beginUpset (some s1.meas.intervalPos) (some s1.meas.fm)).same rfl
  split
  · exact stroke
  · extract_lets s3
    have moving : s.Develops s3 := (stroke.setVelocity _).setForce _
    split
    · exact moving.takeCurrentOff
    · exact moving

theorem endUpset (h : s.Develops t) : s.Develops t.endUpset := by
  have off : s.Develops (if (t.ctx.bind fun c => c.curTime).isSome then t else t.takeCurrentOff) := by
    split
    · exact h
    · exact h.takeCurrentOff
  unfold State.endUpset
  dsimp only
  generalize (if (t.ctx.bind fun c => c.curTime).isSome then t else t.takeCurrentOff) = v at *
  have ended := (off.mark (f := fun c =>
    { c with distance := some (c.upsetAdvance v.meas.intervalPos), peak := some (max (c.peak.getD 0) v.meas.fm) })
    fun _ => rfl).latch .upsetEnd v.meas.intervalPos
  split
  · exact ended
  · exact ended.enterHold _

theorem enterBoost (h : s.Develops t) (i : Nat) : s.Develops (t.enterBoost i) := by
  have entered := h.leaveRegulator.enterRecord .boost i
  unfold State.enterBoost
  dsimp only
  split
  · exact entered
  · exact (((((entered.closeContactor.mark (f := fun c => { c with boostEntry := some c.burnOff }) fun _ => rfl).setStep
      _).setVelocity _).setForce _).latch _ _)

theorem endBoost (h : s.Develops t) : s.Develops t.endBoost := by
  have timed := h.mark (f := fun c => { c with boostTime := some c.phaseTimer }) fun _ => rfl
  unfold State.endBoost
  dsimp only
  split
  · exact timed
  · exact timed.enterUpset _

theorem enterFlash (h : s.Develops t) (i : Nat) : s.Develops (t.enterFlash i) := by
  unfold State.enterFlash
  extract_lets s1
  have entered : s.Develops s1 := (h.enterRecord .flash i).closeContactor
  split
  · exact entered
  · next c hc =>
    split
    · exact entered
    · extract_lets rise c1 s2
      have regulated : s.Develops s2 := (entered.setMark (c' := c1) hc rfl).same rfl
      have marked : s2.ctx = some c1 := rfl
      split
      · refine (regulated.setMark marked ?_).same rfl
        rfl
      · exact regulated

theorem restoreStep (h : s.Develops t) : s.Develops t.restoreStep := by
  unfold State.restoreStep
  split
  · exact h.setStep _
  · exact h

theorem makeMove (h : s.Develops t) : s.Develops t.makeMove := by
  have ended := h.cancelRise.restoreStep
  unfold State.makeMove
  dsimp only
  split
  · exact ended
  · split
    · exact ended.enterBoost _
    · exact ended.enterUpset _

theorem leaveFlash (h : s.Develops t) (m : Option (Nat × Nat)) : s.Develops (t.leaveFlash m) := by
  unfold State.leaveFlash
  split
  · exact h
  · split
    · exact h.enterFlash _
    · split
      · exact (h.mark (f := fun c => { c with moveDue := true }) fun _ => rfl).same rfl
      · exact h.makeMove

theorem flashExit (h : s.Develops t) : s.Develops t.flashExit := by
  have met := (h.latch .flashEnd t.meas.intervalPos).mark (f := fun c => { c with exitMet := true }) fun _ => rfl
  unfold State.flashExit
  dsimp only
  split
  · exact met
  · split
    · refine raise ?_ _ _ _
      exact met.same rfl
    · exact met.leaveFlash _

theorem enterApproach (h : s.Develops t) : s.Develops t.enterApproach := by
  unfold State.enterApproach
  split
  · exact h
  · extract_lets s1
    have closed : s.Develops s1 := by
      dsimp only [s1]
      split
      · exact h
      · exact h.closeContactor
    exact (closed.mark (f := fun c => { c with sub := some .approach, subTimer := 0, drawTarget := Option.none })
      fun _ => rfl).setVelocity _

theorem enterPreheat (h : s.Develops t) (i : Nat) : s.Develops (t.enterPreheat i) := by
  have entered := h.enterRecord .preheat i
  unfold State.enterPreheat
  dsimp only
  split
  · exact entered
  · exact ((entered.setStep _).setForce _).enterApproach

theorem enterPulseOff (h : s.Develops t) : s.Develops t.enterPulseOff := by
  unfold State.enterPulseOff
  split
  · exact h.openContactor
  · next r _ =>
    exact (h.openContactor.mark (f := fun c =>
      { c with sub := some .pulseOff, subTimer := 0, drawTarget := some (t.openContactor.meas.position - r.openDistance) })
      fun _ => rfl).setVelocity _

theorem preheatExit (h : s.Develops t) : s.Develops t.preheatExit := by
  have met := h.mark (f := fun c => { c with exitMet := true }) fun _ => rfl
  unfold State.preheatExit
  dsimp only
  split
  · exact met
  · split
    · refine (raise ?_ _ _ _).enterApproach
      exact met.same rfl
    · exact met.enterFlash _

theorem endPulseOff (h : s.Develops t) : s.Develops t.endPulseOff := by
  unfold State.endPulseOff
  split
  · exact h
  · split
    · exact h
    · split
      · exact h.preheatExit
      · exact h.enterApproach

theorem enterAdmitting (h : s.Develops t) : s.Develops t.enterAdmitting := by
  unfold State.enterAdmitting
  extract_lets _ s1
  have left : s.Develops s1 :=
    (h.mark (f := fun c => { c with phase := Option.none, phaseTimer := 0, exitMet := false, moveDue := false })
      fun _ => rfl).same rfl
  split
  · exact left
  · split
    · exact left.raise _ _ _
    · exact left.raise _ _ _
    · exact left

theorem endPull (h : s.Develops t) : s.Develops t.endPull := by
  unfold State.endPull
  extract_lets s1
  have latched : s.Develops s1 := h.latch .pullEnd t.meas.position
  split
  · exact latched
  · next c hc =>
    extract_lets achieved tolerance c1 c2
    have achieves : c.Becomes c1 := .of_fixed rfl
    refine enterAdmitting (latched.setCtx hc ?_)
    dsimp only [c2]
    split
    · exact achieves.trans (.addReason _ _)
    · exact achieves

theorem enterPull (h : s.Develops t) (i : Nat) : s.Develops (t.enterPull i) := by
  unfold State.enterPull
  extract_lets s1
  have entered : s.Develops s1 := h.enterRecord .pulling i
  split
  · exact entered
  · extract_lets s3
    have pulling : s.Develops s3 :=
      (entered.mark (f := fun c => { c with pullStart := some s1.meas.position }) fun _ => rfl).same rfl
    split
    · exact pulling.endPull
    · exact pulling

theorem leavePull (h : s.Develops t) : s.Develops t.leavePull := by
  unfold State.leavePull
  split
  · exact h.mark fun _ => rfl
  · exact h

theorem clampExit (h : s.Develops t) : s.Develops t.clampExit := by
  have done := (h.mark (f := fun c => { c with clampDone := true }) fun _ => rfl).same
    (u := { t.onCtx fun c => { c with clampDone := true } with
      stress := { t.stress with clampTimer := t.stress.clampTimer.stop } }) rfl
  unfold State.clampExit
  dsimp only
  split
  · exact done
  · split
    · exact done.enterPull _
    · exact done.enterAdmitting

theorem enterClamp (h : s.Develops t) : s.Develops t.enterClamp := by
  unfold State.enterClamp
  extract_lets _ _ s1
  have entered : s.Develops s1 :=
    ((((h.enterRecord .clamping 0).setClamps (close := true) (opn := false) rfl).setVelocity 0).setForce 0).same rfl
  split
  · exact entered.clampExit
  · exact entered

/-- R6: current begun marks the weld for good. -/
theorem beginCurrent (h : s.Develops t) : s.Develops (t.onCtx fun c => { c with currentBegun := true }) :=
  h.onCtx fun c _ => ⟨rfl, (WeldCtx.follows_iff _ _).2 (by simp), id, id⟩

theorem sequencerAdmitted (h : s.Develops t) (m : Nat × Nat) : s.Develops (t.sequencerAdmitted m) := by
  have taken : s.Develops { t with awaiting := false } := h.same rfl
  unfold State.sequencerAdmitted
  dsimp only
  split
  · exact taken
  · split
    · split
      · exact taken.beginCurrent
      · split
        · exact taken.beginCurrent.enterPreheat _
        · exact taken.beginCurrent.enterFlash _
    · exact taken.enterFlash _
    · exact taken.leaveFlash _
    all_goals exact taken

end State.Develops
end Sys2Proof.Machine

/-! PROOFS. `State.Develops` through the causes, the shares, the bus, the interval, and so through every command. -/

namespace Sys2Proof.Machine

namespace State.Develops

variable {s t u : State}

/-! ### Causes (R12 to R20) -/

theorem reason (h : s.Develops t) (r : Reason) : s.Develops (t.onCtx fun c => c.addReason r) :=
  h.onCtx fun c _ => .addReason c r

theorem unitsAtStop (h : s.Develops t) : s.Develops t.unitsAtStop := by
  unfold State.unitsAtStop
  extract_lets s1 s2 s3 s4
  have left : s.Develops s1 := h.leavePull
  have boosted : s.Develops s2 := by
    dsimp only [s2]
    split
    · exact left.mark (f := fun c => { c with boostTime := some c.phaseTimer }) fun _ => rfl
    · exact left
  have upset : s.Develops s3 := by
    dsimp only [s3]
    split
    · exact boosted.mark fun _ => rfl
    · exact boosted
  have stopped : s.Develops s4 := upset.leaveRegulator.stopPower
  exact stopped.same rfl

theorem stopHead (h : s.Develops t) (x : StopCause) : s.Develops (t.stopHead x) := by
  unfold State.stopHead
  extract_lets s1 s2 _ s3 s4
  have off : s.Develops s2 :=
    ((h.openContactor.setVelocity 0).setForce s1.wireForce).setShear (advance := false) (retract := false) rfl
  have cleared : s.Develops s3 := off.cancelRise.clearYield.same rfl
  have listed : s.Develops s4 := cleared.unitsAtStop.onCtx fun c _ =>
    (WeldCtx.Becomes.appendFault c x).trans (.of_fixed rfl)
  refine settleAtStop (noticeFault ?_ _ _) x
  exact listed.same rfl

theorem appendStop (h : s.Develops t) (x : StopCause) : s.Develops (t.appendStop x) := by
  unfold State.appendStop
  split
  · exact h
  · next c hc =>
    have recorded := h.records (r := t.records.appendFault c.serial x) fun y _ => y.appendFault _ _
    exact (recorded.setCtx hc (.appendFault c x)).noticeFault _ _

theorem stopCause (h : s.Develops t) (x : StopCause) : s.Develops (t.stopCause x) := by
  unfold State.stopCause
  split
  · exact h
  · exact h
  · exact h
  · exact h.appendStop x
  all_goals exact h.stopHead x

theorem earlyEnd (h : s.Develops t) (x : EndCause) : s.Develops (t.earlyEnd x) := by
  unfold State.earlyEnd
  extract_lets _ s1
  have cancelled : s.Develops s1 := h.cancelRise.same rfl
  exact (cancelled.reason _).leavePull.enterReleasing

theorem startAbort (h : s.Develops t) (x : EndCause) : s.Develops (t.startAbort x) := by
  unfold State.startAbort
  extract_lets _ s1 s2
  have cancelled : s.Develops s1 := h.openContactor.cancelRise.clearYield.same rfl
  have idle : s.Develops s2 := (cancelled.reason _).leaveRegulator
  have marked := idle.mark (f := fun c =>
    { c with
      abortTarget := some (s2.meas.position - s2.image.abortDistance)
      abortStill := 0
      contactPending := false
      restartDue := t.pauseDue
      moveDue := false }) fun _ => rfl
  exact marked.same rfl

theorem forceUpset (h : s.Develops t) (x : EndCause) : s.Develops (t.forceUpset x) := by
  unfold State.forceUpset
  exact (h.onCtx fun c _ => (WeldCtx.Becomes.addReason c _).trans (.addReason _ _)).endBoost

theorem endCause (h : s.Develops t) (x : EndCause) (tag : Option Nat) : s.Develops (t.endCause x tag) := by
  unfold State.endCause
  extract_lets s1
  have stored : s.Develops s1 := (h.onCtx fun c _ => .storeEnding c x tag).noticeFault _ _
  split
  · exact h
  · exact h
  · exact h
  · exact h
  · exact h.noticeFault _ _
  · exact stored.earlyEnd x
  · exact stored.earlyEnd x
  · exact stored.earlyEnd x
  · split
    · exact stored.reason _
    · exact stored.startAbort x
  · split
    · exact stored.reason _
    · exact stored.startAbort x
  · exact stored.forceUpset x
  · exact stored.onCtx fun c _ => (WeldCtx.Becomes.addReason c _).trans (.addReason _ _)
  · exact stored.onCtx fun c _ => (WeldCtx.Becomes.addReason c _).trans (.addReason _ _)
  · exact stored.onCtx fun c _ => (WeldCtx.Becomes.addReason c _).trans (.addReason _ _)

/-! ### Yield Control and the own rise (R115 to R138) -/

theorem cancelResume (h : s.Develops t) : s.Develops t.cancelResume := by
  unfold State.cancelResume
  split
  · exact h.same rfl
  · exact h

theorem yieldLimited (h : s.Develops t) : s.Develops t.yieldLimited :=
  (h.cancelResume.mark (f := fun c => { c with limitReported := true }) fun _ => rfl).endCause _ _

theorem pauseRestarts (h : s.Develops t) : s.Develops t.pauseRestarts := by
  unfold State.pauseRestarts
  extract_lets s1
  have restarted : s.Develops s1 := h.mark fun _ => rfl
  split
  · exact restarted.cancelResume.endCause _ _
  · exact restarted

theorem regulatorResumes (h : s.Develops t) : s.Develops t.regulatorResumes := by
  unfold State.regulatorResumes
  split
  · exact h.setStep _
  · split
    · exact h.endPulseOff
    · exact h

theorem resumeAdmitted (h : s.Develops t) : s.Develops t.resumeAdmitted := by
  unfold State.resumeAdmitted
  extract_lets s1
  have latched : s.Develops s1 := by
    refine latch ?_ _ _
    exact h.same rfl
  exact (latched.mark (f := fun c =>
    { c with sinceResume := some 0, minrunBar := true, pause := Option.none, restartDue := false, guard := Option.none })
    fun _ => rfl).regulatorResumes

theorem admitRise (h : s.Develops t) (a : Ask) : s.Develops (t.admitRise a) := by
  unfold State.admitRise
  extract_lets _ s1
  have ended : s.Develops s1 := h.same rfl
  split
  · exact ended.sequencerAdmitted _
  · split
    · exact ended.yieldLimited
    · exact ended.resumeAdmitted

theorem withdrawRise (h : s.Develops t) : s.Develops t.withdrawRise := by
  refine placeDemand ?_
  exact h.same rfl

theorem reraise (h : s.Develops t) : s.Develops t.reraise := by
  refine placeDemand ?_
  exact h.same rfl

theorem riseEval (h : s.Develops t) (b : Bool) : s.Develops (t.riseEval b) := by
  unfold State.riseEval
  split
  · exact h
  · split
    · exact h
    · split
      · exact h.withdrawRise
      · exact h
    · split
      · exact h.withdrawRise
      · split
        · exact h.admitRise _
        · exact h
    · split
      · exact h.reraise
      · exact h

theorem countYield (h : s.Develops t) : s.Develops t.countYield := by
  unfold State.countYield
  refine mark ?_ fun _ => rfl
  exact h.same rfl

theorem applyYield (h : s.Develops t) : s.Develops t.applyYield := by
  unfold State.applyYield
  split
  · exact h
  · split
    · exact h
    · split
      case h_1 =>
        refine countYield (latch ?_ _ _)
        split
        · exact h.openContactor
        · exact h.enterPulseOff
      case h_2 =>
        extract_lets s1
        have counted : s.Develops s1 := (h.latch _ _).countYield
        split
        · exact counted
        · exact counted.setStep _
      all_goals exact h

theorem resumeEval (h : s.Develops t) : s.Develops t.resumeEval := by
  unfold State.resumeEval
  split
  · exact h
  · split
    · exact h.raise _ _ _
    · exact h

theorem yieldEval (h : s.Develops t) (b : Bool) : s.Develops (t.yieldEval b) := by
  unfold State.yieldEval
  split
  · exact h.resumeEval
  · split
    · split
      · exact h
      · split
        · exact h.applyYield
        · exact h
    · exact h

theorem shareEvent (h : s.Develops t) (a b : Bool) : s.Develops (t.shareEvent a b) := (h.riseEval a).yieldEval b

theorem withPeers (h : s.Develops t) (l : List Peer) : s.Develops (t.withPeers l) := by
  refine shareEvent ?_ true false
  exact h.same rfl

theorem budgetEvent (h : s.Develops t) (x : State) : s.Develops (t.budgetEvent x) := by
  unfold State.budgetEvent
  extract_lets _ s1
  have formed : s.Develops s1 := h.same rfl
  exact formed.shareEvent _ _

/-! ### The bus (R181 to R187) -/

theorem loseLink (h : s.Develops t) : s.Develops t.loseLink := by
  unfold State.loseLink
  refine declare (endCause ?_ _ _)
  have abandoned := h.trace (x := t.trace.abandon) fun x => x.of_banks fun _ => rfl
  exact (abandoned.records (r := t.records.abandon) fun x _ => x).same rfl

theorem duplicate (h : s.Develops t) : s.Develops t.duplicate := by
  unfold State.duplicate
  split
  · exact h.loseLink
  · exact h.same rfl
  · exact h

theorem onRx (h : s.Develops t) {f : State → State} (hf : s.Develops (f t)) (n : Station) : s.Develops (t.onRx n f) := by
  unfold State.onRx
  split
  · exact h
  · split
    · exact h.duplicate
    · exact hf

theorem ifJoined (h : s.Develops t) {f : State → State} (hf : s.Develops (f t)) : s.Develops (t.ifJoined f) := by
  unfold State.ifJoined
  split
  · exact hf
  · exact h

theorem ifSharing (h : s.Develops t) {f : State → State} (hf : s.Develops (f t)) : s.Develops (t.ifSharing f) := by
  unfold State.ifSharing
  split
  · exact h
  · exact hf

theorem weldFirst (h : s.Develops t) (n : Nat) (d : List Byte) : s.Develops (t.weldFirst n d) := by
  unfold State.weldFirst
  extract_lets others
  split <;> exact h.same rfl

theorem settleProg (h : s.Develops t) (a : Assembly) : s.Develops (t.settleProg a) := by
  unfold State.settleProg
  split <;> exact h.same rfl

theorem progFirst (h : s.Develops t) (n : Nat) (d : List Byte) : s.Develops (t.progFirst n d) := by
  unfold State.progFirst
  extract_lets mine
  split
  · split
    · exact h.settleProg _
    · exact h
  · exact h.same rfl

theorem weldLater (h : s.Develops t) (n : Nat) (d : List Byte) : s.Develops (t.weldLater n d) := by
  unfold State.weldLater
  split
  · exact h
  · extract_lets others
    split
    · exact h.same rfl
    · split <;> exact h.same rfl

theorem progLater (h : s.Develops t) (n : Nat) (d : List Byte) : s.Develops (t.progLater n d) := by
  unfold State.progLater
  split
  · exact h
  · split
    · split
      · exact h.same rfl
      · exact h.settleProg _
    · exact h

theorem laterFrame (h : s.Develops t) (k : RunKind) (n : Nat) (d : List Byte) : s.Develops (t.laterFrame k n d) := by
  unfold State.laterFrame
  split
  · exact h
  · split
    · exact h.weldLater n d
    · exact h.progLater n d

theorem recordLookup (h : s.Develops t) (n : Nat) : s.Develops (t.recordLookup n) := by
  unfold State.recordLookup
  split
  · exact h.notice _
  · exact h.same rfl

theorem recordRunSent (h : s.Develops t) : s.Develops t.recordRunSent := by
  unfold State.recordRunSent
  split
  · exact h.same rfl
  · refine recordLookup ?_ _
    exact h.same rfl

/-- A change of the readout leaves the banks. -/
theorem readout (h : s.Develops t) {x : TraceStore} (e : ∀ b, x.bank b = t.trace.bank b) :
    s.Develops { t with trace := x } :=
  h.trace fun y => y.of_banks e

theorem traceLookup (h : s.Develops t) (q : TraceQuery) : s.Develops (t.traceLookup q) := by
  have stopped : s.Develops { t with trace := t.trace.stopStream } := h.readout fun _ => rfl
  unfold State.traceLookup
  dsimp only
  split
  · exact stopped.notice _
  · split
    · exact stopped.notice _
    · split
      · exact h.readout fun _ => rfl
      · split
        · exact stopped.notice _
        · exact stopped.notice _

theorem takeTraceWaiting (h : s.Develops t) : s.Develops t.takeTraceWaiting := by
  unfold State.takeTraceWaiting
  split
  · exact h.readout fun _ => rfl
  · refine traceLookup ?_ _
    exact h.readout fun _ => rfl

theorem nextBlock_banks (x : TraceStore) (y : Stream) (b : Bool) : (x.nextBlock y).bank b = x.bank b := by
  unfold TraceStore.nextBlock
  dsimp only
  split
  · rfl
  · split <;> rfl

theorem traceRunSent (h : s.Develops t) : s.Develops t.traceRunSent := by
  unfold State.traceRunSent
  split
  · exact h
  · split
    · refine takeTraceWaiting (notice ?_ _)
      exact h.readout fun _ => rfl
    · split
      · exact h.takeTraceWaiting
      · split
        · exact h.readout fun _ => nextBlock_banks _ _ _
        · exact h.readout fun _ => rfl

theorem recordFrameSent (h : s.Develops t) : s.Develops t.recordFrameSent := by
  unfold State.recordFrameSent
  split
  · exact h.same rfl
  · refine recordRunSent ?_
    exact h.same rfl

theorem traceFrameSent (h : s.Develops t) : s.Develops t.traceFrameSent := by
  unfold State.traceFrameSent
  split
  · exact h.same rfl
  · refine traceRunSent ?_
    exact h.same rfl

/-- R184: a notice leaves the queue. -/
theorem noticeSent (h : s.Develops t) : s.Develops { t with link := t.link.noticeSent } := by
  refine h.trans ⟨id, fun x => ?_, id, Nat.le_refl _, fun c' hc => .inr ⟨c', hc, .refl c'⟩⟩
  rw [State.storesBounded_iff] at x ⊢
  refine ⟨Nat.le_trans ?_ x.1, x.2⟩
  show t.link.noticeSent.notices.length ≤ t.link.notices.length
  unfold Link.noticeSent
  split
  · exact Nat.le_refl _
  · next n rest hn =>
    split
    · exact Nat.le_refl _
    · rw [hn]
      exact Nat.le_succ _

theorem frameSent (h : s.Develops t) (f : TxFrame) : s.Develops (t.frameSent f) := by
  unfold State.frameSent
  extract_lets _ s1
  have sent : s.Develops s1 := h.same rfl
  split
  · exact sent
  · split
    · exact sent.same rfl
    · exact sent.same rfl
    · exact sent.noticeSent
    · exact sent.recordFrameSent
    · exact sent.traceFrameSent

theorem frameFailed (h : s.Develops t) : s.Develops t.frameFailed := by
  unfold State.frameFailed
  extract_lets _ s1
  have failed : s.Develops s1 := h.same rfl
  split
  · exact failed.loseLink
  · exact failed

theorem offer (h : s.Develops t) (won : Bool) : s.Develops (t.offer won) := by
  unfold State.offer
  split
  · split
    · exact h
    · exact h.same rfl
  · exact h

theorem acknowledged (h : s.Develops t) : s.Develops t.acknowledged := by
  unfold State.acknowledged
  cases t.link.onBus with
  | none => exact h
  | some f => exact h.frameSent f

theorem notAcknowledged (h : s.Develops t) : s.Develops t.notAcknowledged := by
  unfold State.notAcknowledged
  split
  · exact h.frameFailed
  · exact h

theorem placeStatus (h : s.Develops t) : s.Develops t.placeStatus := h.same rfl

/-! ### Messages (R3, R16, R23, R38, R98, R108, R152, R165, R177) -/

theorem takeRating (h : s.Develops t) (n : Station) (d : List Byte) : s.Develops (t.takeRating n d) := by
  unfold State.takeRating
  split
  · refine declare (budgetEvent ?_ _)
    exact h.same rfl
  · exact h

theorem takeDemand (h : s.Develops t) (n : Station) (d : List Byte) : s.Develops (t.takeDemand n d) := by
  unfold State.takeDemand
  split
  · exact (h.withPeers _).declare
  · exact h

theorem takeAbort (h : s.Develops t) (d : List Byte) : s.Develops (t.takeAbort d) := by
  unfold State.takeAbort
  split
  · exact (h.endCause _ _).declare
  · exact h

theorem takeClear (h : s.Develops t) (d : List Byte) : s.Develops (t.takeClear d) := by
  unfold State.takeClear
  split
  · exact h.enterReleasing.declare
  · exact h

theorem takeCaptureClear (h : s.Develops t) (d : List Byte) : s.Develops (t.takeCaptureClear d) := by
  unfold State.takeCaptureClear
  split
  · exact h.same rfl
  · exact h

theorem takeRecordQuery (h : s.Develops t) (d : List Byte) : s.Develops (t.takeRecordQuery d) := by
  unfold State.takeRecordQuery
  split
  · split
    · exact h.same rfl
    · exact h.recordLookup _
  · exact h

theorem takeTraceQuery (h : s.Develops t) (d : List Byte) : s.Develops (t.takeTraceQuery d) := by
  unfold State.takeTraceQuery
  split
  · split
    · exact h.readout fun _ => rfl
    · exact h.traceLookup _
  · exact h

theorem fetchDone (h : s.Develops t) : s.Develops t.fetchDone := by
  unfold State.fetchDone
  split
  · split
    · exact h
    · exact h.same rfl
  · exact h

/-- R170: the bank of the new weld is cleared. -/
theorem clearBank (h : s.Develops t) (n : Nat) : s.Develops (t.clearBank n) := by
  have cleared : ({ owner := some n, blocks := [], filling := Option.none, capturing := true, truncated := false } :
      Bank).formed = true := by rfl
  have made : ∀ x : TraceStore, (∀ b, x.bank b = (t.trace.setBank (bankOf n) _).bank b) →
      s.Develops { t with trace := x } :=
    fun x e => h.trace fun y => (y.setBank cleared (bankOf n)).of_banks e
  unfold State.clearBank
  dsimp only
  split
  · exact made _ fun _ => rfl
  · split
    · split
      · exact made _ fun _ => rfl
      · refine notice ?_ _
        exact made _ fun _ => rfl
      · refine notice ?_ _
        exact made _ fun _ => rfl
      · exact made _ fun _ => rfl
    · exact made _ fun _ => rfl

/-- A weld begins with the next serial, and with nothing counted (R2, R4). -/
theorem begin (h : s.Develops t) (q : Request) (p : Programme) :
    s.Develops { t with ctx := some (t.newCtx q p), nextSerial := t.nextSerial + 1 } := by
  refine h.trans ⟨id, fun x => ?_, id, Nat.le_succ _, fun c' hc => .inl ?_⟩
  · rw [State.storesBounded_iff] at x ⊢
    refine ⟨x.1, x.2.1, fun c hc => ?_⟩
    obtain rfl := Option.mem_some_iff.1 hc
    rw [WeldCtx.bounded_iff]
    exact ⟨Nat.zero_le _, Nat.zero_le _, Nat.zero_le _, Nat.zero_le _⟩
  · obtain rfl := Option.some.inj hc
    exact ⟨Nat.le_refl _, Nat.lt_succ_self _⟩

theorem acceptWeld (h : s.Develops t) (q : Request) (p : Programme) : s.Develops (t.acceptWeld q p) := by
  unfold State.acceptWeld
  extract_lets n s1 s2
  have begun : s.Develops s1 :=
    (((h.begin q p).records (r := t.records.dropTrace (n - 2)) fun x _ => x.dropTrace _)).same rfl
  have cleared : s.Develops s2 := (begun.clearBank n).notice _
  refine enterClamp ?_
  exact cleared.same rfl

theorem takeRequest (h : s.Develops t) (x : Option RequestFault) (q : Request) : s.Develops (t.takeRequest x q) := by
  unfold State.takeRequest
  split
  · exact h.notice _
  · exact h.acceptWeld _ _
  · exact h

theorem takeProgramme (h : s.Develops t) (x : ProgRun) : s.Develops (t.takeProgramme x) := by
  unfold State.takeProgramme
  extract_lets n
  split
  · exact h.notice _
  · refine notice ?_ _
    exact h.same rfl
  · refine notice ?_ _
    exact h.same rfl

theorem nextRequest (h : s.Develops t) : s.Develops t.nextRequest := by
  unfold State.nextRequest
  split
  · exact h
  · extract_lets _ s1
    have taken : s.Develops s1 := h.same rfl
    split
    · exact taken
    · exact taken.takeRequest _ _

theorem nextProgramme (h : s.Develops t) : s.Develops t.nextProgramme := by
  unfold State.nextProgramme
  split
  · exact h
  · refine takeProgramme ?_ _
    exact h.same rfl

end State.Develops
end Sys2Proof.Machine

/-! PROOFS. `State.Develops` through the measurements, the evaluation of an interval and the timed events, and the
obligations that follow from it (O59, O54, O55). -/

namespace Sys2Proof.Machine
namespace State.Develops

variable {s t u : State}

/-! ### Measurements and conditions (R141 to R154) -/

theorem testCondition (h : s.Develops t) (now before : Bool) (x : StopCause) :
    s.Develops (t.testCondition now before x) := by
  unfold State.testCondition
  split
  · exact h.stopCause x
  · exact h

theorem testEmergency (h : s.Develops t) : s.Develops t.testEmergency := by
  refine testCondition ?_ _ _ _
  exact h.same rfl

theorem testTrain (h : s.Develops t) : s.Develops t.testTrain := by
  refine testCondition ?_ _ _ _
  exact h.same rfl

theorem testClamp (h : s.Develops t) (b : Bool) : s.Develops (t.testClamp b) := by
  refine testCondition ?_ _ _ _
  exact h.same rfl

theorem testForce (h : s.Develops t) : s.Develops t.testForce := by
  refine testCondition ?_ _ _ _
  exact h.same rfl

theorem testConditions (h : s.Develops t) : s.Develops t.testConditions := by
  unfold State.testConditions
  split
  · exact h
  · exact (h.testEmergency.testClamp _).testTrain.testForce

theorem contactorFault (h : s.Develops t) : s.Develops t.contactorFault := by
  refine stopCause ?_ _
  exact h.same rfl

theorem quadratureError (h : s.Develops t) : s.Develops t.quadratureError := by
  unfold State.quadratureError
  extract_lets _ s1
  have cleared : s.Develops s1 := h.same rfl
  split
  · exact cleared
  · exact cleared.stopCause _

theorem countEdge (h : s.Develops t) (toward : Bool) : s.Develops (t.countEdge toward) := by
  unfold State.countEdge
  extract_lets p
  split
  · exact h.same rfl
  · refine quadratureError ?_
    exact h.same rfl

theorem passMark (h : s.Develops t) : s.Develops t.passMark := by
  unfold State.passMark
  split
  · split
    · exact h.quadratureError
    · exact h
  · exact h.same rfl

theorem ifDecoding (h : s.Develops t) {f : State → State} (hf : s.Develops (f t)) : s.Develops (t.ifDecoding f) := by
  unfold State.ifDecoding
  split
  · exact hf.declare
  · exact h

theorem measure (h : s.Develops t) (r : Readings) : s.Develops (t.measure r) := by
  have taken : s.Develops (t.takeReadings r) := by
    unfold State.takeReadings
    split <;> exact h.same rfl
  have sampled : ∀ v : State, s.Develops v → s.Develops (v.sampleInputs r.pins) := by
    intro v hv
    unfold State.sampleInputs
    split
    · exact hv.same rfl
    · exact hv
  have compared : ∀ v : State, s.Develops v → s.Develops v.compareContactor := by
    intro v hv
    unfold State.compareContactor
    split
    · exact hv
    · split <;> exact hv.same rfl
  refine compared _ (sampled _ ?_)
  exact taken.same rfl

/-! ### The evaluation of an interval (R59 to R82) -/

/-- R82: the energy grows, and not beyond its bound. -/
theorem addPower (h : s.Develops t) : s.Develops t.addPower := by
  unfold State.addPower
  refine h.onCtx fun c _ => ?_
  dsimp only
  split
  · refine ⟨rfl, (WeldCtx.follows_iff _ _).2 ?_, fun _ => Nat.min_le_right _ _, fun hb => ?_⟩
    · refine ⟨by simp, .inr rfl, .inr rfl, Int.le_refl _, Nat.le_refl _, ?_, id, id⟩
      dsimp only
      omega
    · rw [WeldCtx.bounded_iff] at hb ⊢
      exact ⟨hb.1, hb.2.1, Nat.min_le_right _ _, hb.2.2.2⟩
  · exact .of_fixed rfl

theorem takeWindow (h : s.Develops t) : s.Develops t.takeWindow := by
  unfold State.takeWindow
  refine h.mark fun c => ?_
  dsimp only
  split
  · rfl
  · split <;> rfl

theorem countPower (h : s.Develops t) : s.Develops t.countPower := by
  unfold State.countPower
  split
  · exact h.addPower.takeWindow
  · exact h.addPower

/-- R68: the burn-off grows. -/
theorem updateBurnOff (h : s.Develops t) : s.Develops t.updateBurnOff := by
  unfold State.updateBurnOff
  refine h.onCtx fun c _ => ?_
  split
  · exact .refl c
  · exact ⟨rfl, (WeldCtx.follows_iff _ _).2 (by simp), id, id⟩

theorem testFlashExit (h : s.Develops t) : s.Develops t.testFlashExit := by
  unfold State.testFlashExit
  split
  · exact h
  · split
    · exact h.flashExit
    · exact h

theorem testFlash (h : s.Develops t) : s.Develops t.testFlash := by
  unfold State.testFlash
  split
  · exact h
  · split
    · split
      · exact h.endCause _ _
      · exact h
    · exact h.testFlashExit

theorem takeContact (h : s.Develops t) : s.Develops t.takeContact := (h.latch _ _).mark fun _ => rfl

theorem countOpen (h : s.Develops t) (r : FlashRec) : s.Develops (t.countOpen r) := by
  unfold State.countOpen
  split
  · exact h.mark fun _ => rfl
  · exact h

theorem closeGap (h : s.Develops t) : s.Develops t.closeGap :=
  (h.closeEpisode.mark (f := WeldCtx.restartRuns) fun _ => rfl).same rfl

theorem endRetraction (h : s.Develops t) : s.Develops t.endRetraction := by
  unfold State.endRetraction
  extract_lets _ s1
  have ended : s.Develops s1 :=
    (h.mark (f := fun c => { c.restartRuns with retract := Option.none }) fun _ => rfl).same rfl
  split
  · exact ended.makeMove
  · exact ended

theorem regulateFlash (h : s.Develops t) (i : Nat) (r now : FlashRec) : s.Develops (t.regulateFlash i r now) := by
  unfold State.regulateFlash
  split
  · exact h
  · split
    · refine setVelocity ?_ _
      split
      · exact h.takeContact
      · exact h
    · split
      · exact (h.setVelocity _).mark fun _ => rfl
      · split
        · exact h
        · extract_lets s1
          have moving : s.Develops s1 := h.setVelocity _
          split
          · exact moving.endRetraction
          · exact moving
      · split
        · exact h.closeGap.setVelocity _
        · exact (h.countOpen _).setVelocity _
      · exact h

theorem evalFlash (h : s.Develops t) : s.Develops t.evalFlash := by
  unfold State.evalFlash
  split
  · exact h
  · extract_lets i s1
    have tested : s.Develops s1 := h.testFlash
    split
    · exact tested.regulateFlash _ _ _
    · exact (h.countOpen _).testFlash

theorem evalAbort (h : s.Develops t) (p : Int) : s.Develops (t.evalAbort p) := by
  unfold State.evalAbort
  split
  · exact h.enterReleasing
  · exact (h.setVelocity _).mark fun _ => rfl

theorem evalPreheat (h : s.Develops t) : s.Develops t.evalPreheat := by
  unfold State.evalPreheat
  split
  · exact h
  · split
    · exact h
    · extract_lets s1
      have timed : s.Develops s1 := h.mark fun _ => rfl
      split
      · refine setVelocity ?_ _
        split
        · exact timed.mark fun _ => rfl
        · exact timed
      · exact timed.setVelocity _
      · split
        · exact timed.setVelocity _
        · split
          · exact (timed.mark (f := fun c => { c with drawTarget := Option.none }) fun _ => rfl).setVelocity _
          · exact timed.setVelocity _
      · exact timed

theorem evalBoost (h : s.Develops t) : s.Develops t.evalBoost := by
  unfold State.evalBoost
  split
  · exact h
  · split
    · exact h
    · split
      · exact h.endBoost
      · exact h

theorem evalUpset (h : s.Develops t) : s.Develops t.evalUpset := by
  unfold State.evalUpset
  split
  · exact h
  · extract_lets _ _ s1
    have counted : s.Develops s1 :=
      (h.mark (f := fun c => { c with peak := some (max (c.peak.getD 0) t.meas.fm) }) fun _ => rfl).same rfl
    split
    · exact counted.endUpset
    · exact counted

theorem evalPull (h : s.Develops t) : s.Develops t.evalPull := by
  unfold State.evalPull
  split
  · exact h
  · extract_lets _ s1
    have counted : s.Develops s1 := h.same rfl
    split
    · exact counted.endPull
    · exact counted

theorem evalRelease (h : s.Develops t) : s.Develops t.evalRelease := by
  unfold State.evalRelease
  split
  · exact h.setForce _
  · exact h

theorem evalCurrent (h : s.Develops t) : s.Develops t.evalCurrent := by
  unfold State.evalCurrent
  extract_lets s1
  have counted : s.Develops s1 := h.countPower.updateBurnOff
  split
  · exact counted.evalAbort _
  · split
    · exact counted.evalPreheat
    · exact counted.evalFlash

theorem evalUnits (h : s.Develops t) : s.Develops t.evalUnits := by
  unfold State.evalUnits
  split
  · exact h.evalPull
  · exact h.evalCurrent
  · exact h.evalCurrent
  · exact h.countPower.updateBurnOff.evalBoost
  · exact h.countPower.evalUpset
  · exact h.evalRelease
  all_goals exact h

/-! ### Timed events -/

theorem handSample (h : s.Develops t) (p : Int) (i v f : Nat) (b : Bool) : s.Develops (t.handSample p i v f b) := by
  unfold State.handSample
  split
  · exact h
  · extract_lets b1 x
    split
    · exact h.trace fun y => y.capture _ _ _ _ _
    · exact h

theorem takeSample (h : s.Develops t) : s.Develops t.takeSample := by
  refine handSample ?_ _ _ _ _ _
  exact h.same rfl

theorem shearMoved (h : s.Develops t) : s.Develops t.shearMoved := by
  unfold State.shearMoved
  split
  · split
    · split
      · exact h.enterReturning
      · exact h
    · split
      · exact h.endTrim
      · exact h
    · exact h
  · exact h

theorem clampMoved (h : s.Develops t) : s.Develops t.clampMoved := by
  unfold State.clampMoved
  split
  · split
    · exact h.clampExit
    · exact h
  · split
    · split
      · exact h.completeRelease
      · exact h
    · split
      · exact h.completeRelease
      · exact h
    · exact h
  · exact h

theorem inputMoved (h : s.Develops t) (i : Input) : s.Develops (t.inputMoved i) := by
  unfold State.inputMoved
  split
  · exact h
  · cases i with
    | emergency => exact h.testEmergency
    | trainMove => exact h.testTrain
    | clampF => exact (h.testClamp _).clampMoved
    | clampM => exact (h.testClamp _).clampMoved
    | shearHome => exact h.shearMoved
    | shearEnd => exact h.shearMoved
    | contFb =>
      show s.Develops t.feedbackMoved
      unfold State.feedbackMoved
      split
      · exact h
      · exact h.same rfl
    | pressOk => exact h

theorem takeLevel (h : s.Develops t) (i : Input) : s.Develops (t.takeLevel i) := by
  refine inputMoved ?_ i
  exact h.same rfl

theorem clampTimedOut (h : s.Develops t) : s.Develops t.clampTimedOut := by
  refine endCause ?_ _ _
  exact h.same rfl

theorem pulseOnEnds (h : s.Develops t) : s.Develops t.pulseOnEnds := by
  refine enterPulseOff (h.mark fun c => ?_)
  split <;> rfl

theorem shortBegins (h : s.Develops t) : s.Develops t.shortBegins := by
  unfold State.shortBegins
  split
  · exact h
  · next k _ =>
    refine setVelocity (same ((h.latch .short t.meas.intervalPos).mark (f := fun c =>
      { c.restartRuns with shortCount := countUp c.shortCount, retract := some k }) fun _ => rfl) ?_) _
    rfl

theorem openBegins (h : s.Develops t) : s.Develops t.openBegins :=
  (h.mark (f := fun c => { c with openMet := false }) fun _ => rfl).same rfl

theorem shearFails (h : s.Develops t) : s.Develops t.shearFails := (h.reason _).noticeFault _ _

theorem settleExpires (h : s.Develops t) : s.Develops t.settleExpires := by
  unfold State.settleExpires
  split
  · exact h
  · extract_lets _ _ s1
    have waits : s.Develops s1 := h.same rfl
    split
    · exact waits.admitRise _
    · exact waits

theorem admitTimedOut (h : s.Develops t) : s.Develops t.admitTimedOut := by
  refine endCause (placeDemand ?_) _ _
  exact h.same rfl

theorem minrunExpires (h : s.Develops t) : s.Develops t.minrunExpires :=
  (h.mark (f := fun c => { c with minrunBar := false }) fun _ => rfl).yieldEval _

theorem join (h : s.Develops t) : s.Develops t.join := by
  unfold State.join
  extract_lets _ _ s1
  have joined : s.Develops s1 := h.same rfl
  refine placeDemand ?_
  split
  · exact joined.budgetEvent _
  · exact joined

theorem rejoin (h : s.Develops t) : s.Develops t.rejoin := by
  refine withPeers ?_ _
  exact h.same rfl

end State.Develops

/-! ### The interval -/

/-- R2, R132: the weld time does not fall, and the yield time stops at its limit. -/
theorem WeldCtx.Becomes.tick (c : WeldCtx) (e : Engine) (y : Bool) : c.Becomes (c.tick e y) where
  serial := rfl
  follows := by
    refine (WeldCtx.follows_iff _ _).2 ⟨by simp [WeldCtx.tick], .inr rfl, .inr rfl, Int.le_refl _, ?_,
      .inl (Nat.le_refl _), id, id⟩
    simp only [WeldCtx.tick, tick2]
    split <;> omega
  energy := id
  bounded hb := by
    rw [WeldCtx.bounded_iff] at hb ⊢
    obtain ⟨faults, latches, energy, yields⟩ := hb
    refine ⟨faults, latches, energy, ?_⟩
    show (if y then min (tick2 c.yieldTime) c.yieldLimitMs else c.yieldTime) ≤ c.yieldLimitMs
    split
    · exact Nat.min_le_right _ _
    · exact yields

namespace State.Develops

variable {s t : State}

theorem tick (h : s.Develops t) : s.Develops t.tick := by
  have ticked := h.onCtx (f := fun c => c.tick t.engine t.yielded) fun c _ => .tick c _ _
  refine ticked.same ?_
  rfl

/-- R155: the wiring takes the lines as they are commanded. -/
theorem forwardOutputs (h : s.Develops t) : s.Develops t.forwardOutputs := by
  refine h.trans ⟨fun x => ?_, id, id, Nat.le_refl _, fun c' hc => .inr ⟨c', hc, .refl c'⟩⟩
  simp only [State.linesApart, Bool.and_eq_true] at x ⊢
  exact ⟨⟨x.1.1, x.1.1.1⟩, x.1.1.2⟩

theorem evaluate (h : s.Develops t) (b : Bool) : s.Develops (t.evaluate b) := by
  unfold State.evaluate
  split
  · exact h.testConditions.evalUnits
  · exact h.evalUnits.testConditions

theorem loadImage (h : s.Develops t) (b : List Byte) : s.Develops (t.loadImage b) := by
  unfold State.loadImage
  extract_lets _ s1
  split
  · refine declare ?_
    exact h.same rfl
  · exact h.same rfl

theorem latchStraps (h : s.Develops t) (b : BitVec 4) : s.Develops (t.latchStraps b) := by
  unfold State.latchStraps
  split
  · exact h.same rfl
  · exact h

/-- The commands that an interval takes by itself. -/
theorem exec_due (h : s.Develops t) {i : Instr} {u : State} (hi : takenWhenDue i = true) (hu : exec i t = .next u) :
    s.Develops u := by
  cases i
  case tenMsSample => exact Host.Outcome.next.inj hu ▸ h.event fun _ => h.takeSample
  case powerWindowComplete => exact Host.Outcome.next.inj hu ▸ h.event fun _ => h.takeWindow
  case inputLevelChange i => exact Host.Outcome.next.inj hu ▸ h.event fun _ => h.takeLevel i
  case contactorFeedbackTimeout => exact Host.Outcome.next.inj hu ▸ h.event fun _ => h.contactorFault
  case shortOnset => exact Host.Outcome.next.inj hu ▸ h.event fun _ => h.shortBegins
  case openCircuit => exact Host.Outcome.next.inj hu ▸ h.event fun _ => h.openBegins
  case pulseOnEnd => exact Host.Outcome.next.inj hu ▸ h.event fun _ => h.pulseOnEnds
  case pulseOffEnd => exact Host.Outcome.next.inj hu ▸ h.event fun _ => h.endPulseOff
  case boostTimeReached => exact Host.Outcome.next.inj hu ▸ h.event fun _ => h.endBoost
  case currentOff => exact Host.Outcome.next.inj hu ▸ h.event fun _ => h.takeCurrentOff
  case upsetStall => exact Host.Outcome.next.inj hu ▸ h.event fun _ => h.endUpset
  case upsetTimeout => exact Host.Outcome.next.inj hu ▸ h.event fun _ => h.endUpset
  case holdTimeEnd => exact Host.Outcome.next.inj hu ▸ h.event fun _ => h.endHold
  case shearTimeout => exact Host.Outcome.next.inj hu ▸ h.event fun _ => h.shearFails.enterReturning
  case shearReturnTimeout => exact Host.Outcome.next.inj hu ▸ h.event fun _ => h.shearFails.endTrim
  case clampTimeout => exact Host.Outcome.next.inj hu ▸ h.event fun _ => h.clampTimedOut
  case pullStall => exact Host.Outcome.next.inj hu ▸ h.event fun _ => h.endPull
  case pullTimeout => exact Host.Outcome.next.inj hu ▸ h.event fun _ => h.endPull
  case releaseRampEnd => exact Host.Outcome.next.inj hu ▸ h.event fun _ => (h.setForce 0).enterOpening
  case clampOpenTimeout => exact Host.Outcome.next.inj hu ▸ h.event fun _ => h.enterWaiting
  case abortRetractStill => exact Host.Outcome.next.inj hu ▸ h.event fun _ => h.enterReleasing
  case yieldLimit => exact Host.Outcome.next.inj hu ▸ h.event fun _ => h.yieldLimited
  case minrunExpiry => exact Host.Outcome.next.inj hu ▸ h.event fun _ => h.minrunExpires
  case preheatPauseRestart => exact Host.Outcome.next.inj hu ▸ h.event fun _ => h.pauseRestarts
  case settleExpiry => exact Host.Outcome.next.inj hu ▸ h.event fun _ => h.settleExpires
  case admitTimeout => exact Host.Outcome.next.inj hu ▸ h.event fun _ => h.admitTimedOut
  case peerLapse n => exact Host.Outcome.next.inj hu ▸ h.event fun _ => h.withPeers _
  case peerRemoval n => exact Host.Outcome.next.inj hu ▸ h.event fun _ => h.withPeers _
  case ratingAgeThreshold => exact Host.Outcome.next.inj hu ▸ h.event fun _ => h.budgetEvent _
  case listenPeriodEnd => exact Host.Outcome.next.inj hu ▸ h.event fun _ => h.join
  case lostPeriodEnd => exact Host.Outcome.next.inj hu ▸ h.event fun _ => h.rejoin
  case runAssemblySilence n => exact Host.Outcome.next.inj hu ▸ h.event fun _ => h.same rfl
  case programmeSilence => exact Host.Outcome.next.inj hu ▸ h.event fun _ => h.same rfl
  case programme => exact Host.Outcome.next.inj hu ▸ h.event fun _ => h.nextProgramme
  case weldRequest => exact Host.Outcome.next.inj hu ▸ h.event fun _ => h.nextRequest
  case headStatusPeriod => exact Host.Outcome.next.inj hu ▸ h.event fun _ => h.placeStatus
  case demandPeriod => exact Host.Outcome.next.inj hu ▸ h.event fun _ => h.placeDemand
  all_goals exact nomatch hi

theorem takeDue (h : s.Develops t) : s.Develops t.takeDue :=
  State.takeDue_keeps (P := s.Develops) (fun _ _ _ hi hu hp => hp.exec_due hi hu) h

theorem interval (h : s.Develops t) (b : Bool) (r : Readings) : s.Develops (t.interval b r) := by
  unfold State.interval
  split
  · exact h
  · exact ((h.takeDue.forwardOutputs.tick.measure r).evaluate b).declare

/-- Every command but RESET carries the state on. -/
theorem exec (h : s.Develops t) {i : Instr} {u : State} (hr : i ≠ .reset) (hu : Machine.exec i t = .next u) :
    s.Develops u := by
  cases hi : takenWhenDue i with
  | true => exact h.exec_due hi hu
  | false =>
    cases i
    case reset => exact absurd rfl hr
    case configurationRead m =>
      obtain rfl := Host.Outcome.next.inj hu
      split
      · exact h.loadImage _
      · exact h
    case frameOffer won => exact Host.Outcome.next.inj hu ▸ h.offer won
    case frameAcknowledged => exact Host.Outcome.next.inj hu ▸ h.acknowledged
    case frameNotAcknowledged => exact Host.Outcome.next.inj hu ▸ h.notAcknowledged
    case busOff =>
      obtain rfl := Host.Outcome.next.inj hu
      split
      · exact h.loseLink
      · exact h
    case duplicateStationFrame =>
      obtain rfl := Host.Outcome.next.inj hu
      split
      · exact h.duplicate
      · exact h
    case runFirstFrame n d => exact Host.Outcome.next.inj hu ▸ h.onRx (h.weldFirst _ d) n
    case programmeFirstFrame n d => exact Host.Outcome.next.inj hu ▸ h.onRx (h.progFirst _ d) n
    case runLaterFrame k n d => exact Host.Outcome.next.inj hu ▸ h.onRx (h.laterFrame k _ d) n
    case rating n d => exact Host.Outcome.next.inj hu ▸ h.onRx (h.ifSharing (h.takeRating n d)) n
    case demand n d => exact Host.Outcome.next.inj hu ▸ h.onRx (h.ifSharing (h.takeDemand n d)) n
    case abort n d => exact Host.Outcome.next.inj hu ▸ h.onRx (h.ifJoined (h.takeAbort d)) n
    case clear n d => exact Host.Outcome.next.inj hu ▸ h.onRx (h.ifJoined (h.takeClear d)) n
    case captureClear n d => exact Host.Outcome.next.inj hu ▸ h.onRx (h.ifJoined (h.takeCaptureClear d)) n
    case recordQuery n d => exact Host.Outcome.next.inj hu ▸ h.onRx (h.ifJoined (h.takeRecordQuery d)) n
    case traceQuery n d => exact Host.Outcome.next.inj hu ▸ h.onRx (h.ifJoined (h.takeTraceQuery d)) n
    case fetchCompletion => exact Host.Outcome.next.inj hu ▸ h.fetchDone
    case regulationInterval b r => exact Host.Outcome.next.inj hu ▸ h.interval b r
    case encoderEdge b => exact Host.Outcome.next.inj hu ▸ h.ifDecoding (h.countEdge b)
    case referenceMark => exact Host.Outcome.next.inj hu ▸ h.ifDecoding h.passMark
    case quadratureError what =>
      cases what <;> exact Host.Outcome.next.inj hu ▸ h.ifDecoding h.quadratureError
    case resetRelease b => exact Host.Outcome.next.inj hu ▸ h.latchStraps b
    all_goals exact nomatch hi

end State.Develops

/-- One step from a state carries it on, but for RESET, which leaves the reset values and the waiting commands. -/
theorem step_develops {s t : State} (h : step s = .next t) :
    s.Develops t ∨ t = { State.reset with pending := t.pending } := by
  unfold step at h
  split at h
  · exact .inl (Host.Outcome.next.inj h ▸ .refl s)
  · next c rest _ =>
    by_cases hc : c = .reset
    · subst hc
      exact .inr (Host.Outcome.next.inj h ▸ rfl)
    · exact .inl (((State.Develops.refl s).same (u := { s with pending := rest }) rfl).exec hc h)

end Sys2Proof.Machine

namespace Sys2Proof.Machine

/-- Settles O59: a step carries the weld in flight on; a context with a serial below the next one is not one begun since. -/
theorem weldKeepsWhatItFixed : Obligations.WeldKeepsWhatItFixed := by
  intro s t hst hs
  simp only [State.serialsSound, Option.all_eq_true, decide_eq_true_eq] at hs ⊢
  obtain h | h := step_develops hst
  · refine ⟨fun c' ht => ?_, fun c c' hc ht hserial => ?_⟩
    · obtain ⟨-, high⟩ | ⟨c, hc, hb⟩ := h.weld c' ht
      · exact high
      · exact hb.serial ▸ Nat.lt_of_lt_of_le (hs c hc) h.serials
    · obtain ⟨low, -⟩ | ⟨d, hd, hb⟩ := h.weld c' ht
      · have := hs c hc
        omega
      · obtain rfl := Option.some.inj (hc.symm.trans hd)
        exact hb.follows
  · have none : t.ctx = none := h ▸ rfl
    rw [none]
    exact ⟨fun c hc => (nomatch hc), fun c c' _ hc => nomatch hc⟩

/-- Settles O54: every operation that sets valve lines sets those of a pair apart, and the wiring takes them as commanded. -/
theorem valveLinesStayApart : Obligations.ValveLinesStayApart := by
  intro s t hst hs
  obtain h | h := step_develops hst
  · exact h.lines hs
  · exact h ▸ rfl

/-- Settles O55. -/
theorem storesStayBounded : Obligations.StoresStayBounded := by
  intro s t hst hs hb
  obtain h | h := step_develops hst
  · exact ⟨h.stores hs, h.banks hb⟩
  · exact h ▸ ⟨rfl, rfl⟩

/-- Settles O60. -/
theorem resetMeetsTheInvariants : Obligations.ResetMeetsTheInvariants := by
  intro q s
  exact ⟨rfl, rfl, rfl, rfl, rfl, rfl, rfl⟩

/-- Settles O1: the two equations of `step`. -/
theorem stepTakesTheFrontCommand : Obligations.StepTakesTheFrontCommand :=
  ⟨fun c rest s h => by rw [step, h], fun s h => by rw [step, h]⟩

end Sys2Proof.Machine

/-! PROOFS. Frames: what the commands of a weld, of the bus and of the stores leave (O51, O52), what is written by its own
commands alone (O53). Equality besides a part is transitive, so each operation needs one lemma. -/

namespace Sys2Proof.Machine

variable {s t u : State}

/-! ### Timed rows -/

theorem State.event_besidesWeld {act : State → State} (h : ∀ v : State, (act v).besidesWeld = v.besidesWeld)
    (due : Bool) : (s.event due act).besidesWeld = s.besidesWeld := by
  unfold State.event
  split
  · exact (State.declare_besidesWeld _).trans (h s)
  · rfl

theorem State.clampTimedOut_besidesWeld (s : State) : s.clampTimedOut.besidesWeld = s.besidesWeld :=
  State.endCause_besidesWeld _ _ _

theorem State.pulseOnEnds_besidesWeld (s : State) : s.pulseOnEnds.besidesWeld = s.besidesWeld :=
  State.enterPulseOff_besidesWeld _

theorem State.shortBegins_besidesWeld (s : State) : s.shortBegins.besidesWeld = s.besidesWeld := by
  unfold State.shortBegins
  split
  · rfl
  · exact State.latch_besidesWeld s .short s.meas.intervalPos

theorem State.rampEnds_besidesWeld (s : State) : s.rampEnds.besidesWeld = s.besidesWeld :=
  State.enterOpening_besidesWeld _

theorem State.settleExpires_besidesWeld (s : State) : s.settleExpires.besidesWeld = s.besidesWeld := by
  unfold State.settleExpires
  split
  · rfl
  · extract_lets _ _ s1
    split
    · exact State.admitRise_besidesWeld s1 _
    · rfl

theorem State.admitTimedOut_besidesWeld (s : State) : s.admitTimedOut.besidesWeld = s.besidesWeld :=
  (State.endCause_besidesWeld _ _ _).trans (State.placeDemand_besidesWeld _)

theorem State.minrunExpires_besidesWeld (s : State) : s.minrunExpires.besidesWeld = s.besidesWeld :=
  State.yieldEval_besidesWeld _ _

/-- The timed commands of the phase units, of the own rise and of Yield Control. -/
def timedByWeld : List Instr :=
  [.clampTimeout, .pullStall, .pullTimeout, .pulseOnEnd, .pulseOffEnd, .shortOnset, .openCircuit, .abortRetractStill,
    .powerWindowComplete, .boostTimeReached, .currentOff, .upsetStall, .upsetTimeout, .holdTimeEnd, .shearTimeout,
    .shearReturnTimeout, .releaseRampEnd, .clampOpenTimeout, .settleExpiry, .admitTimeout, .yieldLimit, .minrunExpiry,
    .preheatPauseRestart]

theorem exec_timedByWeld {i : Instr} (hi : i ∈ timedByWeld) (h : exec i s = .next t) : t.besidesWeld = s.besidesWeld := by
  have ends {v : State} (e : v.besidesWeld = s.besidesWeld) (hv : exec i s = .next v) : t.besidesWeld = s.besidesWeld := by
    obtain rfl := Host.Outcome.next.inj (hv.symm.trans h)
    exact e
  simp only [timedByWeld, List.mem_cons, List.not_mem_nil, or_false] at hi
  obtain rfl | rfl | rfl | rfl | rfl | rfl | rfl | rfl | rfl | rfl | rfl | rfl | rfl | rfl | rfl | rfl | rfl | rfl | rfl
    | rfl | rfl | rfl | rfl := hi
  · exact ends (State.event_besidesWeld State.clampTimedOut_besidesWeld _) rfl
  · exact ends (State.event_besidesWeld State.endPull_besidesWeld _) rfl
  · exact ends (State.event_besidesWeld State.endPull_besidesWeld _) rfl
  · exact ends (State.event_besidesWeld State.pulseOnEnds_besidesWeld _) rfl
  · exact ends (State.event_besidesWeld State.endPulseOff_besidesWeld _) rfl
  · exact ends (State.event_besidesWeld State.shortBegins_besidesWeld _) rfl
  · exact ends (State.event_besidesWeld (act := State.openBegins) (fun _ => rfl) _) rfl
  · exact ends (State.event_besidesWeld State.enterReleasing_besidesWeld _) rfl
  · exact ends (State.event_besidesWeld (act := State.takeWindow) (fun _ => rfl) _) rfl
  · exact ends (State.event_besidesWeld State.endBoost_besidesWeld _) rfl
  · exact ends (State.event_besidesWeld State.takeCurrentOff_besidesWeld _) rfl
  · exact ends (State.event_besidesWeld State.endUpset_besidesWeld _) rfl
  · exact ends (State.event_besidesWeld State.endUpset_besidesWeld _) rfl
  · exact ends (State.event_besidesWeld State.endHold_besidesWeld _) rfl
  · exact ends (State.event_besidesWeld (fun v => (State.enterReturning_besidesWeld _).trans v.shearFails_besidesWeld) _)
      rfl
  · exact ends (State.event_besidesWeld (fun v => (State.endTrim_besidesWeld _).trans v.shearFails_besidesWeld) _) rfl
  · exact ends (State.event_besidesWeld State.rampEnds_besidesWeld _) rfl
  · exact ends (State.event_besidesWeld State.enterWaiting_besidesWeld _) rfl
  · exact ends (State.event_besidesWeld State.settleExpires_besidesWeld _) rfl
  · exact ends (State.event_besidesWeld State.admitTimedOut_besidesWeld _) rfl
  · exact ends (State.event_besidesWeld State.yieldLimited_besidesWeld _) rfl
  · exact ends (State.event_besidesWeld State.minrunExpires_besidesWeld _) rfl
  · exact ends (State.event_besidesWeld State.pauseRestarts_besidesWeld _) rfl

/-! ### Frames of other stations -/

/-- A view of the state that the owner's own part leaves, the reception of another station's frame leaves. -/
theorem State.onRx_view {α : Type} {view : State → α} {n : Station} (hn : n ≠ s.station) {f : State → State}
    (hf : view (f s) = view s) : view (s.onRx n f) = view s := by
  unfold State.onRx
  rw [if_neg hn]
  split
  · rfl
  · exact hf

theorem State.ifJoined_view {α : Type} {view : State → α} {f : State → State} (hf : view (f s) = view s) :
    view (s.ifJoined f) = view s := by
  unfold State.ifJoined
  split
  · exact hf
  · rfl

theorem State.ifSharing_view {α : Type} {view : State → α} {f : State → State} (hf : view (f s) = view s) :
    view (s.ifSharing f) = view s := by
  unfold State.ifSharing
  split
  · rfl
  · exact hf

theorem State.takeAbort_besidesWeld (s : State) (d : List Byte) : (s.takeAbort d).besidesWeld = s.besidesWeld := by
  unfold State.takeAbort
  split
  · exact (State.declare_besidesWeld _).trans (State.endCause_besidesWeld _ _ _)
  · rfl

theorem State.takeClear_besidesWeld (s : State) (d : List Byte) : (s.takeClear d).besidesWeld = s.besidesWeld := by
  unfold State.takeClear
  split
  · exact (State.declare_besidesWeld _).trans (State.enterReleasing_besidesWeld _)
  · rfl

/-! ### The peer table and the rating -/

/-- What a command that may write the table besides leaves. -/
def State.besidesPeers (s : State) : State := { s with share := { s.share with peers := [] } }.besidesWeld

theorem State.besidesPeers_of_besidesWeld (h : t.besidesWeld = s.besidesWeld) : t.besidesPeers = s.besidesPeers :=
  congrArg (fun v : State => { v with share := { v.share with peers := [] } }) h

/-- The table put back. -/
theorem State.eq_of_besidesPeers (h : t.besidesPeers = s.besidesPeers) :
    t.besidesWeld = { s with share := { s.share with peers := t.share.peers } }.besidesWeld :=
  congrArg (fun v : State => { v with share := { v.share with peers := t.share.peers } }) h

theorem State.withPeers_besidesPeers (s : State) (l : List Peer) : (s.withPeers l).besidesPeers = s.besidesPeers :=
  (State.besidesPeers_of_besidesWeld (State.shareEvent_besidesWeld _ _ _)).trans rfl

theorem State.declare_besidesPeers (s : State) : s.declare.besidesPeers = s.besidesPeers :=
  State.besidesPeers_of_besidesWeld s.declare_besidesWeld

theorem State.takeDemand_besidesPeers (s : State) (n : Station) (d : List Byte) :
    (s.takeDemand n d).besidesPeers = s.besidesPeers := by
  unfold State.takeDemand
  split
  · exact (State.declare_besidesPeers _).trans (State.withPeers_besidesPeers _ _)
  · rfl

theorem State.event_besidesPeers {act : State → State} (h : (act s).besidesPeers = s.besidesPeers) (due : Bool) :
    (s.event due act).besidesPeers = s.besidesPeers := by
  unfold State.event
  split
  · exact (State.declare_besidesPeers _).trans h
  · rfl

/-- What a command that may write the rating besides leaves. -/
def State.besidesRating (s : State) : State :=
  { s with share := { s.share with
    rating := none, genState := none, ratingAge := none, source := .none } }.besidesWeld

theorem State.besidesRating_of_besidesWeld (h : t.besidesWeld = s.besidesWeld) : t.besidesRating = s.besidesRating :=
  congrArg (fun v : State =>
    { v with share := { v.share with rating := none, genState := none, ratingAge := none, source := .none } }) h

/-- The rating put back. -/
theorem State.eq_of_besidesRating (h : t.besidesRating = s.besidesRating) :
    t.besidesWeld = { s with share := { s.share with
      rating := t.share.rating, genState := t.share.genState, ratingAge := t.share.ratingAge
      source := t.share.source } }.besidesWeld :=
  congrArg (fun v : State => { v with share := { v.share with
    rating := t.share.rating, genState := t.share.genState, ratingAge := t.share.ratingAge
    source := t.share.source } }) h

theorem State.budgetEvent_besidesRating (s before : State) : (s.budgetEvent before).besidesRating = s.besidesRating :=
  (State.besidesRating_of_besidesWeld (State.shareEvent_besidesWeld _ _ _)).trans rfl

theorem State.takeRating_besidesRating (s : State) (n : Station) (d : List Byte) :
    (s.takeRating n d).besidesRating = s.besidesRating := by
  unfold State.takeRating
  split
  · exact (State.besidesRating_of_besidesWeld (State.declare_besidesWeld _)).trans (State.budgetEvent_besidesRating _ _)
  · rfl

theorem State.ratingAgeEvent_besidesRating (s : State) : s.ratingAgeEvent.besidesRating = s.besidesRating := by
  unfold State.ratingAgeEvent State.event
  split
  · exact (State.besidesRating_of_besidesWeld (State.declare_besidesWeld _)).trans (State.budgetEvent_besidesRating _ _)
  · rfl

/-! ### The measurements -/

/-- What a command that may write the measurements besides leaves. -/
def State.besidesMeas (s : State) : State := { s with meas := .reset }.besidesWeld

theorem State.besidesMeas_of_besidesWeld (h : t.besidesWeld = s.besidesWeld) : t.besidesMeas = s.besidesMeas :=
  congrArg (fun v : State => { v with meas := .reset }) h

/-- The measurements put back, of which `part` gives what may have changed. -/
theorem State.eq_of_besidesMeas {m : Meas} (h : t.besidesMeas = s.besidesMeas) (hm : t.meas = m) :
    t.besidesWeld = { s with meas := m }.besidesWeld :=
  hm ▸ congrArg (fun v : State => { v with meas := t.meas }) h

/-- The measurements without what the encoder's rows write (R144 to R147). -/
def Meas.besidesEncoder (m : Meas) : Meas :=
  { m with position := 0, homed := false, positionError := false, homedInSample := false, homedNext := false }

theorem Meas.eq_of_besidesEncoder {m x : Meas} (h : x.besidesEncoder = m.besidesEncoder) :
    x = { m with
      position := x.position, homed := x.homed, positionError := x.positionError, homedInSample := x.homedInSample
      homedNext := x.homedNext } :=
  congrArg (fun y : Meas =>
    { y with
      position := x.position, homed := x.homed, positionError := x.positionError, homedInSample := x.homedInSample
      homedNext := x.homedNext }) h

/-- The measurements without what the input rows write (R150 to R154). -/
def Meas.besidesInputs (m : Meas) : Meas :=
  { m with
    inputs := .build fun _ => ⟨false, 0, false, false⟩, capture := .build fun _ => false, fbReported := false
    condEmergency := false, condTrain := false, condClamp := false }

theorem Meas.eq_of_besidesInputs {m x : Meas} (h : x.besidesInputs = m.besidesInputs) :
    x = { m with
      inputs := x.inputs, capture := x.capture, fbReported := x.fbReported, condEmergency := x.condEmergency
      condTrain := x.condTrain, condClamp := x.condClamp } :=
  congrArg (fun y : Meas =>
    { y with
      inputs := x.inputs, capture := x.capture, fbReported := x.fbReported, condEmergency := x.condEmergency
      condTrain := x.condTrain, condClamp := x.condClamp }) h

/-- Besides a weld's own part and a part of the measurements, the state is the same. -/
def State.MeasuresBesides {α : Type} (part : Meas → α) (s t : State) : Prop :=
  t.besidesMeas = s.besidesMeas ∧ part t.meas = part s.meas

namespace State.MeasuresBesides

variable {α : Type} {part : Meas → α}

theorem trans (h : s.MeasuresBesides part t) (h' : t.MeasuresBesides part u) : s.MeasuresBesides part u :=
  ⟨h'.1.trans h.1, h'.2.trans h.2⟩

theorem of_besidesWeld (h : t.besidesWeld = s.besidesWeld) : s.MeasuresBesides part t :=
  ⟨State.besidesMeas_of_besidesWeld h, congrArg part (State.meas_of_besidesWeld h)⟩

theorem testCondition (s : State) (now before : Bool) (x : StopCause) :
    s.MeasuresBesides part (s.testCondition now before x) := by
  unfold State.testCondition
  split
  · exact of_besidesWeld (s.stopCause_besidesWeld x)
  · exact ⟨rfl, rfl⟩

theorem event (h : s.MeasuresBesides part (act s)) (due : Bool) : s.MeasuresBesides part (s.event due act) := by
  unfold State.event
  split
  · exact h.trans (of_besidesWeld (State.declare_besidesWeld _))
  · exact ⟨rfl, rfl⟩

/-! The encoder's rows (R145 to R147). -/

theorem quadratureError (s : State) : s.MeasuresBesides Meas.besidesEncoder s.quadratureError := by
  unfold State.quadratureError
  extract_lets _ s1
  have cleared : s.MeasuresBesides Meas.besidesEncoder s1 := ⟨rfl, rfl⟩
  split
  · exact cleared
  · exact cleared.trans (of_besidesWeld (s1.stopCause_besidesWeld _))

theorem countEdge (s : State) (toward : Bool) : s.MeasuresBesides Meas.besidesEncoder (s.countEdge toward) := by
  unfold State.countEdge
  extract_lets p
  split
  · exact ⟨rfl, rfl⟩
  · exact trans (t := { s with meas := { s.meas with position := _ } }) ⟨rfl, rfl⟩ (quadratureError _)

theorem passMark (s : State) : s.MeasuresBesides Meas.besidesEncoder s.passMark := by
  unfold State.passMark
  split
  · split
    · exact quadratureError s
    · exact ⟨rfl, rfl⟩
  · exact ⟨rfl, rfl⟩

theorem ifDecoding {f : State → State} (h : s.MeasuresBesides part (f s)) : s.MeasuresBesides part (s.ifDecoding f) := by
  unfold State.ifDecoding
  split
  · exact h.trans (of_besidesWeld (State.declare_besidesWeld _))
  · exact ⟨rfl, rfl⟩

/-! The input rows (R150 to R154). -/

theorem testClamp (s : State) (closed : Bool) : s.MeasuresBesides Meas.besidesInputs (s.testClamp closed) :=
  trans (t := { s with meas := { s.meas with condClamp := s.clampLost closed } }) ⟨rfl, rfl⟩ (testCondition _ _ _ _)

theorem clampMoved (s : State) : s.MeasuresBesides part s.clampMoved := by
  unfold State.clampMoved
  split
  · split
    · exact of_besidesWeld s.clampExit_besidesWeld
    · exact ⟨rfl, rfl⟩
  · split
    · split
      · exact of_besidesWeld s.completeRelease_besidesWeld
      · exact ⟨rfl, rfl⟩
    · split
      · exact of_besidesWeld s.completeRelease_besidesWeld
      · exact ⟨rfl, rfl⟩
    · exact ⟨rfl, rfl⟩
  · exact ⟨rfl, rfl⟩

theorem shearMoved (s : State) : s.MeasuresBesides part s.shearMoved := by
  unfold State.shearMoved
  split
  · split
    · split
      · exact of_besidesWeld s.enterReturning_besidesWeld
      · exact ⟨rfl, rfl⟩
    · split
      · exact of_besidesWeld s.endTrim_besidesWeld
      · exact ⟨rfl, rfl⟩
    · exact ⟨rfl, rfl⟩
  · exact ⟨rfl, rfl⟩

theorem feedbackMoved (s : State) : s.MeasuresBesides part s.feedbackMoved := by
  unfold State.feedbackMoved
  split <;> exact ⟨rfl, rfl⟩

theorem inputMoved (s : State) (i : Input) : s.MeasuresBesides Meas.besidesInputs (s.inputMoved i) := by
  unfold State.inputMoved
  split
  · exact ⟨rfl, rfl⟩
  · cases i with
    | emergency =>
      exact trans (t := { s with meas := { s.meas with condEmergency := s.level .emergency } }) ⟨rfl, rfl⟩
        (testCondition _ _ _ _)
    | trainMove =>
      exact trans (t := { s with meas := { s.meas with condTrain := s.level .trainMove } }) ⟨rfl, rfl⟩
        (testCondition _ _ _ _)
    | clampF => exact (testClamp s _).trans (clampMoved _)
    | clampM => exact (testClamp s _).trans (clampMoved _)
    | shearHome => exact shearMoved s
    | shearEnd => exact shearMoved s
    | contFb => exact feedbackMoved s
    | pressOk => exact ⟨rfl, rfl⟩

theorem takeLevel (s : State) (i : Input) : s.MeasuresBesides Meas.besidesInputs (s.takeLevel i) :=
  trans (t := s.acceptLevel i) ⟨rfl, rfl⟩ (inputMoved _ i)

theorem contactorFault (s : State) : s.MeasuresBesides Meas.besidesInputs s.contactorFault :=
  trans (t := { s with meas := { s.meas with fbReported := true } }) ⟨rfl, rfl⟩
    (of_besidesWeld (State.stopCause_besidesWeld _ _))

end State.MeasuresBesides

/-! ### The sample, and the acceptance of a weld -/

/-- What of the Trace Store a weld leaves. -/
def TraceStore.kept (t : TraceStore) := (t.newest, t.copy, t.waiting, t.gonePending)

theorem TraceStore.kept_wake (t : TraceStore) (b : Bool) : (t.wake b).kept = t.kept := by
  unfold TraceStore.wake
  split
  · split
    · split
      · rfl
      · split <;> rfl
    · rfl
  · rfl

theorem TraceStore.kept_setBank (t : TraceStore) (b : Bool) (k : Bank) : (t.setBank b k).kept = t.kept := by
  cases b <;> rfl

theorem TraceStore.kept_closeBlock (t : TraceStore) (b e : Bool) : (t.closeBlock b e).kept = t.kept := by
  unfold TraceStore.closeBlock
  split
  · rfl
  · exact (TraceStore.kept_wake _ _).trans (TraceStore.kept_setBank _ _ _)

theorem TraceStore.kept_capture (t : TraceStore) (b fine : Bool) (phase : Option Nat) (time : Nat) (x : Sample) :
    (t.capture b fine phase time x).kept = t.kept := by
  have write : ∀ v : TraceStore, (v.writeSample b fine phase time x).kept = v.kept := by
    intro v
    rw [TraceStore.writeSample_eq]
    split
    · exact (TraceStore.kept_closeBlock _ _ _).trans (TraceStore.kept_setBank _ _ _)
    · exact TraceStore.kept_setBank _ _ _
  unfold TraceStore.capture
  extract_lets other v
  have closed : v.kept = t.kept := by
    dsimp only [v]
    split
    · exact TraceStore.kept_closeBlock _ _ _
    · rfl
  split
  · exact (write v).trans closed
  · exact closed

theorem State.besidesWeld_of_kept {x : TraceStore} (h : x.kept = s.trace.kept) :
    { s with trace := x }.besidesWeld = s.besidesWeld := by
  simp only [TraceStore.kept, Prod.mk.injEq] at h
  obtain ⟨hn, hc, hw, hg⟩ := h
  simp only [State.besidesWeld, hn, hc, hw, hg]

theorem State.handSample_besidesWeld (s : State) (p : Int) (i v f : Nat) (b : Bool) :
    (s.handSample p i v f b).besidesWeld = s.besidesWeld := by
  unfold State.handSample
  split
  · rfl
  · extract_lets b1 x
    split
    · exact State.besidesWeld_of_kept (TraceStore.kept_capture _ _ _ _ _ _)
    · rfl

/-- What a WELD REQUEST leaves, taken or refused. -/
def State.besidesRequest (s : State) : State :=
  { s with
    nextSerial := 0, lastSerial := 0, trace := .reset, link := { s.link with weldReady := [] } }.besidesWeld

theorem State.besidesRequest_of_besidesWeld (h : t.besidesWeld = s.besidesWeld) : t.besidesRequest = s.besidesRequest :=
  congrArg (fun v : State =>
    { v with nextSerial := 0, lastSerial := 0, trace := .reset, link := { v.link with weldReady := [] } }) h

/-- What the request has written put back. -/
theorem State.eq_of_besidesRequest (h : t.besidesRequest = s.besidesRequest) :
    t.besidesWeld = { s with
      nextSerial := t.nextSerial
      lastSerial := t.lastSerial
      trace := t.trace
      link := { s.link with weldReady := t.link.weldReady } }.besidesWeld :=
  congrArg (fun v : State =>
    { v with
      nextSerial := t.nextSerial
      lastSerial := t.lastSerial
      trace := t.besidesWeld.trace
      link := { v.link with weldReady := t.link.weldReady } }) h

theorem State.clearBank_besidesRequest (s : State) (n : Nat) : (s.clearBank n).besidesRequest = s.besidesRequest := by
  have told {v : State} (x : Notice) (h : v.besidesRequest = s.besidesRequest) : (v.notice x).besidesRequest = s.besidesRequest :=
    (State.besidesRequest_of_besidesWeld (v.notice_besidesWeld x)).trans h
  unfold State.clearBank
  extract_lets b1 t
  split
  · rfl
  · split
    · split
      · rfl
      · exact told _ rfl
      · exact told _ rfl
      · rfl
    · rfl

theorem State.acceptWeld_besidesRequest (s : State) (q : Request) (p : Programme) :
    (s.acceptWeld q p).besidesRequest = s.besidesRequest := by
  unfold State.acceptWeld
  extract_lets n s1 s2
  have cleared : s2.besidesRequest = s.besidesRequest :=
    (State.besidesRequest_of_besidesWeld (State.notice_besidesWeld _ _)).trans (State.clearBank_besidesRequest s1 n)
  exact (State.besidesRequest_of_besidesWeld (State.enterClamp_besidesWeld _)).trans cleared

theorem State.takeRequest_besidesRequest (s : State) (x : Option RequestFault) (q : Request) :
    (s.takeRequest x q).besidesRequest = s.besidesRequest := by
  unfold State.takeRequest
  split
  · exact State.besidesRequest_of_besidesWeld (s.notice_besidesWeld _)
  · exact s.acceptWeld_besidesRequest _ _
  · rfl

theorem State.requestEvent_besidesRequest (s : State) : s.requestEvent.besidesRequest = s.besidesRequest := by
  have next : s.nextRequest.besidesRequest = s.besidesRequest := by
    unfold State.nextRequest
    split
    · rfl
    · extract_lets _ s1
      split
      · rfl
      · exact s1.takeRequest_besidesRequest _ _
  unfold State.requestEvent State.event
  split
  · exact (State.besidesRequest_of_besidesWeld (State.declare_besidesWeld _)).trans next
  · rfl

/-- Settles O51: each row by the lemma of what its act leaves. -/
theorem weldCommandsLeaveTheRest : Obligations.WeldCommandsLeaveTheRest := by
  intro i s t h
  refine ⟨fun hi => exec_timedByWeld hi h, fun n d hn hi => ?_, fun n d hn hi => ?_, fun n d hn hi => ?_, fun b e hi => ?_,
    fun x hi => ?_, fun hi => ?_, fun hi => ?_⟩
  · obtain rfl | rfl := hi
    · obtain rfl := Host.Outcome.next.inj h
      exact State.onRx_view hn (State.ifJoined_view (s.takeAbort_besidesWeld d))
    · obtain rfl := Host.Outcome.next.inj h
      exact State.onRx_view hn (State.ifJoined_view (s.takeClear_besidesWeld d))
  · refine State.eq_of_besidesPeers ?_
    obtain rfl | rfl | rfl := hi
    · obtain rfl := Host.Outcome.next.inj h
      exact State.onRx_view hn (State.ifSharing_view (s.takeDemand_besidesPeers n d))
    · obtain rfl := Host.Outcome.next.inj h
      exact State.event_besidesPeers (s.withPeers_besidesPeers _) _
    · obtain rfl := Host.Outcome.next.inj h
      exact State.event_besidesPeers (s.withPeers_besidesPeers _) _
  · refine State.eq_of_besidesRating ?_
    obtain rfl | rfl := hi
    · obtain rfl := Host.Outcome.next.inj h
      exact State.onRx_view hn (State.ifSharing_view (s.takeRating_besidesRating n d))
    · obtain rfl := Host.Outcome.next.inj h
      exact s.ratingAgeEvent_besidesRating
  · have kept : s.MeasuresBesides Meas.besidesEncoder t := by
      obtain rfl | rfl | rfl := hi
      · obtain rfl := Host.Outcome.next.inj h
        exact .ifDecoding (.countEdge s b)
      · obtain rfl := Host.Outcome.next.inj h
        exact .ifDecoding (.passMark s)
      · cases e <;> obtain rfl := Host.Outcome.next.inj h
        · exact .ifDecoding (.quadratureError s)
        · exact .ifDecoding (.quadratureError s)
    exact State.eq_of_besidesMeas kept.1 (Meas.eq_of_besidesEncoder kept.2)
  · have kept : s.MeasuresBesides Meas.besidesInputs t := by
      obtain rfl | rfl := hi
      · obtain rfl := Host.Outcome.next.inj h
        exact .event (.takeLevel s x) _
      · obtain rfl := Host.Outcome.next.inj h
        exact .event (.contactorFault s) _
    exact State.eq_of_besidesMeas kept.1 (Meas.eq_of_besidesInputs kept.2)
  · subst hi
    obtain rfl := Host.Outcome.next.inj h
    unfold State.sampleEvent State.event
    split
    · have taken := s.takeSample.declare_besidesWeld.trans (State.handSample_besidesWeld _ _ _ _ _ _)
      rw [State.meas_of_besidesWeld taken]
      exact .inl taken
    · exact .inr rfl
  · subst hi
    obtain rfl := Host.Outcome.next.inj h
    exact State.eq_of_besidesRequest s.requestEvent_besidesRequest

end Sys2Proof.Machine

/-! PROOFS. Frames of the bus and of the stores (O52). -/

namespace Sys2Proof.Machine

variable {s t u : State}

/-! ### Reception -/

/-- What a frame of a run leaves. -/
def State.besidesAssembly (s : State) : State :=
  { s with link := { s.link with weldRuns := [], weldReady := [], progRun := none, progReady := [] } }

theorem State.eq_of_besidesAssembly (h : t.besidesAssembly = s.besidesAssembly) :
    t = { s with link := { s.link with
      weldRuns := t.link.weldRuns, weldReady := t.link.weldReady, progRun := t.link.progRun
      progReady := t.link.progReady } } :=
  congrArg (fun v : State => { v with link := { v.link with
    weldRuns := t.link.weldRuns, weldReady := t.link.weldReady, progRun := t.link.progRun
    progReady := t.link.progReady } }) h

theorem State.weldFirst_besidesAssembly (s : State) (n : Nat) (d : List Byte) :
    (s.weldFirst n d).besidesAssembly = s.besidesAssembly := by
  unfold State.weldFirst
  extract_lets others
  split <;> rfl

theorem State.settleProg_besidesAssembly (s : State) (a : Assembly) :
    (s.settleProg a).besidesAssembly = s.besidesAssembly := by
  unfold State.settleProg
  split <;> rfl

theorem State.progFirst_besidesAssembly (s : State) (n : Nat) (d : List Byte) :
    (s.progFirst n d).besidesAssembly = s.besidesAssembly := by
  unfold State.progFirst
  extract_lets mine
  split
  · split
    · exact s.settleProg_besidesAssembly _
    · rfl
  · rfl

theorem State.weldLater_besidesAssembly (s : State) (n : Nat) (d : List Byte) :
    (s.weldLater n d).besidesAssembly = s.besidesAssembly := by
  unfold State.weldLater
  split
  · rfl
  · extract_lets others
    split
    · rfl
    · split <;> rfl

theorem State.progLater_besidesAssembly (s : State) (n : Nat) (d : List Byte) :
    (s.progLater n d).besidesAssembly = s.besidesAssembly := by
  unfold State.progLater
  split
  · rfl
  · split
    · split
      · rfl
      · exact s.settleProg_besidesAssembly _
    · rfl

theorem State.laterFrame_besidesAssembly (s : State) (k : RunKind) (n : Nat) (d : List Byte) :
    (s.laterFrame k n d).besidesAssembly = s.besidesAssembly := by
  unfold State.laterFrame
  split
  · rfl
  · cases k with
    | weldRequest => exact s.weldLater_besidesAssembly n d
    | programme => exact s.progLater_besidesAssembly n d

/-! ### Queries and sending -/

/-- What the readout of a record leaves (R165, R166). -/
def State.besidesRecords (s : State) : State :=
  { s with
    link := { s.link with notices := [], recordSlot := none }
    records := { s.records with sending := none, waiting := none } }

theorem State.eq_of_besidesRecords (h : t.besidesRecords = s.besidesRecords) :
    t = { s with
      link := { s.link with notices := t.link.notices, recordSlot := t.link.recordSlot }
      records := { s.records with sending := t.records.sending, waiting := t.records.waiting } } :=
  congrArg (fun v : State =>
    { v with
      link := { v.link with notices := t.link.notices, recordSlot := t.link.recordSlot }
      records := { v.records with sending := t.records.sending, waiting := t.records.waiting } }) h

/-- What the readout of a trace leaves (R177 to R179). -/
def State.besidesTrace (s : State) : State :=
  { s with
    link := { s.link with notices := [] }
    trace := { s.trace with readout := .idle, stream := none, copy := none, waiting := none } }

theorem State.eq_of_besidesTrace (h : t.besidesTrace = s.besidesTrace) :
    t = { s with
      link := { s.link with notices := t.link.notices }
      trace := { s.trace with
        readout := t.trace.readout, stream := t.trace.stream, copy := t.trace.copy, waiting := t.trace.waiting } } :=
  congrArg (fun v : State =>
    { v with
      link := { v.link with notices := t.link.notices }
      trace := { v.trace with
        readout := t.trace.readout, stream := t.trace.stream, copy := t.trace.copy, waiting := t.trace.waiting } }) h

/-- What the end of a frame on the bus leaves (R184). -/
def State.besidesSending (s : State) : State :=
  { s with
    link := { s.link with
      onBus := none, failed := 0, demandSlot := none, notices := [], statusSlot := none, noticeNext := 0
      recordSlot := none, traceSlot := none }
    records := { s.records with sending := none, waiting := none }
    trace := { s.trace with readout := .idle, stream := none, copy := none, waiting := none, gonePending := false } }

theorem State.eq_of_besidesSending (h : t.besidesSending = s.besidesSending) :
    t = { s with
      link := { s.link with
        onBus := t.link.onBus, failed := t.link.failed, demandSlot := t.link.demandSlot, notices := t.link.notices
        statusSlot := t.link.statusSlot, noticeNext := t.link.noticeNext, recordSlot := t.link.recordSlot
        traceSlot := t.link.traceSlot }
      records := { s.records with sending := t.records.sending, waiting := t.records.waiting }
      trace := { s.trace with
        readout := t.trace.readout, stream := t.trace.stream, copy := t.trace.copy, waiting := t.trace.waiting
        gonePending := t.trace.gonePending } } :=
  congrArg (fun v : State =>
    { v with
      link := { v.link with
        onBus := t.link.onBus, failed := t.link.failed, demandSlot := t.link.demandSlot, notices := t.link.notices
        statusSlot := t.link.statusSlot, noticeNext := t.link.noticeNext, recordSlot := t.link.recordSlot
        traceSlot := t.link.traceSlot }
      records := { v.records with sending := t.records.sending, waiting := t.records.waiting }
      trace := { v.trace with
        readout := t.trace.readout, stream := t.trace.stream, copy := t.trace.copy, waiting := t.trace.waiting
        gonePending := t.trace.gonePending } }) h

theorem State.besidesSending_of_besidesRecords (h : t.besidesRecords = s.besidesRecords) :
    t.besidesSending = s.besidesSending := by
  show t.besidesRecords.besidesSending = s.besidesRecords.besidesSending
  rw [h]

theorem State.besidesSending_of_besidesTrace (h : t.besidesTrace = s.besidesTrace) :
    t.besidesSending = s.besidesSending := by
  show t.besidesTrace.besidesSending = s.besidesTrace.besidesSending
  rw [h]

theorem State.notice_besidesRecords (s : State) (n : Notice) : (s.notice n).besidesRecords = s.besidesRecords := by
  unfold State.notice
  split <;> rfl

theorem State.notice_besidesTrace (s : State) (n : Notice) : (s.notice n).besidesTrace = s.besidesTrace := by
  unfold State.notice
  split <;> rfl

theorem State.recordLookup_besidesRecords (s : State) (n : Nat) :
    (s.recordLookup n).besidesRecords = s.besidesRecords := by
  unfold State.recordLookup
  split
  · exact s.notice_besidesRecords _
  · rfl

theorem State.takeRecordQuery_besidesRecords (s : State) (d : List Byte) :
    (s.takeRecordQuery d).besidesRecords = s.besidesRecords := by
  unfold State.takeRecordQuery
  split
  · split
    · rfl
    · exact s.recordLookup_besidesRecords _
  · rfl

theorem State.recordRunSent_besidesRecords (s : State) : s.recordRunSent.besidesRecords = s.besidesRecords := by
  unfold State.recordRunSent
  split
  · rfl
  · exact State.recordLookup_besidesRecords _ _

theorem State.traceLookup_besidesTrace (s : State) (q : TraceQuery) : (s.traceLookup q).besidesTrace = s.besidesTrace := by
  have told (n : Notice) : (State.notice { s with trace := s.trace.stopStream } n).besidesTrace = s.besidesTrace :=
    State.notice_besidesTrace _ n
  unfold State.traceLookup
  extract_lets t
  split
  · exact told _
  · extract_lets bk
    split
    · exact told _
    · split
      · rfl
      · split
        · exact told _
        · exact told _

theorem State.takeTraceQuery_besidesTrace (s : State) (d : List Byte) :
    (s.takeTraceQuery d).besidesTrace = s.besidesTrace := by
  unfold State.takeTraceQuery
  split
  · split
    · rfl
    · exact s.traceLookup_besidesTrace _
  · rfl

theorem State.takeTraceWaiting_besidesTrace (s : State) : s.takeTraceWaiting.besidesTrace = s.besidesTrace := by
  unfold State.takeTraceWaiting
  split
  · rfl
  · exact State.traceLookup_besidesTrace _ _

theorem State.traceRunSent_besidesSending (s : State) : s.traceRunSent.besidesSending = s.besidesSending := by
  unfold State.traceRunSent
  split
  · rfl
  · split
    · exact (State.besidesSending_of_besidesTrace
        ((State.takeTraceWaiting_besidesTrace _).trans (State.notice_besidesTrace _ _))).trans rfl
    · split
      · exact State.besidesSending_of_besidesTrace s.takeTraceWaiting_besidesTrace
      · split
        · unfold TraceStore.nextBlock
          dsimp only
          split
          · rfl
          · split <;> rfl
        · rfl

theorem State.frameSent_besidesSending (s : State) (f : TxFrame) : (s.frameSent f).besidesSending = s.besidesSending := by
  unfold State.frameSent
  extract_lets _ s1
  split
  · rfl
  · split
    · rfl
    · rfl
    · show ({ s1 with link := s1.link.noticeSent } : State).besidesSending = s.besidesSending
      unfold Link.noticeSent
      split
      · rfl
      · split <;> rfl
    · unfold State.recordFrameSent
      split
      · rfl
      · exact (State.besidesSending_of_besidesRecords (State.recordRunSent_besidesRecords _)).trans rfl
    · unfold State.traceFrameSent
      split
      · rfl
      · exact State.traceRunSent_besidesSending _

/-! ### Capture flags -/

/-- What CAPTURE CLEAR leaves (R152). -/
def State.besidesCapture (s : State) : State := { s with meas := { s.meas with capture := .build fun _ => false } }

theorem State.eq_of_besidesCapture (h : t.besidesCapture = s.besidesCapture) :
    t = { s with meas := { s.meas with capture := t.meas.capture } } :=
  congrArg (fun v : State => { v with meas := { v.meas with capture := t.meas.capture } }) h

theorem State.takeCaptureClear_besidesCapture (s : State) (d : List Byte) :
    (s.takeCaptureClear d).besidesCapture = s.besidesCapture := by
  unfold State.takeCaptureClear
  split <;> rfl

/-! ### Programmes -/

/-- What a PROGRAMME run leaves, stored or refused (R38, R39). -/
def State.besidesProgrammes (s : State) : State :=
  { s with
    slots := Vector.replicate 4 none
    link := { s.link with progReady := [], notices := [] } }.besidesDemand

theorem State.eq_of_besidesProgrammes (h : t.besidesProgrammes = s.besidesProgrammes) :
    t.besidesDemand = { s with
      slots := t.slots, link := { s.link with progReady := t.link.progReady, notices := t.link.notices } }.besidesDemand :=
  congrArg (fun v : State =>
    { v with slots := t.slots, link := { v.link with progReady := t.link.progReady, notices := t.link.notices } }) h

theorem State.notice_besidesProgrammes (s : State) (n : Notice) :
    (s.notice n).besidesProgrammes = s.besidesProgrammes := by
  unfold State.notice
  split <;> rfl

theorem State.nextProgramme_besidesProgrammes (s : State) : s.nextProgramme.besidesProgrammes = s.besidesProgrammes := by
  unfold State.nextProgramme
  split
  · rfl
  · unfold State.takeProgramme
    extract_lets n
    split <;> exact State.notice_besidesProgrammes _ _

theorem State.programmeEvent_besidesProgrammes (s : State) :
    s.programmeEvent.besidesProgrammes = s.besidesProgrammes := by
  have declared (v : State) : v.declare.besidesProgrammes = v.besidesProgrammes :=
    congrArg (fun x : State =>
      { x with slots := Vector.replicate 4 none, link := { x.link with progReady := [], notices := [] } })
      v.declare_besidesDemand |>.trans rfl
  unfold State.programmeEvent State.event
  split
  · exact (declared _).trans s.nextProgramme_besidesProgrammes
  · rfl

/-- Settles O52: each row by the lemma of what it leaves. -/
theorem messageCommandsLeaveTheRest : Obligations.MessageCommandsLeaveTheRest := by
  intro i s t h
  refine ⟨fun b hi => ?_, fun hi => ?_, fun n d k hn hi => ?_, fun n d hn hi => ?_, fun n d hn hi => ?_, fun hi => ?_,
    fun n d hn hi => ?_, fun hi => ?_⟩
  · subst hi
    obtain rfl := Host.Outcome.next.inj h
    unfold State.offer
    split
    · split <;> rfl
    · rfl
  · subst hi
    obtain rfl := Host.Outcome.next.inj h
    refine State.eq_of_besidesSending ?_
    unfold State.acknowledged
    cases s.link.onBus with
    | none => rfl
    | some f => exact s.frameSent_besidesSending f
  · refine State.eq_of_besidesAssembly ?_
    obtain rfl | rfl | rfl := hi
    · obtain rfl := Host.Outcome.next.inj h
      exact State.onRx_view hn (s.weldFirst_besidesAssembly _ d)
    · obtain rfl := Host.Outcome.next.inj h
      exact State.onRx_view hn (s.progFirst_besidesAssembly _ d)
    · obtain rfl := Host.Outcome.next.inj h
      exact State.onRx_view hn (s.laterFrame_besidesAssembly k _ d)
  · subst hi
    obtain rfl := Host.Outcome.next.inj h
    exact State.eq_of_besidesRecords (State.onRx_view hn (State.ifJoined_view (s.takeRecordQuery_besidesRecords d)))
  · subst hi
    obtain rfl := Host.Outcome.next.inj h
    exact State.eq_of_besidesTrace (State.onRx_view hn (State.ifJoined_view (s.takeTraceQuery_besidesTrace d)))
  · subst hi
    obtain rfl := Host.Outcome.next.inj h
    unfold State.fetchDone
    split
    · split <;> rfl
    · rfl
  · subst hi
    obtain rfl := Host.Outcome.next.inj h
    exact State.eq_of_besidesCapture (State.onRx_view hn (State.ifJoined_view (s.takeCaptureClear_besidesCapture d)))
  · subst hi
    obtain rfl := Host.Outcome.next.inj h
    exact State.eq_of_besidesProgrammes s.programmeEvent_besidesProgrammes

end Sys2Proof.Machine

/-! PROOFS. What is written by its own commands alone (O53). -/

namespace Sys2Proof.Machine

variable {s t u : State}

/-! ### The evaluation of an interval writes a weld's own part -/

theorem State.countPower_besidesWeld (s : State) : s.countPower.besidesWeld = s.besidesWeld := by
  rw [State.countPower_eq]
  rfl

theorem State.testFlash_besidesWeld (s : State) : s.testFlash.besidesWeld = s.besidesWeld := by
  unfold State.testFlash
  split
  · rfl
  · split
    · split
      · exact s.endCause_besidesWeld _ _
      · rfl
    · unfold State.testFlashExit
      split
      · rfl
      · split
        · exact s.flashExit_besidesWeld
        · rfl

theorem State.countOpen_besidesWeld (s : State) (r : FlashRec) : (s.countOpen r).besidesWeld = s.besidesWeld := by
  rw [State.countOpen_eq]
  rfl

theorem State.closeGap_besidesWeld (s : State) : s.closeGap.besidesWeld = s.besidesWeld :=
  s.closeEpisode_besidesWeld

theorem State.endRetraction_besidesWeld (s : State) : s.endRetraction.besidesWeld = s.besidesWeld := by
  unfold State.endRetraction
  extract_lets _ s1
  split
  · exact s1.makeMove_besidesWeld
  · rfl

theorem State.regulateFlash_besidesWeld (s : State) (i : Nat) (r now : FlashRec) :
    (s.regulateFlash i r now).besidesWeld = s.besidesWeld := by
  unfold State.regulateFlash
  split
  · rfl
  · split
    · split
      · exact s.latch_besidesWeld _ _
      · rfl
    · split
      · rfl
      · split
        · rfl
        · extract_lets s1
          split
          · exact s1.endRetraction_besidesWeld
          · rfl
      · split
        · exact s.closeGap_besidesWeld
        · exact s.countOpen_besidesWeld now
      · rfl

theorem State.evalFlash_besidesWeld (s : State) : s.evalFlash.besidesWeld = s.besidesWeld := by
  unfold State.evalFlash
  split
  · rfl
  · extract_lets i s1
    split
    · exact (s1.regulateFlash_besidesWeld _ _ _).trans s.testFlash_besidesWeld
    · exact (State.testFlash_besidesWeld _).trans (s.countOpen_besidesWeld _)

theorem State.evalPreheat_besidesWeld (s : State) : s.evalPreheat.besidesWeld = s.besidesWeld := by
  unfold State.evalPreheat
  split
  · rfl
  · split
    · rfl
    · extract_lets s1
      split
      · split <;> rfl
      · rfl
      · split
        · rfl
        · split <;> rfl
      · rfl

theorem State.evalCurrent_besidesWeld (s : State) : s.evalCurrent.besidesWeld = s.besidesWeld := by
  have counted : s.countPower.updateBurnOff.besidesWeld = s.besidesWeld := s.countPower_besidesWeld
  unfold State.evalCurrent
  extract_lets s1
  split
  · unfold State.evalAbort
    split
    · exact s1.enterReleasing_besidesWeld.trans counted
    · exact counted
  · split
    · exact s1.evalPreheat_besidesWeld.trans counted
    · exact s1.evalFlash_besidesWeld.trans counted

theorem State.evalBoost_besidesWeld (s : State) : s.evalBoost.besidesWeld = s.besidesWeld := by
  unfold State.evalBoost
  split
  · rfl
  · split
    · rfl
    · split
      · exact s.endBoost_besidesWeld
      · rfl

theorem State.evalUpset_besidesWeld (s : State) : s.evalUpset.besidesWeld = s.besidesWeld := by
  unfold State.evalUpset
  split
  · rfl
  · extract_lets _ _ s1
    split
    · exact s1.endUpset_besidesWeld
    · rfl

theorem State.evalPull_besidesWeld (s : State) : s.evalPull.besidesWeld = s.besidesWeld := by
  unfold State.evalPull
  split
  · rfl
  · extract_lets _ s1
    split
    · exact s1.endPull_besidesWeld
    · rfl

theorem State.evalUnits_besidesWeld (s : State) : s.evalUnits.besidesWeld = s.besidesWeld := by
  unfold State.evalUnits
  split
  · exact s.evalPull_besidesWeld
  · exact s.evalCurrent_besidesWeld
  · exact s.evalCurrent_besidesWeld
  · exact (State.evalBoost_besidesWeld _).trans s.countPower_besidesWeld
  · exact (State.evalUpset_besidesWeld _).trans s.countPower_besidesWeld
  · unfold State.evalRelease
    split <;> rfl
  all_goals rfl

/-- The measurements without what an interval's readings, inputs and tests write. -/
def Meas.encoder (m : Meas) := (m.position, m.homed)

namespace State.MeasuresBesides

theorem of_besidesInputs (h : s.MeasuresBesides Meas.besidesInputs t) : s.MeasuresBesides Meas.encoder t :=
  ⟨h.1, show t.meas.besidesInputs.encoder = s.meas.besidesInputs.encoder from congrArg (fun m : Meas => m.encoder) h.2⟩

theorem testEmergency (s : State) : s.MeasuresBesides Meas.encoder s.testEmergency :=
  trans (t := { s with meas := { s.meas with condEmergency := s.level .emergency } }) ⟨rfl, rfl⟩ (testCondition _ _ _ _)

theorem testTrain (s : State) : s.MeasuresBesides Meas.encoder s.testTrain :=
  trans (t := { s with meas := { s.meas with condTrain := s.level .trainMove } }) ⟨rfl, rfl⟩ (testCondition _ _ _ _)

theorem testForce (s : State) : s.MeasuresBesides Meas.encoder s.testForce :=
  trans (t := { s with meas := { s.meas with condForce := s.forceOver } }) ⟨rfl, rfl⟩ (testCondition _ _ _ _)

theorem testConditions (s : State) : s.MeasuresBesides Meas.encoder s.testConditions := by
  unfold State.testConditions
  split
  · exact ⟨rfl, rfl⟩
  · exact (((testEmergency s).trans (of_besidesInputs (testClamp _ _))).trans (testTrain _)).trans (testForce _)

end State.MeasuresBesides

theorem State.MeasuresBesides.measure (s : State) (r : Readings) : s.MeasuresBesides Meas.encoder (s.measure r) := by
  have taken : s.MeasuresBesides Meas.encoder (s.takeReadings r) := by
    unfold State.takeReadings
    split <;> exact ⟨rfl, rfl⟩
  have sampled (v : State) : v.MeasuresBesides Meas.encoder (v.sampleInputs r.pins) := by
    unfold State.sampleInputs
    split <;> exact ⟨rfl, rfl⟩
  have compared (v : State) : v.MeasuresBesides Meas.encoder v.compareContactor := by
    unfold State.compareContactor
    split
    · exact ⟨rfl, rfl⟩
    · split <;> exact ⟨rfl, rfl⟩
  unfold State.measure
  extract_lets s1 m s2
  have summed : s1.MeasuresBesides Meas.encoder s2 := ⟨rfl, rfl⟩
  exact ((taken.trans summed).trans (sampled s2)).trans (compared _)

theorem State.MeasuresBesides.evaluate (s : State) (b : Bool) : s.MeasuresBesides Meas.encoder (s.evaluate b) := by
  unfold State.evaluate
  split
  · exact (State.MeasuresBesides.testConditions s).trans (.of_besidesWeld (State.evalUnits_besidesWeld _))
  · exact (State.MeasuresBesides.of_besidesWeld s.evalUnits_besidesWeld).trans (.testConditions _)

/-! ### What stands still (log 5) -/

/-- What no interval writes: the queue, the straps, the image, the bit rate, the rating as received, and the position. -/
def State.installed (s : State) :=
  (s.pending, s.loader, s.station, s.image, s.link.bitRate, s.share.rating, s.share.genState, s.meas.position, s.meas.homed)

/-- What an interval may write: the programmes, the serial counter, and the outputs as forwarded. -/
def State.assigned (s : State) := (s.slots, s.nextSerial, s.wire)

/-- All of it, with the peer table. -/
def State.standing (s : State) := (s.installed, s.assigned, s.share.peers)

theorem State.standing_of_besidesWeld (h : t.besidesWeld = s.besidesWeld) : t.standing = s.standing := by
  show t.besidesWeld.standing = s.besidesWeld.standing
  rw [h]

theorem State.standing_of_besidesDemand (h : t.besidesDemand = s.besidesDemand) : t.standing = s.standing :=
  State.standing_of_besidesWeld (State.besidesWeld_of_besidesDemand h)

theorem State.installed_of_standing (h : t.standing = s.standing) : t.installed = s.installed := congrArg Prod.fst h

theorem State.MeasuresBesides.standing (h : s.MeasuresBesides Meas.encoder t) : t.standing = s.standing := by
  obtain ⟨rest, encoder⟩ := h
  show ({ t.besidesMeas with meas := { Meas.reset with position := t.meas.encoder.1, homed := t.meas.encoder.2 } } :
    State).standing = _
  rw [rest, encoder]
  rfl

theorem State.event_standing {act : State → State} (h : (act s).standing = s.standing) (due : Bool) :
    (s.event due act).standing = s.standing := by
  unfold State.event
  split
  · exact (State.standing_of_besidesWeld (act s).declare_besidesWeld).trans h
  · rfl

theorem State.loseLink_standing (s : State) : s.loseLink.standing = s.standing :=
  (State.standing_of_besidesWeld ((State.declare_besidesWeld _).trans (State.endCause_besidesWeld _ _ _))).trans rfl

theorem State.duplicate_standing (s : State) : s.duplicate.standing = s.standing := by
  unfold State.duplicate
  split
  · exact s.loseLink_standing
  · rfl
  · rfl

theorem State.onRx_standing {f : State → State} (h : (f s).standing = s.standing) (n : Station) :
    (s.onRx n f).standing = s.standing := by
  unfold State.onRx
  split
  · rfl
  · split
    · exact s.duplicate_standing
    · exact h

theorem State.withPeers_standing (s : State) (l : List Peer) :
    (s.withPeers l).standing = ({ s with share := { s.share with peers := l } } : State).standing :=
  State.standing_of_besidesWeld (State.shareEvent_besidesWeld _ _ _)

theorem State.budgetEvent_standing (s before : State) : (s.budgetEvent before).standing = s.standing :=
  (State.standing_of_besidesWeld (State.shareEvent_besidesWeld _ _ _)).trans rfl

theorem State.join_standing (s : State) : s.join.standing = s.standing := by
  unfold State.join
  extract_lets _ _ s1
  refine (State.standing_of_besidesWeld (State.placeDemand_besidesWeld _)).trans ?_
  split
  · exact s1.budgetEvent_standing s
  · rfl

theorem State.besidesAssembly_standing (h : t.besidesAssembly = s.besidesAssembly) : t.standing = s.standing := by
  show t.besidesAssembly.standing = s.besidesAssembly.standing
  rw [h]

theorem State.besidesSending_standing (h : t.besidesSending = s.besidesSending) : t.standing = s.standing := by
  show t.besidesSending.standing = s.besidesSending.standing
  rw [h]

theorem State.besidesCapture_standing (h : t.besidesCapture = s.besidesCapture) : t.standing = s.standing := by
  show t.besidesCapture.standing = s.besidesCapture.standing
  rw [h]

theorem State.acknowledged_standing (s : State) : s.acknowledged.standing = s.standing := by
  unfold State.acknowledged
  cases s.link.onBus with
  | none => rfl
  | some f => exact State.besidesSending_standing (s.frameSent_besidesSending f)

theorem State.notAcknowledged_standing (s : State) : s.notAcknowledged.standing = s.standing := by
  unfold State.notAcknowledged
  split
  · unfold State.frameFailed
    extract_lets _ s1
    split
    · exact s1.loseLink_standing
    · rfl
  · rfl

theorem State.offer_standing (s : State) (won : Bool) : (s.offer won).standing = s.standing := by
  unfold State.offer
  split
  · split <;> rfl
  · rfl

theorem State.fetchDone_standing (s : State) : s.fetchDone.standing = s.standing := by
  unfold State.fetchDone
  split
  · split <;> rfl
  · rfl

theorem State.takeSample_standing (s : State) : s.takeSample.standing = s.standing :=
  (State.standing_of_besidesWeld (State.handSample_besidesWeld _ _ _ _ _ _)).trans rfl

/-- The commands that write what stands otherwise. -/
def writesStanding : Instr → Bool
  | .reset | .configurationRead _ | .resetRelease _ | .encoderEdge _ | .referenceMark | .quadratureError _ | .rating _ _
  | .programme | .weldRequest | .regulationInterval _ _ | .demand _ _ | .peerLapse _ | .peerRemoval _
  | .lostPeriodEnd => true
  | .listenPeriodEnd | .frameOffer _ | .frameAcknowledged | .frameNotAcknowledged | .busOff
  | .duplicateStationFrame | .runFirstFrame _ _ | .programmeFirstFrame _ _ | .runLaterFrame _ _ _ | .runAssemblySilence _
  | .programmeSilence | .abort _ _ | .clear _ _ | .captureClear _ _ | .recordQuery _ _ | .traceQuery _ _
  | .fetchCompletion | .tenMsSample | .headStatusPeriod | .demandPeriod | .inputLevelChange _ | .contactorFeedbackTimeout
  | .clampTimeout | .pullStall | .pullTimeout | .settleExpiry | .admitTimeout
  | .ratingAgeThreshold | .yieldLimit | .minrunExpiry | .preheatPauseRestart | .pulseOnEnd | .pulseOffEnd | .shortOnset
  | .openCircuit | .abortRetractStill | .powerWindowComplete | .boostTimeReached | .currentOff | .upsetStall
  | .upsetTimeout | .holdTimeEnd | .shearTimeout | .shearReturnTimeout | .releaseRampEnd | .clampOpenTimeout => false

/-- Every other command leaves what stands. -/
theorem exec_standing {i : Instr} (hi : writesStanding i = false) (h : exec i s = .next t) : t.standing = s.standing := by
  by_cases hm : i ∈ timedByWeld
  · exact State.standing_of_besidesWeld (exec_timedByWeld hm h)
  cases i
  case listenPeriodEnd => exact Host.Outcome.next.inj h ▸ State.event_standing s.join_standing _
  case frameOffer won => exact Host.Outcome.next.inj h ▸ s.offer_standing won
  case frameAcknowledged => exact Host.Outcome.next.inj h ▸ s.acknowledged_standing
  case frameNotAcknowledged => exact Host.Outcome.next.inj h ▸ s.notAcknowledged_standing
  case busOff =>
    obtain rfl := Host.Outcome.next.inj h
    split
    · exact s.loseLink_standing
    · rfl
  case duplicateStationFrame =>
    obtain rfl := Host.Outcome.next.inj h
    split
    · exact s.duplicate_standing
    · rfl
  case runFirstFrame n d =>
    obtain rfl := Host.Outcome.next.inj h
    have kept : (s.weldFirst n.val d).standing = s.standing := State.besidesAssembly_standing (s.weldFirst_besidesAssembly _ d)
    exact State.onRx_standing (f := fun v => v.weldFirst n.val d) kept n
  case programmeFirstFrame n d =>
    obtain rfl := Host.Outcome.next.inj h
    have kept : (s.progFirst n.val d).standing = s.standing := State.besidesAssembly_standing (s.progFirst_besidesAssembly _ d)
    exact State.onRx_standing (f := fun v => v.progFirst n.val d) kept n
  case runLaterFrame k n d =>
    obtain rfl := Host.Outcome.next.inj h
    have kept : (s.laterFrame k n.val d).standing = s.standing := State.besidesAssembly_standing (s.laterFrame_besidesAssembly k _ d)
    exact State.onRx_standing (f := fun v => v.laterFrame k n.val d) kept n
  case runAssemblySilence n => exact Host.Outcome.next.inj h ▸ State.event_standing rfl _
  case programmeSilence => exact Host.Outcome.next.inj h ▸ State.event_standing rfl _
  case abort n d =>
    obtain rfl := Host.Outcome.next.inj h
    exact State.onRx_standing (State.ifJoined_view (State.standing_of_besidesWeld (s.takeAbort_besidesWeld d))) n
  case clear n d =>
    obtain rfl := Host.Outcome.next.inj h
    exact State.onRx_standing (State.ifJoined_view (State.standing_of_besidesWeld (s.takeClear_besidesWeld d))) n
  case captureClear n d =>
    obtain rfl := Host.Outcome.next.inj h
    exact State.onRx_standing
      (State.ifJoined_view (State.besidesCapture_standing (s.takeCaptureClear_besidesCapture d))) n
  case recordQuery n d =>
    obtain rfl := Host.Outcome.next.inj h
    exact State.onRx_standing (State.ifJoined_view (State.besidesSending_standing
      (State.besidesSending_of_besidesRecords (s.takeRecordQuery_besidesRecords d)))) n
  case traceQuery n d =>
    obtain rfl := Host.Outcome.next.inj h
    exact State.onRx_standing (State.ifJoined_view (State.besidesSending_standing
      (State.besidesSending_of_besidesTrace (s.takeTraceQuery_besidesTrace d)))) n
  case fetchCompletion => exact Host.Outcome.next.inj h ▸ s.fetchDone_standing
  case tenMsSample => exact Host.Outcome.next.inj h ▸ State.event_standing s.takeSample_standing _
  case headStatusPeriod => exact Host.Outcome.next.inj h ▸ State.event_standing rfl _
  case demandPeriod =>
    exact Host.Outcome.next.inj h ▸ State.event_standing (State.standing_of_besidesWeld s.placeDemand_besidesWeld) _
  case inputLevelChange x =>
    exact Host.Outcome.next.inj h ▸ State.event_standing (State.MeasuresBesides.takeLevel s x).of_besidesInputs.standing _
  case contactorFeedbackTimeout =>
    exact Host.Outcome.next.inj h ▸
      State.event_standing (State.MeasuresBesides.contactorFault s).of_besidesInputs.standing _
  case ratingAgeThreshold => exact Host.Outcome.next.inj h ▸ State.event_standing (s.budgetEvent_standing s) _
  case reset | configurationRead | resetRelease | encoderEdge | referenceMark | quadratureError | rating | programme
    | weldRequest | regulationInterval | demand | peerLapse | peerRemoval | lostPeriodEnd => exact nomatch hi
  all_goals exact absurd (by simp [timedByWeld]) hm

theorem takenWhenDue_writesStanding {i : Instr} (h : takenWhenDue i = true) :
    writesStanding i = false ∨ i = .programme ∨ i = .weldRequest ∨ (∃ n, i = .peerLapse n) ∨ (∃ n, i = .peerRemoval n)
      ∨ i = .lostPeriodEnd := by
  cases i <;> simp_all [takenWhenDue, writesStanding]

/-- A command that writes the peer table writes nothing else that stands. -/
def State.TableAlone (s t : State) : Prop :=
  t.standing = ({ s with share := { s.share with peers := t.share.peers } } : State).standing

theorem State.TableAlone.of_standing (h : t.standing = s.standing) : s.TableAlone t := by
  unfold State.TableAlone
  simp only [State.standing, Prod.mk.injEq] at h ⊢
  exact ⟨h.1, h.2.1, trivial⟩

theorem State.TableAlone.trans (h : s.TableAlone t) (h' : t.TableAlone u) : s.TableAlone u := by
  unfold State.TableAlone at *
  simp only [State.standing, Prod.mk.injEq] at h h' ⊢
  exact ⟨h'.1.trans h.1, h'.2.1.trans h.2.1, trivial⟩

theorem State.TableAlone.installed (h : s.TableAlone t) : t.installed = s.installed := congrArg Prod.fst h

theorem State.TableAlone.withPeers (s : State) (l : List Peer) : s.TableAlone (s.withPeers l) := by
  have h := s.withPeers_standing l
  unfold State.TableAlone
  simp only [State.standing, Prod.mk.injEq] at h ⊢
  exact ⟨h.1, h.2.1, trivial⟩

theorem State.TableAlone.event {act : State → State} (h : s.TableAlone (act s)) (due : Bool) :
    s.TableAlone (s.event due act) := by
  unfold State.event
  split
  · exact h.trans (.of_standing (State.standing_of_besidesWeld (act s).declare_besidesWeld))
  · exact .of_standing rfl

theorem State.TableAlone.rejoin (s : State) : s.TableAlone s.rejoin :=
  .trans (t := { s with link := { s.link with state := .listening, listen := .started, failed := 0 } }) (.of_standing rfl)
    (.withPeers _ [])

theorem exec_demand_tableAlone {n : Station} {d : List Byte} (h : exec (.demand n d) s = .next t) : s.TableAlone t := by
  obtain rfl := Host.Outcome.next.inj h
  unfold State.onRx
  split
  · exact .of_standing rfl
  · split
    · exact .of_standing s.duplicate_standing
    · dsimp only
      unfold State.ifSharing
      split
      · exact .of_standing rfl
      · dsimp only
        unfold State.takeDemand
        split
        · exact (State.TableAlone.withPeers s _).trans (.of_standing (State.standing_of_besidesWeld (State.declare_besidesWeld _)))
        · exact .of_standing rfl

theorem State.programmeEvent_standing (s : State) :
    s.programmeEvent.standing = ({ s with slots := s.programmeEvent.slots } : State).standing :=
  (State.standing_of_besidesDemand (State.eq_of_besidesProgrammes s.programmeEvent_besidesProgrammes)).trans rfl

theorem State.requestEvent_standing (s : State) :
    s.requestEvent.standing = ({ s with nextSerial := s.requestEvent.nextSerial } : State).standing :=
  (State.standing_of_besidesWeld (State.eq_of_besidesRequest s.requestEvent_besidesRequest)).trans rfl

/-- What an interval takes by itself writes nothing that is installed. -/
theorem exec_due_installed {i : Instr} (hi : takenWhenDue i = true) (h : exec i s = .next t) :
    t.installed = s.installed := by
  obtain hw | rfl | rfl | ⟨n, rfl⟩ | ⟨n, rfl⟩ | rfl := takenWhenDue_writesStanding hi
  · exact State.installed_of_standing (exec_standing hw h)
  · obtain rfl := Host.Outcome.next.inj h
    exact (State.installed_of_standing s.programmeEvent_standing).trans rfl
  · obtain rfl := Host.Outcome.next.inj h
    exact (State.installed_of_standing s.requestEvent_standing).trans rfl
  · exact Host.Outcome.next.inj h ▸ (State.TableAlone.event (.withPeers s _) _).installed
  · exact Host.Outcome.next.inj h ▸ (State.TableAlone.event (.withPeers s _) _).installed
  · exact Host.Outcome.next.inj h ▸ (State.TableAlone.event (.rejoin s) _).installed

theorem State.takeDue_installed (s : State) : s.takeDue.installed = s.installed :=
  State.takeDue_keeps (P := fun v => v.installed = s.installed)
    (fun _ _ _ hi hv hu => (exec_due_installed hi hv).trans hu) rfl

theorem State.interval_installed (s : State) (b : Bool) (r : Readings) : (s.interval b r).installed = s.installed := by
  unfold State.interval
  split
  · rfl
  · have passed (v : State) : v.forwardOutputs.tick.installed = v.installed := rfl
    have ticked := (passed s.takeDue).trans s.takeDue_installed
    generalize s.takeDue.forwardOutputs.tick = v at ticked ⊢
    have evaluated := ((State.MeasuresBesides.measure v r).trans (State.MeasuresBesides.evaluate (v.measure r) b)).standing
    have declared := State.standing_of_besidesWeld (State.declare_besidesWeld ((v.measure r).evaluate b))
    exact (State.installed_of_standing (declared.trans evaluated)).trans ticked

theorem State.takeRating_standing (s : State) (n : Station) (d : List Byte) :
    (s.takeRating n d).standing = ({ s with share := { s.share with
      rating := (s.takeRating n d).share.rating, genState := (s.takeRating n d).share.genState } } : State).standing :=
  (State.standing_of_besidesWeld (State.eq_of_besidesRating (s.takeRating_besidesRating n d))).trans rfl

/-- A RATING of another station writes the rating, and one of the own number is a duplicate. -/
theorem exec_rating_standing {n : Station} {d : List Byte} (h : exec (.rating n d) s = .next t) :
    t.standing = ({ s with share := { s.share with rating := t.share.rating, genState := t.share.genState } } :
      State).standing := by
  obtain rfl := Host.Outcome.next.inj h
  have kept {v : State} (e : v.standing = s.standing) : v.standing =
      ({ s with share := { s.share with rating := v.share.rating, genState := v.share.genState } } : State).standing := by
    simp only [State.standing, State.installed, State.assigned, Prod.mk.injEq] at e ⊢
    simp only [e, and_self]
  unfold State.onRx
  split
  · rfl
  · split
    · exact kept s.duplicate_standing
    · dsimp only
      unfold State.ifSharing
      split
      · rfl
      · exact s.takeRating_standing n d

theorem State.loadImage_standing (s : State) (b : List Byte) :
    (s.loadImage b).standing = ({ s with
      loader := (s.loadImage b).loader, image := (s.loadImage b).image
      link := { s.link with bitRate := (s.loadImage b).link.bitRate } } : State).standing := by
  unfold State.loadImage
  extract_lets _ s1
  split
  · have declared := State.standing_of_besidesWeld (State.declare_besidesWeld { s1 with image := imageOf b })
    simp only [State.standing, State.installed, State.assigned, Prod.mk.injEq] at declared ⊢
    obtain ⟨⟨hp, hl, hst, hi, hb, hr, hg, hpos, hh⟩, ⟨hsl, hn, hw⟩, hpe⟩ := declared
    exact ⟨⟨hp, trivial, hst, trivial, trivial, hr, hg, hpos, hh⟩, ⟨hsl, hn, hw⟩, hpe⟩
  · rfl

theorem exec_encoder_standing {i : Instr} {b : Bool} {e : EncoderFault}
    (hi : i = .encoderEdge b ∨ i = .referenceMark ∨ i = .quadratureError e) (h : exec i s = .next t) :
    t.standing = ({ s with meas := { s.meas with position := t.meas.position, homed := t.meas.homed } } :
      State).standing := by
  obtain ⟨-, -, -, -, encoder, -⟩ := weldCommandsLeaveTheRest i s t h
  exact (State.standing_of_besidesWeld (encoder b e hi)).trans rfl

theorem State.standing_fields (h : t.standing = u.standing) :
    t.pending = u.pending ∧ t.loader = u.loader ∧ t.station = u.station ∧ t.image = u.image
      ∧ t.link.bitRate = u.link.bitRate ∧ (t.share.rating = u.share.rating ∧ t.share.genState = u.share.genState)
      ∧ (t.meas.position = u.meas.position ∧ t.meas.homed = u.meas.homed) ∧ t.slots = u.slots
      ∧ t.nextSerial = u.nextSerial ∧ t.wire = u.wire := by
  simp only [State.standing, State.installed, State.assigned, Prod.mk.injEq] at h
  obtain ⟨⟨hp, hl, hst, hi, hb, hr, hg, hpos, hh⟩, ⟨hsl, hn, hw⟩, -⟩ := h
  exact ⟨hp, hl, hst, hi, hb, ⟨hr, hg⟩, ⟨hpos, hh⟩, hsl, hn, hw⟩

/-- Settles O53: every command leaves what stands, but for those named, which write their own part of it. -/
theorem configurationStandsStill : Obligations.ConfigurationStandsStill := by
  intro i s t h
  by_cases alone : s.TableAlone t
  · obtain ⟨hp, hl, hs, him, hb, hr, hm, hsl, hn, hwi⟩ := State.standing_fields alone
    exact ⟨hp, fun _ => ⟨fun _ => hs, fun _ => ⟨him, hb⟩, fun _ _ => hl, fun _ _ _ => hm, fun _ => hr, fun _ _ => hsl,
      fun _ _ => hn, fun _ => hwi⟩⟩
  cases hw : writesStanding i with
  | false => exact absurd (.of_standing (exec_standing hw h)) alone
  | true =>
    cases i
    case reset => exact ⟨Host.Outcome.next.inj h ▸ rfl, fun hr => absurd rfl hr⟩
    case configurationRead b =>
      have kept : t.standing = ({ s with
          loader := t.loader, image := t.image, link := { s.link with bitRate := t.link.bitRate } } : State).standing := by
        obtain rfl := Host.Outcome.next.inj h
        split
        · exact s.loadImage_standing _
        · rfl
      obtain ⟨hp, -, hs, -, -, hr, hm, hsl, hn, hwi⟩ := State.standing_fields kept
      exact ⟨hp, fun _ => ⟨fun _ => hs, fun hc => absurd rfl (hc b), fun _ hc => absurd rfl (hc b), fun _ _ _ => hm,
        fun _ => hr, fun _ _ => hsl, fun _ _ => hn, fun _ => hwi⟩⟩
    case resetRelease g =>
      have kept : t.standing = ({ s with loader := t.loader, station := t.station } : State).standing := by
        obtain rfl := Host.Outcome.next.inj h
        unfold State.latchStraps
        split <;> rfl
      obtain ⟨hp, -, -, him, hb, hr, hm, hsl, hn, hwi⟩ := State.standing_fields kept
      exact ⟨hp, fun _ => ⟨fun hg => absurd rfl (hg g), fun _ => ⟨him, hb⟩, fun hg => absurd rfl (hg g), fun _ _ _ => hm,
        fun _ => hr, fun _ _ => hsl, fun _ _ => hn, fun _ => hwi⟩⟩
    case encoderEdge b =>
      obtain ⟨hp, hl, hs, him, hb, hr, -, hsl, hn, hwi⟩ :=
        State.standing_fields (exec_encoder_standing (b := b) (e := .lineFault) (.inl rfl) h)
      exact ⟨hp, fun _ => ⟨fun _ => hs, fun _ => ⟨him, hb⟩, fun _ _ => hl, fun he => absurd rfl (he b), fun _ => hr,
        fun _ _ => hsl, fun _ _ => hn, fun _ => hwi⟩⟩
    case referenceMark =>
      obtain ⟨hp, hl, hs, him, hb, hr, -, hsl, hn, hwi⟩ :=
        State.standing_fields (exec_encoder_standing (b := true) (e := .lineFault) (.inr (.inl rfl)) h)
      exact ⟨hp, fun _ => ⟨fun _ => hs, fun _ => ⟨him, hb⟩, fun _ _ => hl, fun _ he => absurd rfl he, fun _ => hr,
        fun _ _ => hsl, fun _ _ => hn, fun _ => hwi⟩⟩
    case quadratureError e =>
      obtain ⟨hp, hl, hs, him, hb, hr, -, hsl, hn, hwi⟩ :=
        State.standing_fields (exec_encoder_standing (b := true) (.inr (.inr rfl)) h)
      exact ⟨hp, fun _ => ⟨fun _ => hs, fun _ => ⟨him, hb⟩, fun _ _ => hl, fun _ _ he => absurd rfl (he e), fun _ => hr,
        fun _ _ => hsl, fun _ _ => hn, fun _ => hwi⟩⟩
    case rating n d =>
      obtain ⟨hp, hl, hs, him, hb, -, hm, hsl, hn, hwi⟩ := State.standing_fields (exec_rating_standing h)
      exact ⟨hp, fun _ => ⟨fun _ => hs, fun _ => ⟨him, hb⟩, fun _ _ => hl, fun _ _ _ => hm, fun hc => absurd rfl (hc n d),
        fun _ _ => hsl, fun _ _ => hn, fun _ => hwi⟩⟩
    case programme =>
      obtain rfl := Host.Outcome.next.inj h
      obtain ⟨hp, hl, hs, him, hb, hr, hm, -, hn, hwi⟩ := State.standing_fields s.programmeEvent_standing
      exact ⟨hp, fun _ => ⟨fun _ => hs, fun _ => ⟨him, hb⟩, fun _ _ => hl, fun _ _ _ => hm, fun _ => hr,
        fun hc => absurd rfl hc, fun _ _ => hn, fun _ => hwi⟩⟩
    case weldRequest =>
      obtain rfl := Host.Outcome.next.inj h
      obtain ⟨hp, hl, hs, him, hb, hr, hm, hsl, -, hwi⟩ := State.standing_fields s.requestEvent_standing
      exact ⟨hp, fun _ => ⟨fun _ => hs, fun _ => ⟨him, hb⟩, fun _ _ => hl, fun _ _ _ => hm, fun _ => hr, fun _ _ => hsl,
        fun hc => absurd rfl hc, fun _ => hwi⟩⟩
    case demand n d => exact absurd (exec_demand_tableAlone h) alone
    case peerLapse n => exact absurd (Host.Outcome.next.inj h ▸ .event (.withPeers s _) _) alone
    case peerRemoval n => exact absurd (Host.Outcome.next.inj h ▸ .event (.withPeers s _) _) alone
    case lostPeriodEnd => exact absurd (Host.Outcome.next.inj h ▸ .event (.rejoin s) _) alone
    case regulationInterval b r =>
      obtain rfl := Host.Outcome.next.inj h
      have kept := s.interval_installed b r
      simp only [State.installed, Prod.mk.injEq] at kept
      obtain ⟨hp, hl, hs, him, hb, hr, hg, hpos, hh⟩ := kept
      exact ⟨hp, fun _ => ⟨fun _ => hs, fun _ => ⟨him, hb⟩, fun _ _ => hl, fun _ _ _ => ⟨hpos, hh⟩, fun _ => ⟨hr, hg⟩,
        fun _ hc => absurd rfl (hc b r), fun _ hc => absurd rfl (hc b r), fun hc => absurd rfl (hc b r)⟩⟩
    all_goals exact nomatch hw


end Sys2Proof.Machine

/-! PROOFS. The peer table keeps its form (O56). -/

namespace Sys2Proof.Machine

variable {s t u : State}

theorem risingStations_iff (l : List Peer) : risingStations l = true ↔ l.Pairwise fun p q => p.station < q.station := by
  have chain : risingStations l = true ↔ l.IsChain fun p q => p.station < q.station := by
    induction l with
    | nil => simp [risingStations]
    | cons p l ih =>
      cases l with
      | nil => simp [risingStations]
      | cons q rest => rw [List.isChain_cons_cons, ← ih, risingStations, Bool.and_eq_true, decide_eq_true_eq]
  have : IsTrans Peer fun p q => p.station < q.station := ⟨fun _ _ _ => Nat.lt_trans⟩
  rw [chain, List.isChain_iff_pairwise]

/-- A table in the form of R97: stations of the bus but the own one, rising. -/
def PeersFormed (own : Nat) (l : List Peer) : Prop :=
  (l.Pairwise fun p q => p.station < q.station) ∧ ∀ p ∈ l, p.station < 16 ∧ p.station ≠ own

theorem State.peersSound_iff (s : State) :
    s.peersSound = true ↔ PeersFormed s.station.val s.share.peers ∧ (s.loader.finished = true ∨ s.share.peers = []) := by
  simp only [State.peersSound, State.peersFormed, PeersFormed, Bool.and_eq_true, Bool.or_eq_true, risingStations_iff,
    List.all_eq_true, decide_eq_true_eq, List.isEmpty_iff]

theorem PeersFormed.length_le {own : Nat} {l : List Peer} (h : PeersFormed own l) (ho : own < 16) : l.length ≤ 15 := by
  obtain ⟨rising, stations⟩ := h
  have nodup : (l.map Peer.station).Nodup := List.pairwise_map.2 (rising.imp Nat.ne_of_lt)
  have among : (l.map Peer.station).toFinset ⊆ (Finset.range 16).erase own := by
    intro n hn
    obtain ⟨p, hp, rfl⟩ := List.mem_map.1 (List.mem_toFinset.1 hn)
    exact Finset.mem_erase.2 ⟨(stations p hp).2, Finset.mem_range.2 (stations p hp).1⟩
  have := Finset.card_le_card among
  rw [List.toFinset_card_of_nodup nodup, List.length_map, Finset.card_erase_of_mem (Finset.mem_range.2 ho),
    Finset.card_range] at this
  exact this

/-- A change of the entries that leaves their stations. -/
theorem PeersFormed.map {own : Nat} {l : List Peer} (h : PeersFormed own l) {f : Peer → Peer}
    (hf : ∀ p, (f p).station = p.station) : PeersFormed own (l.map f) := by
  refine ⟨List.pairwise_map.2 (h.1.imp fun {p q} hpq => by rwa [hf, hf]), fun p hp => ?_⟩
  obtain ⟨q, hq, rfl⟩ := List.mem_map.1 hp
  rw [hf]
  exact h.2 q hq

theorem PeersFormed.filter {own : Nat} {l : List Peer} (h : PeersFormed own l) (f : Peer → Bool) :
    PeersFormed own (l.filter f) :=
  ⟨h.1.filter f, fun p hp => h.2 p (List.mem_of_mem_filter hp)⟩

theorem mem_insertPeer {p x : Peer} {l : List Peer} (h : x ∈ insertPeer p l) : x = p ∨ x ∈ l := by
  induction l with
  | nil => exact .inl (List.mem_singleton.1 h)
  | cons q rest ih =>
    unfold insertPeer at h
    split at h
    · exact List.mem_cons.1 h
    · split at h
      · exact (List.mem_cons.1 h).imp_right (List.mem_cons_of_mem q)
      · obtain rfl | hx := List.mem_cons.1 h
        · exact .inr List.mem_cons_self
        · exact (ih hx).imp_right (List.mem_cons_of_mem q)

theorem PeersFormed.insertPeer {own : Nat} {l : List Peer} (h : PeersFormed own l) {p : Peer}
    (hp : p.station < 16 ∧ p.station ≠ own) : PeersFormed own (insertPeer p l) := by
  refine ⟨?_, fun x hx => ?_⟩
  · have rising := h.1
    clear h
    induction l with
    | nil => exact List.pairwise_singleton _ _
    | cons q rest ih =>
      obtain ⟨above, hrest⟩ := List.pairwise_cons.1 rising
      unfold Machine.insertPeer
      split
      · next hlt =>
        refine List.pairwise_cons.2 ⟨fun x hx => ?_, rising⟩
        obtain rfl | hx := List.mem_cons.1 hx
        · exact hlt
        · exact Nat.lt_trans hlt (above x hx)
      · split
        · next heq => exact List.pairwise_cons.2 ⟨fun x hx => heq ▸ above x hx, hrest⟩
        · refine List.pairwise_cons.2 ⟨fun x hx => ?_, ih hrest⟩
          obtain rfl | hx := mem_insertPeer hx
          · omega
          · exact above x hx
  · obtain rfl | hx := mem_insertPeer hx
    · exact hp
    · exact h.2 x hx

/-! ### The commands -/

/-- What `State.peersSound` reads. -/
def State.table (s : State) := (s.share.peers, s.station, s.loader)

theorem State.peersSound_of_table (h : t.table = s.table) (hs : s.peersSound = true) : t.peersSound = true := by
  simp only [State.table, Prod.mk.injEq] at h
  obtain ⟨hp, hst, hl⟩ := h
  rw [State.peersSound_iff] at hs ⊢
  rwa [hp, hst, hl]

theorem State.table_of_standing (h : t.standing = s.standing) : t.table = s.table := by
  simp only [State.standing, State.installed, Prod.mk.injEq] at h
  obtain ⟨⟨-, hl, hst, -⟩, -, hp⟩ := h
  simp only [State.table, hl, hst, hp]

theorem State.peersSound_of_standing (h : t.standing = s.standing) (hs : s.peersSound = true) : t.peersSound = true :=
  State.peersSound_of_table (State.table_of_standing h) hs

theorem State.withPeers_peersSound (s : State) {l : List Peer} (hl : PeersFormed s.station.val l)
    (he : s.loader.finished = true ∨ l = []) : (s.withPeers l).peersSound = true :=
  State.peersSound_of_standing (s.withPeers_standing l) ((State.peersSound_iff _).2 ⟨hl, he⟩)

theorem State.event_peersSound {act : State → State} {due : Bool} (hs : s.peersSound = true)
    (h : (act s).peersSound = true) : (s.event due act).peersSound = true := by
  unfold State.event
  split
  · exact State.peersSound_of_standing (State.standing_of_besidesWeld (State.declare_besidesWeld _)) h
  · exact hs

theorem State.lapse_peersSound (n : Nat) (hs : s.peersSound = true) : (s.lapse n).peersSound = true := by
  obtain ⟨formed, empty⟩ := (State.peersSound_iff s).1 hs
  refine s.withPeers_peersSound (formed.map fun p => ?_) (empty.imp_right fun h => ?_)
  · split <;> rfl
  · rw [h, List.map_nil]

theorem State.removePeer_peersSound (n : Nat) (hs : s.peersSound = true) : (s.removePeer n).peersSound = true := by
  obtain ⟨formed, empty⟩ := (State.peersSound_iff s).1 hs
  exact s.withPeers_peersSound (formed.filter _) (empty.imp_right fun h => by rw [h, List.filter_nil])

theorem State.rejoin_peersSound (s : State) : s.rejoin.peersSound = true :=
  State.withPeers_peersSound _ ⟨List.Pairwise.nil, fun _ h => nomatch h⟩ (.inr rfl)

/-- A DEMAND enters a station other than the own one, received after the Loader has finished. -/
theorem exec_demand_peersSound {n : Station} {d : List Byte} (h : exec (.demand n d) s = .next t)
    (hs : s.peersSound = true) : t.peersSound = true := by
  obtain rfl := Host.Outcome.next.inj h
  unfold State.onRx
  split
  · exact hs
  · next hr =>
    split
    · exact State.peersSound_of_standing s.duplicate_standing hs
    · next hn =>
      dsimp only
      unfold State.ifSharing
      split
      · exact hs
      · dsimp only
        unfold State.takeDemand
        split
        · refine State.peersSound_of_standing (State.standing_of_besidesWeld (State.declare_besidesWeld _)) ?_
          simp only [State.receives, Bool.not_eq_true', Bool.not_eq_false, Bool.and_eq_true] at hr
          refine s.withPeers_peersSound (((State.peersSound_iff s).1 hs).1.insertPeer ⟨n.isLt, fun e => hn (Fin.ext e)⟩)
            (.inl hr.1)
        · exact hs

theorem exec_due_peersSound {i : Instr} (hi : takenWhenDue i = true) (h : exec i s = .next t) (hs : s.peersSound = true) :
    t.peersSound = true := by
  obtain hw | rfl | rfl | ⟨n, rfl⟩ | ⟨n, rfl⟩ | rfl := takenWhenDue_writesStanding hi
  · exact State.peersSound_of_standing (exec_standing hw h) hs
  · obtain rfl := Host.Outcome.next.inj h
    exact State.peersSound_of_standing s.programmeEvent_standing hs
  · obtain rfl := Host.Outcome.next.inj h
    exact State.peersSound_of_standing s.requestEvent_standing hs
  · exact Host.Outcome.next.inj h ▸ State.event_peersSound hs (State.lapse_peersSound _ hs)
  · exact Host.Outcome.next.inj h ▸ State.event_peersSound hs (State.removePeer_peersSound _ hs)
  · exact Host.Outcome.next.inj h ▸ State.event_peersSound hs s.rejoin_peersSound

theorem State.interval_peersSound (b : Bool) (r : Readings) (hs : s.peersSound = true) :
    (s.interval b r).peersSound = true := by
  unfold State.interval
  split
  · exact hs
  · have due : s.takeDue.peersSound = true :=
      State.takeDue_keeps (P := fun v => v.peersSound = true) (fun _ _ _ hi hv hu => exec_due_peersSound hi hv hu) hs
    have ticked : s.takeDue.forwardOutputs.tick.peersSound = true := by
      generalize s.takeDue = v at due ⊢
      obtain ⟨formed, empty⟩ := (State.peersSound_iff v).1 due
      refine (State.peersSound_iff _).2 ⟨formed.map fun p => rfl, empty.imp_right fun h => ?_⟩
      show v.share.peers.map _ = []
      rw [h, List.map_nil]
    generalize s.takeDue.forwardOutputs.tick = v at ticked ⊢
    have evaluated := ((State.MeasuresBesides.measure v r).trans (State.MeasuresBesides.evaluate (v.measure r) b)).standing
    have declared := State.standing_of_besidesWeld (State.declare_besidesWeld ((v.measure r).evaluate b))
    exact State.peersSound_of_standing (declared.trans evaluated) ticked

/-- Before the Loader has finished the table is empty. -/
theorem State.peers_of_unfinished (hs : s.peersSound = true) (hl : s.loader.finished = false) : s.share.peers = [] :=
  ((State.peersSound_iff s).1 hs).2.resolve_left (Bool.eq_false_iff.1 hl)

theorem State.peersSound_of_empty (h : s.share.peers = []) : s.peersSound = true :=
  (State.peersSound_iff s).2 ⟨h ▸ ⟨List.Pairwise.nil, fun _ hp => nomatch hp⟩, .inr h⟩

/-- Every command keeps the form of the table. -/
theorem exec_peersSound {i : Instr} (h : exec i s = .next t) (hs : s.peersSound = true) : t.peersSound = true := by
  cases hw : writesStanding i with
  | false => exact State.peersSound_of_standing (exec_standing hw h) hs
  | true =>
    cases i
    case reset => exact Host.Outcome.next.inj h ▸ rfl
    case configurationRead b =>
      obtain rfl := Host.Outcome.next.inj h
      split
      · next hr =>
        have empty : s.share.peers = [] := State.peers_of_unfinished hs (by rw [hr]; rfl)
        exact State.peersSound_of_standing (s.loadImage_standing _) (State.peersSound_of_empty empty)
      · exact hs
    case resetRelease g =>
      obtain rfl := Host.Outcome.next.inj h
      unfold State.latchStraps
      split
      · next hr =>
        have empty : s.share.peers = [] := State.peers_of_unfinished hs (by rw [hr]; rfl)
        exact State.peersSound_of_empty empty
      · exact hs
    case encoderEdge b =>
      exact State.peersSound_of_standing (exec_encoder_standing (b := b) (e := .lineFault) (.inl rfl) h) hs
    case referenceMark =>
      exact State.peersSound_of_standing (exec_encoder_standing (b := true) (e := .lineFault) (.inr (.inl rfl)) h) hs
    case quadratureError e =>
      exact State.peersSound_of_standing (exec_encoder_standing (b := true) (.inr (.inr rfl)) h) hs
    case rating n d => exact State.peersSound_of_standing (exec_rating_standing h) hs
    case programme => exact exec_due_peersSound rfl h hs
    case weldRequest => exact exec_due_peersSound rfl h hs
    case regulationInterval b r => exact Host.Outcome.next.inj h ▸ State.interval_peersSound b r hs
    case demand n d => exact exec_demand_peersSound h hs
    case peerLapse n => exact exec_due_peersSound rfl h hs
    case peerRemoval n => exact exec_due_peersSound rfl h hs
    case lostPeriodEnd => exact exec_due_peersSound rfl h hs
    all_goals exact nomatch hw

/-- Settles O56: every command keeps the form of the table, and a table so formed holds at most the 15 other stations. -/
theorem peerTableStaysFormed : Obligations.PeerTableStaysFormed := by
  intro s t hst hs
  have kept : t.peersSound = true := by
    unfold step at hst
    split at hst
    · exact Host.Outcome.next.inj hst ▸ hs
    · exact exec_peersSound hst (State.peersSound_of_standing rfl hs)
  exact ⟨kept, ((State.peersSound_iff t).1 kept).1.length_le t.station.isLt⟩

end Sys2Proof.Machine

/-! PROOFS. The main contactor (R60), the current phases and the link (R11), and what ties the parts of a state together:
one invariant for O57 and O58. `State.core` is the part of a state that it speaks of; the operations of a weld are followed
on it. `cont` asks for the contactor to stand where it may, `lone` for the state to stand without a JOINED link, and `early`
for the Loader not to have finished. -/

namespace Sys2Proof.Machine

/-! ### The core of a state -/

/-- What the invariant reads of a weld context: an abort retract, an upset current time, PULSE OFF. -/
structure Marks where
  aborting : Bool
  done : Bool
  off : Bool

def WeldCtx.marks (c : WeldCtx) : Marks := ⟨c.abortTarget.isSome, c.curTime.isSome, decide (c.sub = some .pulseOff)⟩

/-- What the invariant reads of a state. -/
structure Core where
  engine : Engine
  weld : Option Marks
  ask : Option RiseSource
  contactor : Bool
  yielded : Bool

def State.core (s : State) : Core :=
  ⟨s.engine, s.ctx.map WeldCtx.marks, s.share.rise.ask.map Ask.source, s.out.contactor, s.yielded⟩

def Core.aborting (k : Core) : Bool := k.weld.elim false Marks.aborting
def Core.done (k : Core) : Bool := k.weld.elim false Marks.done
def Core.off (k : Core) : Bool := k.weld.elim false Marks.off

theorem State.core_aborting (s : State) : s.core.aborting = s.aborting := by
  cases h : s.ctx <;> simp [Core.aborting, State.core, State.aborting, WeldCtx.marks, WeldCtx.aborting, h]

theorem State.core_done (s : State) : s.core.done = s.currentDone := by
  cases h : s.ctx <;> simp [Core.done, State.core, State.currentDone, WeldCtx.marks, h]

theorem State.core_off (s : State) : s.core.off = decide ((s.ctx.bind fun c => c.sub) = some .pulseOff) := by
  cases h : s.ctx <;> simp [Core.off, State.core, WeldCtx.marks, h]

theorem State.core_ask (s : State) : s.core.ask = some .resume ↔ s.resuming = true := by
  cases h : s.share.rise.ask <;> simp [State.core, State.resuming, h]

theorem State.core_weld (s : State) : s.core.weld.isSome = s.ctx.isSome := Option.isSome_map

/-! ### The invariant, engine state by engine state -/

/-- No abort retract, no RESUME rise, and the contactor open. -/
def Core.Still (cont : Bool) (k : Core) : Prop :=
  k.aborting = false ∧ k.ask ≠ some .resume ∧ (cont = true → k.contactor = false)

/-- A weld is in flight, and the Loader has finished. -/
def Core.InFlight (early : Bool) (k : Core) : Prop := k.weld.isSome = true ∧ early = false

def Core.Safe (cont lone early : Bool) (k : Core) : Prop :=
  match k.engine with
  | .starting => k.Still cont ∧ k.done = false ∧ (early = true → k.weld = none)
  | .configFault | .ready => k.Still cont ∧ k.done = false ∧ early = false
  | .clamping | .pulling | .admitting => k.Still cont ∧ k.InFlight early ∧ k.done = false ∧ lone = false
  | .preheat =>
    k.InFlight early ∧ k.done = false ∧ (lone = true → k.aborting = true) ∧ (k.aborting = true → k.ask = none)
      ∧ (cont = true → k.contactor = true → k.yielded = false ∧ k.aborting = false ∧ k.off = false)
  | .flash =>
    k.InFlight early ∧ k.done = false ∧ (lone = true → k.aborting = true) ∧ (k.aborting = true → k.ask = none)
      ∧ (cont = true → k.contactor = true → k.aborting = false)
  | .boost => k.InFlight early ∧ k.done = false ∧ lone = false ∧ k.aborting = false ∧ k.ask ≠ some .resume
  | .upset =>
    k.InFlight early ∧ k.aborting = false ∧ k.ask ≠ some .resume ∧ (cont = true → k.contactor = true → k.done = false)
  | .hold | .trim | .releasing | .faultHold => k.Still cont ∧ k.InFlight early

/-- The link has left JOINED, and is asked for. -/
def State.lone (s : State) (link : Bool) : Bool := link && decide (s.link.state ≠ .joined)

/-- The Loader has not finished. -/
def State.early (s : State) : Bool := !s.loader.finished

/-- The invariant of a state: `cont` asks for the contactor, `link` for the link. -/
def State.Held (cont link : Bool) (s : State) : Prop :=
  s.core.Safe cont (s.lone link) s.early ∧ (s.early = true → s.link.state = .listening ∧ s.link.listen.running = false)

variable {cont link lone early : Bool} {s t u : State} {k k' : Core}

theorem State.held_iff (cont link : Bool) (s : State) :
    s.Held cont link ↔ s.weldSound = true ∧ (cont = true → s.out.contactor = true → s.mayClose = true)
      ∧ (link = true → s.link.state = .joined ∨ s.standsUnlinked = true) := by
  have hab := s.core_aborting
  have hdone := s.core_done
  have hoff := s.core_off
  have hask := s.core_ask
  have hweld := s.core_weld
  have hnone : s.core.ask = none ↔ s.share.rise.ask = none := by simp [State.core]
  have hctx : s.core.weld = none ↔ s.ctx = none := by simp [State.core]
  have hcon : s.core.contactor = s.out.contactor := rfl
  have hy : s.core.yielded = s.yielded := rfl
  have he : s.core.engine = s.engine := rfl
  have hask' : s.core.ask ≠ some .resume ↔ s.resuming = false := by rw [ne_eq, hask, Bool.not_eq_true]
  unfold State.Held Core.Safe State.weldSound State.mayClose State.standsUnlinked State.lone State.early
  rw [he]
  cases hs : s.engine <;> simp only [Core.Still, Core.InFlight, hab, hdone, hoff, hask', hweld, hnone, hctx, hcon, hy,
    Engine.afterUpset, Engine.isWeld, reduceCtorEq, decide_true, decide_false, Bool.or_false, Bool.or_true,
    Bool.not_true, Bool.not_false, Bool.and_true, Bool.true_and, Bool.false_and, Bool.and_eq_true, Bool.or_eq_true, Bool.not_eq_true',
    decide_eq_true_eq, decide_eq_false_iff_not, Option.isNone_iff_eq_none, false_or, true_or, and_true]
  all_goals grind

/-! ### The invariant by engine state, as an equation each -/

/-- The engine states before any current of the weld. -/
def Engine.before : Engine → Bool
  | .clamping | .pulling | .admitting => true
  | .starting | .configFault | .ready | .preheat | .flash | .boost | .upset | .hold | .trim | .releasing | .faultHold => false

/-- The engine states after the upset. -/
def Engine.calm : Engine → Bool
  | .hold | .trim | .releasing | .faultHold => true
  | .starting | .configFault | .ready | .clamping | .pulling | .admitting | .preheat | .flash | .boost | .upset => false

namespace Core

theorem safe_idle (h : k.engine = .ready ∨ k.engine = .configFault) :
    k.Safe cont lone early ↔ k.Still cont ∧ k.done = false ∧ early = false := by
  unfold Safe
  obtain h | h := h <;> rw [h]

theorem safe_before (h : k.engine.before = true) :
    k.Safe cont lone early ↔ k.Still cont ∧ k.InFlight early ∧ k.done = false ∧ lone = false := by
  unfold Safe
  revert h
  cases k.engine <;> simp [Engine.before]

theorem safe_preheat (h : k.engine = .preheat) :
    k.Safe cont lone early ↔ k.InFlight early ∧ k.done = false ∧ (lone = true → k.aborting = true)
      ∧ (k.aborting = true → k.ask = none)
      ∧ (cont = true → k.contactor = true → k.yielded = false ∧ k.aborting = false ∧ k.off = false) := by
  unfold Safe
  rw [h]

theorem safe_flash (h : k.engine = .flash) :
    k.Safe cont lone early ↔ k.InFlight early ∧ k.done = false ∧ (lone = true → k.aborting = true)
      ∧ (k.aborting = true → k.ask = none) ∧ (cont = true → k.contactor = true → k.aborting = false) := by
  unfold Safe
  rw [h]

theorem safe_boost (h : k.engine = .boost) :
    k.Safe cont lone early ↔
      k.InFlight early ∧ k.done = false ∧ lone = false ∧ k.aborting = false ∧ k.ask ≠ some .resume := by
  unfold Safe
  rw [h]

theorem safe_upset (h : k.engine = .upset) :
    k.Safe cont lone early ↔ k.InFlight early ∧ k.aborting = false ∧ k.ask ≠ some .resume
      ∧ (cont = true → k.contactor = true → k.done = false) := by
  unfold Safe
  rw [h]

theorem safe_calm (h : k.engine.calm = true) :
    k.Safe cont lone early ↔ k.Still cont ∧ k.InFlight early := by
  unfold Safe
  revert h
  cases k.engine <;> simp [Engine.calm]

end Core

end Sys2Proof.Machine

/-! PROOFS. The operations of a weld on the core of a state, and the entries that keep the invariant. -/

namespace Sys2Proof.Machine

variable {cont link lone early : Bool} {s t u : State} {k : Core}

/-! ### What leaves the core -/

theorem WeldCtx.marks_addReason (c : WeldCtx) (r : Reason) : (c.addReason r).marks = c.marks := by
  unfold WeldCtx.addReason
  split <;> rfl

theorem WeldCtx.marks_storeEnding (c : WeldCtx) (x : EndCause) (tag : Option Nat) :
    (c.storeEnding x tag).marks = c.marks := by
  unfold WeldCtx.storeEnding
  split <;> rfl

theorem WeldCtx.marks_judge (c : WeldCtx) : c.judge.marks = c.marks := by
  unfold WeldCtx.judge
  generalize c.missed = l
  induction l generalizing c with
  | nil => rfl
  | cons r l ih => exact (ih _).trans (c.marks_addReason r)

theorem State.core_onCtx {f : WeldCtx → WeldCtx} (hf : ∀ c : WeldCtx, (f c).marks = c.marks) :
    (s.onCtx f).core = s.core := by
  have : WeldCtx.marks ∘ f = WeldCtx.marks := funext hf
  simp only [State.core, State.onCtx, Option.map_map, this]

/-- A change of the context that changes what the core reads of it. -/
theorem State.core_remark {f : WeldCtx → WeldCtx} {g : Marks → Marks} (hf : ∀ c : WeldCtx, (f c).marks = g c.marks) :
    (s.onCtx f).core = { s.core with weld := s.core.weld.map g } := by
  have : WeldCtx.marks ∘ f = g ∘ WeldCtx.marks := funext hf
  simp only [State.core, State.onCtx, Option.map_map, this]

theorem State.core_setCtx {c c' : WeldCtx} (hs : s.ctx = some c) (hc : c'.marks = c.marks) :
    ({ s with ctx := some c' } : State).core = s.core := by
  simp only [State.core, hs, Option.map_some, hc]

theorem State.core_notice (s : State) (n : Notice) : (s.notice n).core = s.core := by
  unfold State.notice
  split <;> rfl

theorem State.core_noticeFault (s : State) (x : Reason) (tag : Option Nat) : (s.noticeFault x tag).core = s.core := by
  unfold State.noticeFault
  split
  · rfl
  · exact s.core_notice _

theorem State.core_latch (s : State) (x : LatchKind) (p : Int) : (s.latch x p).core = s.core := by
  unfold State.latch
  split
  · rfl
  · next c hc =>
    split
    · exact (State.core_setCtx (c' := { c with latches := c.latches ++ [⟨x, p, c.weldTime⟩] }) hc rfl)
    · exact State.core_setCtx hc rfl

theorem State.core_placeDemand (s : State) : s.placeDemand.core = s.core := by
  simp [State.core]

theorem State.core_declare (s : State) : s.declare.core = s.core := by
  simp [State.core]

theorem State.core_settle (s : State) (v : Verdict) : (s.settle v).core = s.core := by
  unfold State.settle
  split
  · rfl
  · next c hc => exact (State.core_notice _ _).trans (State.core_setCtx (c' := { c with outcome := some v }) hc rfl)

theorem State.core_settleAtStop (s : State) (x : StopCause) : (s.settleAtStop x).core = s.core := by
  unfold State.settleAtStop
  split
  · rfl
  · next c hc =>
    split
    · rfl
    · split
      · exact (State.core_settle _ _).trans (State.core_setCtx hc (c.marks_addReason _))
      · exact s.core_settle _

theorem State.core_settleAtRelease (s : State) : s.settleAtRelease.core = s.core := by
  unfold State.settleAtRelease
  split
  · rfl
  · next c hc =>
    split
    · rfl
    · split
      · exact s.core_settle _
      · exact (State.core_settle _ _).trans (State.core_setCtx hc c.marks_judge)

theorem State.core_closeEpisode (s : State) : s.closeEpisode.core = s.core := by
  unfold State.closeEpisode
  split
  · exact State.core_onCtx fun _ => rfl
  · rfl

theorem State.core_stopPower (s : State) : s.stopPower.core = s.core := State.core_onCtx fun _ => rfl

theorem State.core_restoreStep (s : State) : s.restoreStep.core = s.core := by
  unfold State.restoreStep
  split <;> rfl

/-! ### What writes one part of it -/

theorem State.core_clearYield (s : State) : s.clearYield.core = { s.core with yielded := false } := by
  have kept : (s.onCtx fun c => { c with pause := none, guard := if s.yielded then none else c.guard }).core = s.core :=
    State.core_onCtx fun _ => rfl
  exact congrArg (fun x : Core => { x with yielded := false }) kept

theorem State.core_raise (s : State) (x : RiseSource) (n c : Nat) :
    (s.raise x n c).core = { s.core with ask := some x } := State.core_placeDemand _

/-- The record entered clears the flag where it is neither PREHEAT nor FLASH. -/
def Core.entered (k : Core) (e : Engine) : Core :=
  { k with engine := e, yielded := if e = .preheat ∨ e = .flash then k.yielded else false }

theorem State.core_enterRecord (s : State) (e : Engine) (i : Nat) : (s.enterRecord e i).core = s.core.entered e := by
  unfold State.enterRecord
  extract_lets s1 _ s2
  have cleared : s1.core = { s.core with yielded := (s.core.entered e).yielded } := by
    dsimp only [s1, Core.entered]
    split
    · rfl
    · exact s.core_clearYield
  have marked : (s1.onCtx fun c => { c with phase := some i, phaseTimer := 0, exitMet := false, moveDue := false }).core
      = s1.core := State.core_onCtx fun _ => rfl
  have entered : s2.core = s.core.entered e :=
    (congrArg (fun x : Core => { x with engine := e }) (marked.trans cleared)).trans rfl
  split
  · exact entered
  · split
    · exact entered
    · split
      · exact (State.core_notice _ _).trans entered
      · exact entered

/-- The regulator's marks discarded. -/
def Core.left (k : Core) : Core := { k with weld := k.weld.map fun m => { m with aborting := false, off := false } }

theorem State.core_leaveRegulator (s : State) : s.leaveRegulator.core = s.core.left := by
  have marked : s.leaveRegulator.core = s.closeEpisode.core.left :=
    State.core_remark (s := s.closeEpisode) (f := fun c =>
      { c.restartRuns with
        sub := none, drawTarget := none, retract := none, guard := none
        abortTarget := none, abortStill := 0 }) fun _ => rfl
  rw [marked, State.core_closeEpisode]

/-- The weld over. -/
theorem State.core_completeRelease (s : State) :
    s.completeRelease.core = { s.core with engine := .ready, weld := none } :=
  congrArg (fun x : Core => { x with engine := .ready, weld := none }) (State.core_settleAtRelease (s.setClamps false false))

namespace Core

@[simp] theorem aborting_left (k : Core) : k.left.aborting = false := by
  cases h : k.weld <;> simp [aborting, left, h]

@[simp] theorem done_left (k : Core) : k.left.done = k.done := by
  cases h : k.weld <;> simp [done, left, h]

@[simp] theorem weld_left (k : Core) : k.left.weld.isSome = k.weld.isSome := Option.isSome_map

/-! ### Steps that keep the invariant whatever the engine state -/

/-- The contactor opened. -/
theorem Safe.opened (h : k.Safe cont lone early) : ({ k with contactor := false } : Core).Safe cont lone early := by
  unfold Safe at *
  cases hk : k.engine <;> rw [hk] at h <;> simp_all [Still, InFlight, aborting, done, off]

/-- The flag cleared. -/
theorem Safe.unyielded (h : k.Safe cont lone early) : ({ k with yielded := false } : Core).Safe cont lone early := by
  unfold Safe at *
  cases hk : k.engine <;> rw [hk] at h <;> simp_all [Still, InFlight, aborting, done, off]

/-- The rise ended. -/
theorem Safe.unasked (h : k.Safe cont lone early) : ({ k with ask := none } : Core).Safe cont lone early := by
  unfold Safe at *
  cases hk : k.engine <;> rw [hk] at h <;> simp_all [Still, InFlight, aborting, done, off]

end Core

end Sys2Proof.Machine

/-! PROOFS. The entries of the engine states keep the invariant. -/

namespace Sys2Proof.Machine

variable {cont link lone lone' early : Bool} {s t u : State} {k : Core}

/-- What lets a weld enter any state after its current: the contactor is open, and no RESUME rise pends. -/
def Core.Spent (cont early : Bool) (k : Core) : Prop :=
  k.InFlight early ∧ k.ask ≠ some .resume ∧ (cont = true → k.contactor = false)

namespace Core

theorem Safe.spent_of_calm (h : k.Safe cont lone early) (he : k.engine.calm = true) : k.Spent cont early := by
  obtain ⟨⟨-, ask, open'⟩, flight⟩ := (safe_calm he).1 h
  exact ⟨flight, ask, open'⟩

theorem Safe.spent_of_before (h : k.Safe cont lone early) (he : k.engine.before = true) : k.Spent cont early := by
  obtain ⟨⟨-, ask, open'⟩, flight, -⟩ := (safe_before he).1 h
  exact ⟨flight, ask, open'⟩

/-- A weld in an abort retract has its contactor open, and no rise. -/
theorem Safe.spent_of_aborting (h : k.Safe cont lone early) (ha : k.aborting = true) : k.Spent cont early := by
  unfold Safe at h
  unfold Spent
  split at h <;> simp_all [Still]

/-- The entry of a state after the upset. -/
theorem Spent.safe (h : k.Spent cont early) (ha : k.aborting = false) (he : k.engine.calm = true) :
    k.Safe cont lone early :=
  (safe_calm he).2 ⟨⟨ha, h.2⟩, h.1⟩

end Core

/-! ### RELEASE -/

theorem State.completeRelease_safe (h : s.core.Safe cont lone early) (he : s.engine = .releasing) :
    s.completeRelease.core.Safe cont lone early := by
  obtain ⟨⟨-, ask, open'⟩, -, notEarly⟩ := (Core.safe_calm (congrArg Engine.calm he)).1 h
  rw [State.core_completeRelease]
  exact (Core.safe_idle (.inl rfl)).2 ⟨⟨rfl, ask, open'⟩, rfl, notEarly⟩

theorem State.enterOpening_safe (h : s.core.Safe cont lone early) (he : s.engine = .releasing) :
    s.enterOpening.core.Safe cont lone early := by
  unfold State.enterOpening
  extract_lets _ _ s1
  split
  · exact State.completeRelease_safe (s := s1) h he
  · exact h

theorem State.enterWaiting_safe (h : s.core.Safe cont lone early) (he : s.engine = .releasing) :
    s.enterWaiting.core.Safe cont lone early := by
  unfold State.enterWaiting
  extract_lets _ _ s1 s2
  have told : s2.core = s.core := s1.core_noticeFault _ _
  have waiting : s2.core.Safe cont lone early := told ▸ h
  split
  · exact State.completeRelease_safe waiting ((congrArg Core.engine told).trans he)
  · exact waiting

theorem State.enterReleasing_safe (h : s.core.Spent cont early) : s.enterReleasing.core.Safe cont lone early := by
  unfold State.enterReleasing
  extract_lets f0 i s1 _ _ _ s2 s3
  have left : s1.core = s.core.left.entered .releasing := by
    rw [State.core_stopPower, State.core_enterRecord, State.core_leaveRegulator]
  have ramping : s3.core = s.core.left.entered .releasing :=
    (State.core_onCtx (s := s1) (f := fun c => { c with releasingEntered := true }) fun _ => rfl).trans left
  obtain ⟨⟨flight, notEarly⟩, ask, open'⟩ := h
  have safe : s3.core.Safe cont lone early := by
    rw [ramping]
    exact Core.Spent.safe (k := s.core.left.entered .releasing)
      ⟨⟨(Core.weld_left s.core).trans flight, notEarly⟩, ask, open'⟩ (Core.aborting_left s.core) rfl
  split
  · exact State.enterOpening_safe safe (congrArg Core.engine ramping)
  · exact safe

/-! ### TRIM, HOLD -/

theorem State.endTrim_safe (h : s.core.Safe cont lone early) (he : s.engine = .trim) :
    s.endTrim.core.Safe cont lone early := by
  refine State.enterReleasing_safe ?_
  exact h.spent_of_calm (congrArg Engine.calm he)

theorem State.enterReturning_safe (h : s.core.Safe cont lone early) (he : s.engine = .trim) :
    s.enterReturning.core.Safe cont lone early := by
  unfold State.enterReturning
  extract_lets _ _ s1
  split
  · exact State.endTrim_safe (s := s1) h he
  · exact h

theorem State.enterTrim_safe (h : s.core.Safe cont lone early) (he : s.engine = .hold) (i : Nat) :
    (s.enterTrim i).core.Safe cont lone early := by
  have entered := s.core_enterRecord .trim i
  have trim : (s.enterRecord .trim i).core.Safe cont lone early := by
    obtain ⟨⟨abort, ask, open'⟩, flight⟩ := (Core.safe_calm (congrArg Engine.calm he)).1 h
    rw [entered]
    exact (Core.safe_calm rfl).2 ⟨⟨abort, ask, open'⟩, flight⟩
  unfold State.enterTrim
  extract_lets s1
  split
  · exact trim
  · have added : (s1.onCtx fun c => c.addReason .trimFail).core = s1.core := State.core_onCtx fun c => c.marks_addReason _
    exact State.enterReturning_safe (added ▸ trim) (congrArg Core.engine (added.trans entered))

theorem State.endHold_safe (h : s.core.Safe cont lone early) (he : s.engine = .hold) :
    s.endHold.core.Safe cont lone early := by
  have latched := s.core_latch .holdEnd s.meas.intervalPos
  unfold State.endHold
  extract_lets s1
  have safe : s1.core.Safe cont lone early := latched ▸ h
  have hold : s1.engine = .hold := (congrArg Core.engine latched).trans he
  split
  · exact safe
  · split
    · exact State.enterTrim_safe safe hold _
    · exact State.enterReleasing_safe (safe.spent_of_calm (congrArg Engine.calm hold))

/-! ### UPSET, BOOST -/

theorem State.core_takeCurrentOff (s : State) :
    s.takeCurrentOff.core =
      { s.core with contactor := false, weld := s.core.weld.map fun m => { m with done := true } } := by
  unfold State.takeCurrentOff
  extract_lets s1 _ _ s2
  rw [State.core_stopPower, State.core_latch]
  exact State.core_remark (s := s1) (f := fun c => { c with curTime := some s1.upset.currentTimer.ms }) fun _ => rfl

theorem State.takeCurrentOff_safe (h : s.core.Safe cont lone early) (he : s.engine = .upset) :
    s.takeCurrentOff.core.Safe cont lone early := by
  obtain ⟨⟨flight, notEarly⟩, abort, ask, -⟩ := (Core.safe_upset he).1 h
  rw [State.core_takeCurrentOff]
  refine (Core.safe_upset he).2 ⟨⟨Option.isSome_map.trans flight, notEarly⟩, ?_, ask, fun _ hc => nomatch hc⟩
  revert abort
  simp only [Core.aborting]
  cases s.core.weld <;> exact id

/-- What lets a weld enter the upset. -/
def Core.Flashed (early : Bool) (k : Core) : Prop := k.InFlight early ∧ k.ask ≠ some .resume ∧ k.done = false

theorem State.enterUpset_safe (h : s.core.Flashed early) (i : Nat) : (s.enterUpset i).core.Safe cont lone early := by
  unfold State.enterUpset
  extract_lets s1 _ _ s2
  have left : s1.core = s.core.left.entered .upset := by
    rw [State.core_latch, State.core_enterRecord, State.core_leaveRegulator]
  have stroke : s2.core = s.core.left.entered .upset :=
    (State.core_onCtx (s := s1) (f := fun c =>
      { c with upStart := some s1.meas.intervalPos, upsetBegun := true, peak := some s1.meas.fm }) fun _ => rfl).trans left
  obtain ⟨⟨flight, notEarly⟩, ask, done⟩ := h
  have safe : s2.core.Safe cont lone early := by
    rw [stroke]
    exact (Core.safe_upset rfl).2 ⟨⟨(Core.weld_left s.core).trans flight, notEarly⟩, Core.aborting_left s.core, ask,
      fun _ _ => (Core.done_left s.core).trans done⟩
  split
  · exact safe
  · extract_lets s3
    split
    · exact State.takeCurrentOff_safe (s := s3) safe (congrArg Core.engine stroke)
    · exact safe

theorem State.core_enterHold (s : State) (i : Nat) : (s.enterHold i).core = s.core.entered .hold :=
  s.core_enterRecord .hold i

theorem State.endUpset_safe (h : s.core.Safe cont lone early) (he : s.engine = .upset) :
    s.endUpset.core.Safe cont lone early := by
  unfold State.endUpset
  extract_lets s1 s2 s3
  have off : s1.core.Safe cont lone early ∧ s1.engine = .upset ∧ (cont = true → s1.core.contactor = false) := by
    dsimp only [s1]
    split
    · next hd =>
      refine ⟨h, he, fun hc => Bool.eq_false_iff.2 fun hon => ?_⟩
      have := ((Core.safe_upset he).1 h).2.2.2 hc hon
      rw [State.core_done] at this
      exact Bool.false_ne_true (this.symm.trans hd)
    · exact ⟨State.takeCurrentOff_safe h he, congrArg Core.engine (s.core_takeCurrentOff) |>.trans he,
        fun _ => congrArg Core.contactor s.core_takeCurrentOff⟩
  obtain ⟨safe, upset, open'⟩ := off
  have ended : s3.core = s1.core := (State.core_latch _ _ _).trans (State.core_onCtx fun _ => rfl)
  split
  · exact ended ▸ safe
  · rw [State.core_enterHold, ended]
    obtain ⟨flight, abort, ask, -⟩ := (Core.safe_upset upset).1 safe
    exact (Core.safe_calm rfl).2 ⟨⟨abort, ask, open'⟩, flight⟩

theorem State.enterBoost_safe (h : s.core.Flashed early) (hl : lone = false) (i : Nat) :
    (s.enterBoost i).core.Safe cont lone early := by
  unfold State.enterBoost
  extract_lets s1
  have entered : s1.core = s.core.left.entered .boost := by
    rw [State.core_enterRecord, State.core_leaveRegulator]
  obtain ⟨⟨flight, notEarly⟩, ask, done⟩ := h
  have safe : s1.core.Safe cont lone early := by
    rw [entered]
    exact (Core.safe_boost rfl).2 ⟨⟨(Core.weld_left s.core).trans flight, notEarly⟩, (Core.done_left s.core).trans done,
      hl, Core.aborting_left s.core, ask⟩
  have boost : s1.engine = .boost := congrArg Core.engine entered
  split
  · exact safe
  · extract_lets s2
    have closed : s2.core = { s1.core with contactor := true } :=
      State.core_onCtx (s := s1.closeContactor) (f := fun c => { c with boostEntry := some c.burnOff }) fun _ => rfl
    rw [State.core_latch]
    show s2.core.Safe cont lone early
    rw [closed]
    have kept := (Core.safe_boost boost).1 safe
    exact (Core.safe_boost boost).2 kept

theorem State.endBoost_safe (h : s.core.Safe cont lone early) (he : s.engine = .boost) :
    s.endBoost.core.Safe cont lone' early := by
  unfold State.endBoost
  extract_lets s1
  have timed : s1.core = s.core := State.core_onCtx fun _ => rfl
  obtain ⟨flight, done, -, abort, ask⟩ := (Core.safe_boost he).1 h
  split
  · next hn =>
    have := flight.1
    rw [← timed, State.core_weld, hn] at this
    exact nomatch this
  · exact State.enterUpset_safe (timed ▸ ⟨flight, ask, done⟩) _

/-! ### FLASH, PREHEAT -/

/-- What a record under current is entered with, and keeps: no abort retract, and the link JOINED. -/
def Core.Live (lone early : Bool) (k : Core) : Prop :=
  k.InFlight early ∧ k.done = false ∧ lone = false ∧ k.aborting = false

theorem Core.Safe.live_of_flash (h : k.Safe cont lone early) (he : k.engine = .flash) (ha : k.aborting = false) :
    k.Live lone early := by
  obtain ⟨flight, done, linked, -⟩ := (safe_flash he).1 h
  exact ⟨flight, done, Bool.eq_false_iff.2 fun hl => Bool.false_ne_true (ha.symm.trans (linked hl)), ha⟩

theorem Core.Safe.live_of_preheat (h : k.Safe cont lone early) (he : k.engine = .preheat) (ha : k.aborting = false) :
    k.Live lone early := by
  obtain ⟨flight, done, linked, -⟩ := (safe_preheat he).1 h
  exact ⟨flight, done, Bool.eq_false_iff.2 fun hl => Bool.false_ne_true (ha.symm.trans (linked hl)), ha⟩

/-- A live weld in FLASH. -/
theorem Core.Live.flash (h : k.Live lone early) (he : k.engine = .flash) : k.Safe cont lone early := by
  obtain ⟨flight, done, linked, abort⟩ := h
  subst linked
  exact (safe_flash he).2 ⟨flight, done, (nomatch ·), fun ha => Bool.noConfusion (abort.symm.trans ha), fun _ _ => abort⟩

/-- A core with the same marks but for PULSE OFF. -/
theorem Core.Live.congr {k' : Core} (h : k.Live lone early) (hw : k'.weld.isSome = k.weld.isSome)
    (hd : k'.done = k.done) (ha : k'.aborting = k.aborting) : k'.Live lone early := by
  unfold Core.Live Core.InFlight at *
  rwa [hw, hd, ha]

theorem State.core_of_ctx {c : WeldCtx} (h : s.ctx = some c) :
    s.core.weld.isSome = true ∧ s.core.done = c.curTime.isSome ∧ s.core.aborting = c.abortTarget.isSome := by
  simp [State.core, Core.done, Core.aborting, WeldCtx.marks, h]

theorem State.enterFlash_safe (h : s.core.Live lone early) (i : Nat) : (s.enterFlash i).core.Safe cont lone early := by
  unfold State.enterFlash
  extract_lets s1
  have entered : s1.core = { s.core.entered .flash with contactor := true } :=
    congrArg (fun x : Core => { x with contactor := true }) (s.core_enterRecord .flash i)
  have live : s1.core.Live lone early := by
    rw [entered]
    exact h
  have flash : s1.core.engine = .flash := congrArg Core.engine entered
  split
  · exact live.flash flash
  · next c hc =>
    obtain ⟨weld, done, abort⟩ := State.core_of_ctx hc
    split
    · exact live.flash flash
    · extract_lets rise c1 s2
      have marked : s2.core.Live lone early := live.congr weld.symm done.symm abort.symm
      split
      · refine Core.Live.flash (marked.congr ?_ ?_ ?_) ?_
        · rfl
        · rfl
        · rfl
        · exact flash
      · exact marked.flash flash

theorem State.makeMove_safe (h : s.core.Live lone early) : s.makeMove.core.Safe cont lone early := by
  unfold State.makeMove
  extract_lets s1
  have ended : s1.core = { s.core with ask := none } := State.core_restoreStep _
  have flashed : s1.core.Flashed early := by
    rw [ended]
    exact ⟨h.1, nofun, h.2.1⟩
  split
  · next hn =>
    have := flashed.1.1
    rw [State.core_weld, hn] at this
    exact nomatch this
  · split
    · exact State.enterBoost_safe flashed h.2.2.1 _
    · exact State.enterUpset_safe flashed _

theorem State.leaveFlash_safe (h : s.core.Live lone early) (he : s.engine = .flash) (m : Option (Nat × Nat)) :
    (s.leaveFlash m).core.Safe cont lone early := by
  unfold State.leaveFlash
  split
  · exact h.flash he
  · split
    · exact State.enterFlash_safe h _
    · split
      · have due : (s.onCtx fun c => { c with moveDue := true }).core = s.core := State.core_onCtx fun _ => rfl
        exact Core.Live.flash (due ▸ h) he
      · exact State.makeMove_safe h

theorem State.flashExit_safe (h : s.core.Live lone early) (he : s.engine = .flash) :
    s.flashExit.core.Safe cont lone early := by
  unfold State.flashExit
  extract_lets s1
  have met : s1.core = s.core :=
    (State.core_onCtx (f := fun c => { c with exitMet := true }) fun _ => rfl).trans (s.core_latch _ _)
  have live : s1.core.Live lone early := met ▸ h
  have flash : s1.engine = .flash := (congrArg Core.engine met).trans he
  split
  · exact live.flash flash
  · extract_lets m
    split
    · rw [State.core_raise]
      exact Core.Live.flash live flash
    · exact State.leaveFlash_safe live flash _

/-- PREHEAT with the contactor where it may be. -/
theorem Core.Live.preheat (h : k.Live lone early) (he : k.engine = .preheat)
    (hc : cont = true → k.contactor = true → k.yielded = false ∧ k.off = false) : k.Safe cont lone early := by
  obtain ⟨flight, done, linked, abort⟩ := h
  subst linked
  exact (safe_preheat he).2 ⟨flight, done, (nomatch ·), fun ha => Bool.noConfusion (abort.symm.trans ha),
    fun hcont hon => ⟨(hc hcont hon).1, abort, (hc hcont hon).2⟩⟩

/-- PULSE OFF forgotten. -/
def Core.shut (k : Core) : Core := { k with weld := k.weld.map fun m => { m with off := false } }

theorem Core.Live.shut (h : k.Live lone early) : k.shut.Live lone early := by
  refine h.congr Option.isSome_map ?_ ?_
  · cases hw : k.weld <;> simp [Core.shut, Core.done, hw]
  · cases hw : k.weld <;> simp [Core.shut, Core.aborting, hw]

theorem Core.off_shut (k : Core) : k.shut.off = false := by
  cases hw : k.weld <;> simp [Core.shut, Core.off, hw]

theorem State.enterApproach_safe (h : s.core.Live lone early) (he : s.engine = .preheat)
    (hs : s.core.Safe cont lone early) : s.enterApproach.core.Safe cont lone early := by
  unfold State.enterApproach
  split
  · exact hs
  · next r _ =>
    extract_lets s1
    have closed : s1.core.Live lone early ∧ s1.engine = .preheat
        ∧ (cont = true → s1.core.contactor = true → s1.core.yielded = false) := by
      dsimp only [s1]
      split
      · exact ⟨h, he, fun hc hon => (((Core.safe_preheat he).1 hs).2.2.2.2 hc hon).1⟩
      · next hy => exact ⟨h, he, fun _ _ => Bool.eq_false_iff.2 hy⟩
    obtain ⟨live, preheat, unyielded⟩ := closed
    have marked : (s1.onCtx fun c => { c with sub := some .approach, subTimer := 0, drawTarget := none }).core
        = s1.core.shut := State.core_remark fun _ => rfl
    show (s1.onCtx fun c => { c with sub := some .approach, subTimer := 0, drawTarget := none }).core.Safe cont lone early
    rw [marked]
    exact live.shut.preheat preheat fun hc hon => ⟨unyielded hc hon, Core.off_shut _⟩

theorem State.enterPreheat_safe (h : s.core.Live lone early) (hc : cont = true → s.core.contactor = false) (i : Nat) :
    (s.enterPreheat i).core.Safe cont lone early := by
  unfold State.enterPreheat
  extract_lets s1
  have entered : s1.core = s.core.entered .preheat := s.core_enterRecord .preheat i
  have live : s1.core.Live lone early := by
    rw [entered]
    exact h
  have preheat : s1.engine = .preheat := congrArg Core.engine entered
  have safe : s1.core.Safe cont lone early :=
    live.preheat preheat fun hcont hon => by
      rw [entered] at hon
      exact Bool.noConfusion ((hc hcont).symm.trans hon)
  split
  · exact safe
  · exact State.enterApproach_safe (s := (s1.setStep _).setForce _) live preheat safe

/-- With the contactor open the marks of PULSE OFF are free. -/
theorem Core.Safe.marked (h : k.Safe cont lone early) (hc : k.contactor = false) (b : Bool) :
    ({ k with weld := k.weld.map fun m => { m with off := b } } : Core).Safe cont lone early := by
  cases hw : k.weld with
  | none =>
    have : ({ k with weld := (none : Option Marks).map fun m => { m with off := b } } : Core) = k := by
      rw [Option.map_none, ← hw]
    rw [this]
    exact h
  | some m =>
    unfold Core.Safe at *
    cases hk : k.engine <;> rw [hk] at h <;>
      simp_all [Core.Still, Core.InFlight, Core.aborting, Core.done, Core.off]

theorem State.enterPulseOff_safe (h : s.core.Safe cont lone early) : s.enterPulseOff.core.Safe cont lone early := by
  unfold State.enterPulseOff
  split
  · exact h.opened
  · next r _ =>
    extract_lets s1
    have marked : (s1.onCtx fun c => { c with
        sub := some .pulseOff, subTimer := 0, drawTarget := some (s1.meas.position - r.openDistance) }).core
        = { s1.core with weld := s1.core.weld.map fun m => { m with off := true } } := State.core_remark fun _ => rfl
    show (s1.onCtx _).core.Safe cont lone early
    rw [marked]
    exact Core.Safe.marked (k := s1.core) h.opened rfl true

theorem State.preheatExit_safe (h : s.core.Live lone early) (he : s.engine = .preheat)
    (hs : s.core.Safe cont lone early) : s.preheatExit.core.Safe cont lone early := by
  unfold State.preheatExit
  extract_lets s1
  have met : s1.core = s.core := State.core_onCtx fun _ => rfl
  have live : s1.core.Live lone early := met ▸ h
  have safe : s1.core.Safe cont lone early := met ▸ hs
  have preheat : s1.engine = .preheat := (congrArg Core.engine met).trans he
  split
  · exact safe
  · extract_lets m
    split
    · have asked := State.core_raise { s1 with awaiting := true } .sequencer m.1 m.2
      refine State.enterApproach_safe ?_ ?_ ?_
      · rw [asked]
        exact live
      · exact (congrArg Core.engine asked).trans preheat
      · rw [asked]
        exact Core.Live.preheat (k := { s1.core with ask := some .sequencer }) live preheat fun hc hon =>
          (((Core.safe_preheat preheat).1 safe).2.2.2.2 hc hon).imp_right And.right
    · exact State.enterFlash_safe live _

theorem State.endPulseOff_safe (h : s.core.Safe cont lone early) (he : s.engine = .preheat) (ha : s.core.aborting = false) :
    s.endPulseOff.core.Safe cont lone early := by
  have live := h.live_of_preheat he ha
  unfold State.endPulseOff
  split
  · exact h
  · split
    · exact h
    · split
      · exact State.preheatExit_safe live he h
      · exact State.enterApproach_safe live he h

/-! ### CLAMP, PULL, ADMITTING -/

/-- What a weld before its current is entered with, and keeps. -/
def Core.Fresh (cont lone early : Bool) (k : Core) : Prop :=
  k.Still cont ∧ k.InFlight early ∧ k.done = false ∧ lone = false

theorem State.enterAdmitting_safe (h : s.core.Fresh cont lone early) : s.enterAdmitting.core.Safe cont lone early := by
  have moved : (s.onCtx fun c => { c with phase := none, phaseTimer := 0, exitMet := false, moveDue := false }).core
      = s.core := State.core_onCtx fun _ => rfl
  have left : ∀ x : Option RiseSource, x ≠ some .resume →
      ({ s.core with engine := .admitting, ask := x } : Core).Safe cont lone early := by
    intro x hx
    obtain ⟨⟨abort, -, open'⟩, flight, done, linked⟩ := h
    exact (Core.safe_before rfl).2 ⟨⟨abort, hx, open'⟩, flight, done, linked⟩
  unfold State.enterAdmitting
  extract_lets _ s1
  have entered : s1.core = { s.core with engine := .admitting } :=
    congrArg (fun x : Core => { x with engine := .admitting }) moved
  have safe : s1.core.Safe cont lone early := by
    rw [entered]
    exact left _ h.1.2.1
  have asked (n c : Nat) : (s1.raise .sequencer n c).core.Safe cont lone early := by
    rw [State.core_raise, entered]
    exact left _ nofun
  split
  · exact safe
  · split
    · exact asked _ _
    · exact asked _ _
    · exact safe

theorem State.endPull_safe (h : s.core.Fresh cont lone early) (he : s.engine = .pulling) :
    s.endPull.core.Safe cont lone early := by
  unfold State.endPull
  extract_lets s1
  have latched : s1.core = s.core := s.core_latch _ _
  split
  · rw [latched]
    exact (Core.safe_before (congrArg Engine.before he)).2 h
  · next c hc =>
    extract_lets achieved tolerance c1 c2
    have marks : c2.marks = c.marks := by
      dsimp only [c2]
      split
      · exact WeldCtx.marks_addReason _ _
      · rfl
    refine State.enterAdmitting_safe ?_
    rw [State.core_setCtx hc marks, latched]
    exact h

theorem State.enterPull_safe (h : s.core.Fresh cont lone early) (i : Nat) :
    (s.enterPull i).core.Safe cont lone early := by
  unfold State.enterPull
  extract_lets s1
  have entered : s1.core = s.core.entered .pulling := s.core_enterRecord .pulling i
  have fresh : s1.core.Fresh cont lone early := by
    rw [entered]
    exact h
  have pulling : s1.engine = .pulling := congrArg Core.engine entered
  split
  · exact (Core.safe_before (congrArg Engine.before pulling)).2 fresh
  · extract_lets s3
    have moving : s3.core = s1.core :=
      State.core_onCtx (s := s1) (f := fun c => { c with pullStart := some s1.meas.position }) fun _ => rfl
    have still : s3.core.Fresh cont lone early := moving ▸ fresh
    have engine : s3.engine = .pulling := (congrArg Core.engine moving).trans pulling
    split
    · exact State.endPull_safe still engine
    · exact (Core.safe_before (congrArg Engine.before engine)).2 still

theorem State.clampExit_safe (h : s.core.Fresh cont lone early) (he : s.engine = .clamping) :
    s.clampExit.core.Safe cont lone early := by
  unfold State.clampExit
  extract_lets _ _ s1
  have done : s1.core = s.core := State.core_onCtx (s := s) (f := fun c => { c with clampDone := true }) fun _ => rfl
  have fresh : s1.core.Fresh cont lone early := done ▸ h
  split
  · rw [done]
    exact (Core.safe_before (congrArg Engine.before he)).2 h
  · split
    · exact State.enterPull_safe fresh _
    · exact State.enterAdmitting_safe fresh

theorem State.core_clampLines (s : State) (x : Stress) :
    ({ ((s.setClamps true false).setVelocity 0).setForce 0 with stress := x } : State).core = s.core := rfl

theorem State.enterClamp_safe (h : s.core.Fresh cont lone early) : s.enterClamp.core.Safe cont lone early := by
  unfold State.enterClamp
  extract_lets _ _ s1
  have entered : s1.core = s.core.entered .clamping :=
    (State.core_clampLines _ _).trans (s.core_enterRecord .clamping 0)
  have fresh : s1.core.Fresh cont lone early := by
    rw [entered]
    exact h
  have clamping : s1.engine = .clamping := congrArg Core.engine entered
  split
  · exact State.clampExit_safe fresh clamping
  · exact (Core.safe_before (congrArg Engine.before clamping)).2 fresh

end Sys2Proof.Machine

/-! PROOFS. The causes, the own rise and Yield Control keep the invariant. -/

namespace Sys2Proof.Machine

variable {cont link lone lone' early : Bool} {s t u : State} {k : Core}

/-! ### Stop-class causes -/

theorem State.core_openContactor (s : State) : s.openContactor.core = { s.core with contactor := false } := rfl

theorem State.core_shearLines (s : State) (v : Int) (f : Nat) :
    (((s.setVelocity v).setForce f).setShear false false).core = s.core := rfl

theorem State.core_leavePull (s : State) : s.leavePull.core = s.core := by
  unfold State.leavePull
  split
  · exact State.core_onCtx fun _ => rfl
  · rfl

/-- The same weld, rise and contactor. -/
def Core.Like (k k' : Core) : Prop :=
  k'.weld.isSome = k.weld.isSome ∧ k'.ask = k.ask ∧ k'.contactor = k.contactor

theorem State.onCtx_like (s : State) (f : WeldCtx → WeldCtx) : s.core.Like (s.onCtx f).core :=
  ⟨by simp [State.core, State.onCtx], rfl, rfl⟩

theorem Core.Like.trans {k k' k'' : Core} (h : k.Like k') (h' : k'.Like k'') : k.Like k'' :=
  ⟨h'.1.trans h.1, h'.2.1.trans h.2.1, h'.2.2.trans h.2.2⟩

theorem State.unitsAtStop_core (s : State) :
    s.core.Like s.unitsAtStop.core ∧ s.unitsAtStop.core.aborting = false := by
  unfold State.unitsAtStop
  extract_lets s1 s2 s3 s4
  have pulled : s.core.Like s1.core := by
    rw [show s1.core = s.core from s.core_leavePull]
    exact ⟨rfl, rfl, rfl⟩
  have boosted : s.core.Like s2.core := by
    have same : s2.core = s1.core := by
      dsimp only [s2]
      split
      · exact State.core_onCtx fun _ => rfl
      · rfl
    exact same ▸ pulled
  have upset : s.core.Like s3.core := by
    dsimp only [s3]
    split
    · exact boosted.trans (s2.onCtx_like _)
    · exact boosted
  have left : s4.core = s3.core.left := (State.core_stopPower _).trans s3.core_leaveRegulator
  show s.core.Like s4.core ∧ s4.core.aborting = false
  rw [left]
  obtain ⟨weld, ask, open'⟩ := upset
  exact ⟨⟨(Core.weld_left _).trans weld, ask, open'⟩, Core.aborting_left _⟩

theorem State.stopHead_safe (h : s.core.InFlight early) (x : StopCause) : (s.stopHead x).core.Safe cont lone early := by
  unfold State.stopHead
  extract_lets s1 s2 _ s3 s4
  have shut : s2.core = s1.core := State.core_shearLines _ _ _
  have cleared : s3.core = { s2.core with ask := none, yielded := false } := s2.cancelRise.core_clearYield
  rw [shut, show s1.core = _ from s.core_openContactor] at cleared
  obtain ⟨⟨weld, ask, open'⟩, abort⟩ := s3.unitsAtStop_core
  have stopped : s4.core = s3.unitsAtStop.core := State.core_onCtx fun _ => rfl
  rw [State.core_settleAtStop, State.core_noticeFault]
  show ({ s4.core with engine := .faultHold } : Core).Safe cont lone early
  rw [stopped]
  rw [cleared] at weld ask open'
  exact (Core.safe_calm rfl).2
    ⟨⟨abort, fun hr => by simp [ask] at hr, fun _ => open'⟩, weld.trans h.1, h.2⟩

theorem State.core_appendStop (s : State) (x : StopCause) : (s.appendStop x).core = s.core := by
  unfold State.appendStop
  split
  · rfl
  · next c hc =>
    exact (State.core_noticeFault _ _ _).trans (State.core_setCtx (c' := { c with faults := appendFault c.faults x }) hc rfl)

/-- A weld is in flight in the engine states of a weld. -/
theorem Core.Safe.inFlight (h : k.Safe cont lone early) (he : k.engine.isWeld = true) : k.InFlight early := by
  unfold Core.Safe at h
  cases hk : k.engine <;> rw [hk] at h he <;> simp_all [Engine.isWeld]

theorem State.stopCause_safe (h : s.core.Safe cont lone early) (x : StopCause) :
    (s.stopCause x).core.Safe cont lone early := by
  have flight : s.engine.isWeld = true → s.core.InFlight early := h.inFlight
  unfold State.stopCause
  split
  · exact h
  · exact h
  · exact h
  · rw [State.core_appendStop]
    exact h
  all_goals exact State.stopHead_safe (flight (by simp [*, Engine.isWeld])) x

/-! ### End-class causes -/

theorem State.earlyEnd_safe (h : s.core.Safe cont lone early) (he : s.engine.before = true) (x : EndCause) :
    (s.earlyEnd x).core.Safe cont lone' early := by
  unfold State.earlyEnd
  extract_lets _ s1
  refine State.enterReleasing_safe ?_
  obtain ⟨flight, -, open'⟩ := h.spent_of_before he
  rw [State.core_leavePull, State.core_onCtx fun c => c.marks_addReason _]
  exact ⟨flight, nofun, open'⟩

/-- An abort retract, in PREHEAT or FLASH. -/
theorem Core.aborting_safe (he : k.engine = .preheat ∨ k.engine = .flash) (flight : k.InFlight early)
    (done : k.done = false) (abort : k.aborting = true) (ask : k.ask = none) (open' : k.contactor = false) :
    k.Safe cont lone early := by
  obtain he | he := he
  · exact (safe_preheat he).2 ⟨flight, done, fun _ => abort, fun _ => ask, fun _ hc => nomatch open'.symm.trans hc⟩
  · exact (safe_flash he).2 ⟨flight, done, fun _ => abort, fun _ => ask, fun _ hc => nomatch open'.symm.trans hc⟩

theorem State.startAbort_safe (flight : s.core.InFlight early) (done : s.core.done = false)
    (he : s.engine = .preheat ∨ s.engine = .flash) (x : EndCause) : (s.startAbort x).core.Safe cont lone early := by
  unfold State.startAbort
  extract_lets _ s1 s2
  have left : s2.core = ({ s.core with ask := none, contactor := false, yielded := false } : Core).left := by
    rw [State.core_leaveRegulator, State.core_onCtx fun c => c.marks_addReason _]
    exact congrArg Core.left s.openContactor.cancelRise.core_clearYield
  have marked : (s2.onCtx fun c =>
      { c with
        abortTarget := some (s2.meas.position - s2.image.abortDistance)
        abortStill := 0
        contactPending := false
        restartDue := s.pauseDue
        moveDue := false }).core = { s2.core with weld := s2.core.weld.map fun m => { m with aborting := true } } :=
    State.core_remark fun _ => rfl
  show (s2.onCtx fun c => _).core.Safe cont lone early
  rw [marked, left]
  have weld := flight.1
  refine Core.aborting_safe he ⟨?_, flight.2⟩ ?_ ?_ rfl rfl
  · simpa [Core.left] using weld
  · revert done
    cases hw : s.core.weld <;> simp [Core.done, Core.left, hw]
  · revert weld
    cases hw : s.core.weld <;> simp [Core.aborting, Core.left, hw]

theorem State.forceUpset_safe (h : s.core.Safe cont lone early) (he : s.engine = .boost) (x : EndCause) :
    (s.forceUpset x).core.Safe cont lone' early := by
  have added : (s.onCtx fun c => (c.addReason x.reason).addReason .forcedUpset).core = s.core :=
    State.core_onCtx fun c => ((c.addReason x.reason).marks_addReason _).trans (c.marks_addReason _)
  refine State.endBoost_safe (lone := lone) ?_ he
  exact added ▸ h

/-- The engine states that stand without a JOINED link, whatever the weld. -/
def Engine.alone : Engine → Bool
  | .starting | .configFault | .ready | .upset | .hold | .trim | .releasing | .faultHold => true
  | .clamping | .pulling | .admitting | .preheat | .flash | .boost => false

theorem Core.Safe.alone (h : k.Safe cont lone early) (he : k.engine.alone = true ∨ k.aborting = true) :
    k.Safe cont lone' early := by
  unfold Core.Safe Engine.alone at *
  cases hk : k.engine <;> rw [hk] at h he <;> simp_all [Core.Still]

/-- After an end-class cause the weld stands without a JOINED link. -/
theorem State.endCause_safe (h : s.core.Safe cont lone early) (x : EndCause) (tag : Option Nat) :
    (s.endCause x tag).core.Safe cont lone' early := by
  have stored : ((s.onCtx fun c => c.storeEnding x tag).noticeFault x.reason tag).core = s.core :=
    (State.core_noticeFault _ _ _).trans (State.core_onCtx fun c => c.marks_storeEnding x tag)
  have told : (s.noticeFault x.reason tag).core = s.core := s.core_noticeFault _ _
  have stands : s.engine.alone = true → s.core.Safe cont lone' early := fun he => h.alone (.inl he)
  unfold State.endCause
  extract_lets s1
  have safe : s1.core.Safe cont lone early := stored ▸ h
  have engine : s1.engine = s.engine := congrArg Core.engine stored
  have late : s.engine.alone = true →
      (s1.onCtx fun c => (c.addReason x.reason).addReason .lateAbort).core.Safe cont lone' early := fun he => by
    rw [State.core_onCtx fun c => ((c.addReason x.reason).marks_addReason _).trans (c.marks_addReason _)]
    exact stored ▸ stands he
  have current : s.engine = .preheat ∨ s.engine = .flash →
      (if s.aborting then s1.onCtx fun c => c.addReason x.reason else s1.startAbort x).core.Safe cont lone' early :=
    fun he => by
      split
      · next ha =>
        rw [State.core_onCtx fun c => c.marks_addReason _]
        exact stored ▸ h.alone (.inr (s.core_aborting.trans ha))
      · have flight : s1.core.InFlight early := safe.inFlight (by
          rw [show s1.core.engine = s.engine from engine]
          obtain he | he := he <;> rw [he] <;> rfl)
        have done : s1.core.done = false := by
          obtain he | he := he
          · exact ((Core.safe_preheat (engine.trans he)).1 safe).2.1
          · exact ((Core.safe_flash (engine.trans he)).1 safe).2.1
        exact State.startAbort_safe flight done (engine ▸ he) x
  split
  · next he => exact stands (congrArg Engine.alone he)
  · next he => exact stands (congrArg Engine.alone he)
  · next he => exact stands (congrArg Engine.alone he)
  · next he => exact stands (congrArg Engine.alone he)
  · next he => exact told ▸ stands (congrArg Engine.alone he)
  · next he => exact State.earlyEnd_safe safe (congrArg Engine.before (engine.trans he)) x
  · next he => exact State.earlyEnd_safe safe (congrArg Engine.before (engine.trans he)) x
  · next he => exact State.earlyEnd_safe safe (congrArg Engine.before (engine.trans he)) x
  · next he => exact current (.inl he)
  · next he => exact current (.inr he)
  · next he => exact State.forceUpset_safe safe (engine.trans he) x
  · next he => exact late (congrArg Engine.alone he)
  · next he => exact late (congrArg Engine.alone he)
  · next he => exact late (congrArg Engine.alone he)

/-! ### Admission -/

theorem State.core_cancelResume (s : State) :
    s.cancelResume.core = s.core ∨ s.cancelResume.core = { s.core with ask := none } := by
  unfold State.cancelResume
  split
  · exact .inr rfl
  · exact .inl rfl

theorem State.cancelResume_safe (h : s.core.Safe cont lone early) : s.cancelResume.core.Safe cont lone early := by
  obtain same | ended := s.core_cancelResume
  · exact same ▸ h
  · exact ended ▸ h.unasked

theorem State.yieldLimited_safe (h : s.core.Safe cont lone early) : s.yieldLimited.core.Safe cont lone' early := by
  unfold State.yieldLimited
  have told : (s.cancelResume.onCtx fun c => { c with limitReported := true }).core = s.cancelResume.core :=
    State.core_onCtx fun _ => rfl
  refine State.endCause_safe (lone := lone) ?_ _ _
  exact told ▸ State.cancelResume_safe h

theorem State.pauseRestarts_safe (h : s.core.Safe cont lone early) : s.pauseRestarts.core.Safe cont lone early := by
  unfold State.pauseRestarts
  extract_lets s1
  have counted : s1.core = s.core := State.core_onCtx fun _ => rfl
  have safe : s1.core.Safe cont lone early := counted ▸ h
  split
  · exact State.endCause_safe (State.cancelResume_safe safe) _ _
  · exact safe

/-- A rise pends in no abort retract. -/
theorem Core.Safe.not_aborting (h : k.Safe cont lone early) (ha : k.ask ≠ none) : k.aborting = false := by
  unfold Core.Safe at h
  cases hk : k.engine <;> rw [hk] at h <;> simp_all [Still]

theorem State.preheat_of_pulseOffOver (s : State) (h : s.pulseOffOver = true) : s.engine = .preheat := by
  unfold State.pulseOffOver at h
  split at h
  · exact nomatch h
  · simp only [Bool.and_eq_true, decide_eq_true_eq] at h
    exact h.1.1.1

theorem State.regulatorResumes_safe (h : s.core.Safe cont lone early) (ha : s.core.aborting = false) :
    s.regulatorResumes.core.Safe cont lone early := by
  unfold State.regulatorResumes
  split
  · exact h
  · split
    · next ho => exact State.endPulseOff_safe h (s.preheat_of_pulseOffOver ho) ha
    · exact h

theorem State.resumeAdmitted_safe (h : s.core.Safe cont lone early) (ha : s.core.aborting = false) :
    s.resumeAdmitted.core.Safe cont lone early := by
  unfold State.resumeAdmitted
  extract_lets s1
  have cleared : s1.core = { s.core with yielded := false } := State.core_latch _ _ _
  have marked : (s1.onCtx fun c : WeldCtx =>
      { c with sinceResume := some 0, minrunBar := true, pause := none, restartDue := false, guard := none }).core
      = { s.core with yielded := false } := (State.core_onCtx (s := s1) (f := fun c =>
        { c with sinceResume := some 0, minrunBar := true, pause := none, restartDue := false, guard := none }) fun _ => rfl).trans cleared
  refine State.regulatorResumes_safe ?_ ?_
  · exact marked ▸ h.unyielded
  · exact marked ▸ ha

/-- The Sequencer takes its admission in the engine states in which a rise of it can pend. -/
theorem State.sequencerAdmitted_safe (h : s.core.Safe cont lone early) (ha : s.core.aborting = false) (claim : Nat × Nat) :
    (s.sequencerAdmitted claim).core.Safe cont lone early := by
  unfold State.sequencerAdmitted
  extract_lets s1 s2
  have same : s1.core = s.core := rfl
  split
  · exact h
  · split
    · next he =>
      obtain ⟨⟨abort, -, open'⟩, flight, done, linked⟩ := (Core.safe_before (congrArg Engine.before he)).1 h
      have begun : s2.core = s.core := State.core_onCtx (s := s1) fun _ => rfl
      have live : s2.core.Live lone early := begun ▸ ⟨flight, done, linked, abort⟩
      split
      · exact begun ▸ h
      · split
        · exact State.enterPreheat_safe live (begun ▸ open') _
        · exact State.enterFlash_safe live _
    · next he => exact State.enterFlash_safe (s := s1) (h.live_of_preheat he ha) _
    · next he => exact State.leaveFlash_safe (s := s1) (h.live_of_flash he ha) he _
    all_goals exact h

theorem State.admitRise_safe (h : s.core.Safe cont lone early) (ha : s.core.ask ≠ none) (a : Ask) :
    (s.admitRise a).core.Safe cont lone early := by
  have abort := h.not_aborting ha
  unfold State.admitRise
  extract_lets _ s1
  have safe : s1.core.Safe cont lone early := h.unasked
  split
  · exact State.sequencerAdmitted_safe safe abort _
  · split
    · exact State.yieldLimited_safe safe
    · exact State.resumeAdmitted_safe safe abort

/-! ### The own pending rise -/

theorem State.core_withdrawRise (s : State) : s.withdrawRise.core = s.core := State.core_placeDemand _

theorem State.core_reraise (s : State) : s.reraise.core = s.core := State.core_placeDemand _

theorem State.core_ask_some {a : Ask} (h : s.share.rise.ask = some a) : s.core.ask ≠ none := by
  simp [State.core, h]

theorem State.riseEval_safe (h : s.core.Safe cont lone early) (tableChanged : Bool) :
    (s.riseEval tableChanged).core.Safe cont lone early := by
  unfold State.riseEval
  split
  · exact h
  · next a ha =>
    split
    · exact h
    · split
      · rw [State.core_withdrawRise]
        exact h
      · exact h
    · split
      · rw [State.core_withdrawRise]
        exact h
      · split
        · exact State.admitRise_safe h (State.core_ask_some ha) a
        · exact h
    · split
      · rw [State.core_reraise]
        exact h
      · exact h

theorem State.settleExpires_safe (h : s.core.Safe cont lone early) : s.settleExpires.core.Safe cont lone early := by
  unfold State.settleExpires
  split
  · exact h
  · next a ha =>
    extract_lets _ _ s1
    have asked : s1.core = s.core := rfl
    split
    · exact State.admitRise_safe (asked ▸ h) (asked ▸ State.core_ask_some ha) a
    · exact h

theorem State.admitTimedOut_safe (h : s.core.Safe cont lone early) : s.admitTimedOut.core.Safe cont lone early := by
  unfold State.admitTimedOut
  refine State.endCause_safe (lone := lone) ?_ _ _
  rw [State.core_placeDemand]
  exact h.unasked

/-! ### Yield Control -/

/-- A standing class is that of PREHEAT or FLASH out of an abort retract. -/
theorem State.standing_isSome {cls : Nat} (h : s.phaseClass.standing = some cls) :
    (s.engine = .preheat ∨ s.engine = .flash) ∧ s.core.aborting = false := by
  rw [State.core_aborting]
  unfold State.phaseClass at h
  split at h
  · next he =>
    split at h
    · exact nomatch h
    · next ha => exact ⟨.inl he, Bool.eq_false_iff.2 ha⟩
  · next he =>
    split at h
    · exact nomatch h
    · next ha => exact ⟨.inr he, Bool.eq_false_iff.2 ha⟩
  · exact nomatch h
  · split at h
    · exact nomatch h
    · exact nomatch h
  all_goals exact nomatch h

/-- A RESUME rise may pend in PREHEAT and FLASH out of an abort retract. -/
theorem Core.Safe.asked (h : k.Safe cont lone early) (he : k.engine = .preheat ∨ k.engine = .flash)
    (ha : k.aborting = false) (x : Option RiseSource) : ({ k with ask := x } : Core).Safe cont lone early := by
  obtain he | he := he
  · have live : k.Live lone early := h.live_of_preheat he ha
    exact Core.Live.preheat (k := { k with ask := x }) live he fun hc hon =>
      (((safe_preheat he).1 h).2.2.2.2 hc hon).imp_right And.right
  · have live : k.Live lone early := h.live_of_flash he ha
    exact Core.Live.flash (k := { k with ask := x }) live he

theorem State.resumeEval_safe (h : s.core.Safe cont lone early) : s.resumeEval.core.Safe cont lone early := by
  unfold State.resumeEval
  split
  · exact h
  · next cls hcls =>
    obtain ⟨he, ha⟩ := State.standing_isSome hcls
    split
    · rw [State.core_raise]
      exact h.asked he ha _
    · exact h

theorem State.core_countYield (s : State) : s.countYield.core = { s.core with yielded := true } :=
  State.core_onCtx (s := { s with yielded := true }) (f := fun c =>
    { c with
      yieldCount := countUp c.yieldCount
      guard := none
      pause := if s.engine = Engine.preheat then some 0 else none
      restartDue := false
      pauseTaken := if s.engine = Engine.preheat then false else c.pauseTaken }) fun _ => rfl

/-- The flag set with the contactor open in PREHEAT. -/
theorem Core.Safe.yielding (h : k.Safe cont lone early) (hc : k.engine = .preheat → k.contactor = false) :
    ({ k with yielded := true } : Core).Safe cont lone early := by
  unfold Core.Safe at *
  cases hk : k.engine <;> rw [hk] at h hc <;> simp_all [Core.Still, Core.InFlight, Core.aborting, Core.done]

theorem State.enterPulseOff_contactor (s : State) : s.enterPulseOff.core.contactor = false := by
  unfold State.enterPulseOff
  split <;> rfl

theorem State.applyYield_safe (h : s.core.Safe cont lone early) : s.applyYield.core.Safe cont lone early := by
  unfold State.applyYield
  split
  · exact h
  · next c _ =>
    split
    · exact h
    · split
      · have opened : (if c.sub = some .pulseOff then s.openContactor else s.enterPulseOff).core.Safe cont lone early
            ∧ (if c.sub = some .pulseOff then s.openContactor else s.enterPulseOff).core.contactor = false := by
          split
          · exact ⟨h.opened, rfl⟩
          · exact ⟨State.enterPulseOff_safe h, s.enterPulseOff_contactor⟩
        rw [State.core_countYield, State.core_latch]
        exact opened.1.yielding fun _ => opened.2
      · next he =>
        extract_lets s1
        have counted : s1.core = { s.core with yielded := true } :=
          (State.core_countYield _).trans (congrArg (fun x : Core => { x with yielded := true }) (s.core_latch _ _))
        have safe : s1.core.Safe cont lone early := by
          rw [counted]
          exact h.yielding fun hp => nomatch (show s.core.engine = .flash from he).symm.trans hp
        split
        · exact safe
        · exact safe
      all_goals exact h

theorem State.yieldEval_safe (h : s.core.Safe cont lone early) (lowered : Bool) :
    (s.yieldEval lowered).core.Safe cont lone early := by
  unfold State.yieldEval
  split
  · exact State.resumeEval_safe h
  · split
    · split
      · exact h
      · split
        · exact State.applyYield_safe h
        · exact h
    · exact h

theorem State.minrunExpires_safe (h : s.core.Safe cont lone early) : s.minrunExpires.core.Safe cont lone early := by
  have lifted : (s.onCtx fun c => { c with minrunBar := false }).core = s.core := State.core_onCtx fun _ => rfl
  refine State.yieldEval_safe ?_ false
  exact lifted ▸ h

theorem State.shareEvent_safe (h : s.core.Safe cont lone early) (tableChanged lowered : Bool) :
    (s.shareEvent tableChanged lowered).core.Safe cont lone early :=
  State.yieldEval_safe (State.riseEval_safe h tableChanged) lowered

theorem State.withPeers_safe (h : s.core.Safe cont lone early) (peers : List Peer) :
    (s.withPeers peers).core.Safe cont lone early :=
  State.shareEvent_safe (s := { s with share := { s.share with peers := peers } }) h true false

theorem State.budgetEvent_safe (h : s.core.Safe cont lone early) (before : State) :
    (s.budgetEvent before).core.Safe cont lone early :=
  State.shareEvent_safe (s := { s with share := { s.share with source := s.sourceNow } }) h false _

end Sys2Proof.Machine

/-! PROOFS. The conditions, the evaluation of an interval and the timed events keep the invariant. -/

namespace Sys2Proof.Machine

variable {cont link lone lone' early : Bool} {s t u : State} {k : Core}

/-! ### Stop-class conditions, inputs and the encoder -/

theorem State.testCondition_safe (h : s.core.Safe cont lone early) (now before : Bool) (x : StopCause) :
    (s.testCondition now before x).core.Safe cont lone early := by
  unfold State.testCondition
  split
  · exact State.stopCause_safe h x
  · exact h

theorem State.testEmergency_safe (h : s.core.Safe cont lone early) : s.testEmergency.core.Safe cont lone early :=
  State.testCondition_safe (s := { s with meas := { s.meas with condEmergency := s.level .emergency } }) h _ _ _

theorem State.testTrain_safe (h : s.core.Safe cont lone early) : s.testTrain.core.Safe cont lone early :=
  State.testCondition_safe (s := { s with meas := { s.meas with condTrain := s.level .trainMove } }) h _ _ _

theorem State.testClamp_safe (h : s.core.Safe cont lone early) (closed : Bool) :
    (s.testClamp closed).core.Safe cont lone early :=
  State.testCondition_safe (s := { s with meas := { s.meas with condClamp := s.clampLost closed } }) h _ _ _

theorem State.testForce_safe (h : s.core.Safe cont lone early) : s.testForce.core.Safe cont lone early :=
  State.testCondition_safe (s := { s with meas := { s.meas with condForce := s.forceOver } }) h _ _ _

theorem State.testConditions_safe (h : s.core.Safe cont lone early) : s.testConditions.core.Safe cont lone early := by
  unfold State.testConditions
  split
  · exact h
  · exact State.testForce_safe (State.testTrain_safe (State.testClamp_safe (State.testEmergency_safe h) _))

theorem State.shearMoved_safe (h : s.core.Safe cont lone early) : s.shearMoved.core.Safe cont lone early := by
  unfold State.shearMoved
  split
  · next he =>
    split
    · split
      · exact State.enterReturning_safe h he
      · exact h
    · split
      · exact State.endTrim_safe h he
      · exact h
    · exact h
  · exact h

/-- In CLAMPING a weld has not begun its current. -/
theorem Core.Safe.fresh (h : k.Safe cont lone early) (he : k.engine.before = true) : k.Fresh cont lone early :=
  (safe_before he).1 h

theorem State.clampMoved_safe (h : s.core.Safe cont lone early) : s.clampMoved.core.Safe cont lone early := by
  unfold State.clampMoved
  split
  · next he =>
    split
    · exact State.clampExit_safe (h.fresh (congrArg Engine.before he)) he
    · exact h
  · next he =>
    split
    · split
      · exact State.completeRelease_safe h he
      · exact h
    · split
      · exact State.completeRelease_safe h he
      · exact h
    · exact h
  · exact h

theorem State.feedbackMoved_safe (h : s.core.Safe cont lone early) : s.feedbackMoved.core.Safe cont lone early := by
  unfold State.feedbackMoved
  split
  · exact h
  · exact h

theorem State.inputMoved_safe (h : s.core.Safe cont lone early) (i : Input) :
    (s.inputMoved i).core.Safe cont lone early := by
  unfold State.inputMoved
  split
  · exact h
  · split
    · exact State.testEmergency_safe h
    · exact State.testTrain_safe h
    · exact State.clampMoved_safe (State.testClamp_safe h _)
    · exact State.clampMoved_safe (State.testClamp_safe h _)
    · exact State.shearMoved_safe h
    · exact State.shearMoved_safe h
    · exact State.feedbackMoved_safe h
    · exact h

theorem State.takeLevel_safe (h : s.core.Safe cont lone early) (i : Input) : (s.takeLevel i).core.Safe cont lone early :=
  State.inputMoved_safe (s := s.acceptLevel i) h i

theorem State.contactorFault_safe (h : s.core.Safe cont lone early) : s.contactorFault.core.Safe cont lone early :=
  State.stopCause_safe (s := { s with meas := { s.meas with fbReported := true } }) h _

theorem State.quadratureError_safe (h : s.core.Safe cont lone early) : s.quadratureError.core.Safe cont lone early := by
  unfold State.quadratureError
  extract_lets _ s1
  have safe : s1.core.Safe cont lone early := h
  split
  · exact safe
  · exact State.stopCause_safe safe _

theorem State.countEdge_safe (h : s.core.Safe cont lone early) (toward : Bool) :
    (s.countEdge toward).core.Safe cont lone early := by
  unfold State.countEdge
  extract_lets p
  split
  · exact h
  · refine State.quadratureError_safe ?_
    exact h

theorem State.passMark_safe (h : s.core.Safe cont lone early) : s.passMark.core.Safe cont lone early := by
  unfold State.passMark
  split
  · split
    · exact State.quadratureError_safe h
    · exact h
  · exact h

/-! ### The evaluation of an interval -/

theorem State.core_countPower (s : State) : s.countPower.core = s.core := by
  have added : s.addPower.core = s.core := by
    refine State.core_onCtx fun c => ?_
    dsimp only
    split
    · rfl
    · rfl
  unfold State.countPower
  split
  · refine (State.core_onCtx (s := s.addPower) fun c => ?_).trans added
    dsimp only
    split
    · rfl
    · split
      · rfl
      · rfl
  · exact added

theorem State.core_updateBurnOff (s : State) : s.updateBurnOff.core = s.core := by
  refine State.core_onCtx fun c => ?_
  split
  · rfl
  · rfl

theorem State.core_countOpen (s : State) (r : FlashRec) : (s.countOpen r).core = s.core := by
  unfold State.countOpen
  split
  · exact State.core_onCtx fun _ => rfl
  · rfl

theorem State.core_takeContact (s : State) : s.takeContact.core = s.core :=
  (State.core_onCtx (f := fun c => { c with contactPending := false, contactPos := some s.meas.intervalPos })
    fun _ => rfl).trans (s.core_latch _ _)

theorem State.core_closeGap (s : State) : s.closeGap.core = s.core :=
  (State.core_onCtx (s := s.closeEpisode) (f := WeldCtx.restartRuns) fun _ => rfl).trans s.core_closeEpisode

theorem State.stillFlash_iff (s : State) : s.stillFlash = true ↔ s.engine = .flash ∧ s.core.aborting = false := by
  rw [s.core_aborting]
  simp [State.stillFlash]

theorem State.testFlash_safe (h : s.core.Safe cont lone early) (he : s.engine = .flash) (ha : s.core.aborting = false) :
    s.testFlash.core.Safe cont lone early := by
  unfold State.testFlash
  split
  · exact h
  · split
    · split
      · exact State.endCause_safe h _ _
      · exact h
    · unfold State.testFlashExit
      split
      · exact h
      · split
        · exact State.flashExit_safe (h.live_of_flash he ha) he
        · exact h

theorem State.endRetraction_safe (h : s.core.Safe cont lone early) (he : s.engine = .flash) (ha : s.core.aborting = false) :
    s.endRetraction.core.Safe cont lone early := by
  unfold State.endRetraction
  extract_lets s1
  have ended : s1.core = s.core :=
    State.core_onCtx (f := fun c => { c.restartRuns with retract := none }) fun _ => rfl
  split
  · exact State.makeMove_safe (ended ▸ h.live_of_flash he ha)
  · exact ended ▸ h

theorem State.regulateFlash_safe (h : s.core.Safe cont lone early) (he : s.engine = .flash) (ha : s.core.aborting = false)
    (i : Nat) (r now : FlashRec) : (s.regulateFlash i r now).core.Safe cont lone early := by
  unfold State.regulateFlash
  split
  · exact h
  · next c _ =>
    split
    · split
      · show s.takeContact.core.Safe cont lone early
        rw [State.core_takeContact]
        exact h
      · exact h
    · split
      · have ran : ((s.setVelocity (s.lawSpeed c i r)).onCtx fun c => c.runs now s.meas.im s.meas.intervalPos).core
            = s.core := State.core_onCtx (s := s.setVelocity (s.lawSpeed c i r)) fun _ => rfl
        exact ran ▸ h
      · split
        · exact h
        · next k _ =>
          extract_lets s1
          have safe : s1.core.Safe cont lone early := h
          split
          · exact State.endRetraction_safe safe he ha
          · exact safe
      · split
        · show s.closeGap.core.Safe cont lone early
          rw [State.core_closeGap]
          exact h
        · show (s.countOpen now).core.Safe cont lone early
          rw [State.core_countOpen]
          exact h
      · exact h

theorem State.evalFlash_safe (h : s.core.Safe cont lone early) (he : s.engine = .flash) (ha : s.core.aborting = false) :
    s.evalFlash.core.Safe cont lone early := by
  unfold State.evalFlash
  split
  · exact h
  · next r _ =>
    extract_lets i s1
    split
    · next still =>
      obtain ⟨flash, abort⟩ := s1.stillFlash_iff.1 still
      exact State.regulateFlash_safe (State.testFlash_safe h he ha) flash abort i r _
    · have counted := s.core_countOpen r
      exact State.testFlash_safe (counted ▸ h) ((congrArg Core.engine counted).trans he) (counted ▸ ha)

theorem State.evalAbort_safe (h : s.core.Safe cont lone early) (ha : s.core.aborting = true) (target : Int) :
    (s.evalAbort target).core.Safe cont lone early := by
  unfold State.evalAbort
  split
  · exact State.enterReleasing_safe (h.spent_of_aborting ha)
  · have marked : ((s.setVelocity (-(s.image.vRetractMax : Int))).onCtx fun c =>
        { c with abortStill := if s.meas.velocity.natAbs ≤ 100 then c.abortStill + Config.intervalMs else 0 }).core
        = s.core := State.core_onCtx (s := s.setVelocity _) fun _ => rfl
    exact marked ▸ h

/-- PULSE OFF forgotten. -/
theorem Core.Safe.shut (h : k.Safe cont lone early) : k.shut.Safe cont lone early := by
  unfold Core.Safe at *
  cases hk : k.engine <;> rw [show k.shut.engine = k.engine from rfl, hk] <;> rw [hk] at h <;> cases hw : k.weld <;>
    simp_all [Core.Still, Core.InFlight, Core.aborting, Core.done, Core.off, Core.shut]

theorem State.evalPreheat_safe (h : s.core.Safe cont lone early) : s.evalPreheat.core.Safe cont lone early := by
  unfold State.evalPreheat
  split
  · exact h
  · split
    · exact h
    · extract_lets s1
      have timed : s1.core = s.core :=
        State.core_onCtx (f := fun c => { c with subTimer := c.subTimer + Config.intervalMs }) fun _ => rfl
      have safe : s1.core.Safe cont lone early := timed ▸ h
      split
      · split
        · have met : (s1.onCtx fun c => { c with sub := some .pulseOn, subTimer := 0 }).core = s1.core.shut :=
            State.core_remark fun _ => rfl
          show (s1.onCtx fun c => { c with sub := some .pulseOn, subTimer := 0 }).core.Safe cont lone early
          exact met ▸ safe.shut
        · exact safe
      · exact safe
      · split
        · exact safe
        · split
          · have drawn : (s1.onCtx fun c => { c with drawTarget := none }).core = s1.core := State.core_onCtx fun _ => rfl
            show (s1.onCtx fun c => { c with drawTarget := none }).core.Safe cont lone early
            exact drawn ▸ safe
          · exact safe
      · exact safe

theorem State.core_abortTarget (s : State) :
    ((s.ctx.bind fun c => c.abortTarget).isSome) = s.core.aborting := by
  cases h : s.ctx <;> simp [State.core, Core.aborting, WeldCtx.marks, h]

theorem State.evalCurrent_safe (h : s.core.Safe cont lone early) (he : s.engine = .preheat ∨ s.engine = .flash) :
    s.evalCurrent.core.Safe cont lone early := by
  unfold State.evalCurrent
  extract_lets s1
  have counted : s1.core = s.core := (State.core_updateBurnOff _).trans s.core_countPower
  have safe : s1.core.Safe cont lone early := counted ▸ h
  have engine : s1.engine = s.engine := congrArg Core.engine counted
  have aborting := s1.core_abortTarget
  split
  · next ht => exact State.evalAbort_safe safe (by rw [← aborting, ht]; rfl) _
  · next ht =>
    split
    · exact State.evalPreheat_safe safe
    · next hp =>
      rw [ht] at aborting
      exact State.evalFlash_safe safe (engine.trans (he.resolve_left fun hq => hp (engine.trans hq))) aborting.symm

theorem State.evalBoost_safe (h : s.core.Safe cont lone early) (he : s.engine = .boost) :
    s.evalBoost.core.Safe cont lone early := by
  unfold State.evalBoost
  split
  · exact h
  · split
    · exact h
    · split
      · exact State.endBoost_safe h he
      · exact h

theorem State.evalUpset_safe (h : s.core.Safe cont lone early) (he : s.engine = .upset) :
    s.evalUpset.core.Safe cont lone early := by
  unfold State.evalUpset
  split
  · exact h
  · next r _ =>
    extract_lets _ _ s1
    have peaked : s1.core = s.core :=
      State.core_onCtx (s := s) (f := fun c => { c with peak := some (max (c.peak.getD 0) s.meas.fm) }) fun _ => rfl
    split
    · exact State.endUpset_safe (peaked ▸ h) ((congrArg Core.engine peaked).trans he)
    · exact peaked ▸ h

theorem State.evalPull_safe (h : s.core.Safe cont lone early) (he : s.engine = .pulling) :
    s.evalPull.core.Safe cont lone early := by
  unfold State.evalPull
  split
  · exact h
  · extract_lets _ s1
    have safe : s1.core.Safe cont lone early := h
    split
    · exact State.endPull_safe (safe.fresh (congrArg Engine.before he)) he
    · exact safe

theorem State.evalUnits_safe (h : s.core.Safe cont lone early) : s.evalUnits.core.Safe cont lone early := by
  have counted := s.core_countPower
  have burned := (State.core_updateBurnOff _).trans counted
  unfold State.evalUnits
  split
  · next he => exact State.evalPull_safe h he
  · next he => exact State.evalCurrent_safe h (.inl he)
  · next he => exact State.evalCurrent_safe h (.inr he)
  · next he => exact State.evalBoost_safe (burned ▸ h) ((congrArg Core.engine burned).trans he)
  · next he => exact State.evalUpset_safe (counted ▸ h) ((congrArg Core.engine counted).trans he)
  · unfold State.evalRelease
    split
    · exact h
    · exact h
  all_goals exact h

theorem State.evaluate_safe (h : s.core.Safe cont lone early) (b : Bool) : (s.evaluate b).core.Safe cont lone early := by
  unfold State.evaluate
  split
  · exact State.evalUnits_safe (State.testConditions_safe h)
  · exact State.testConditions_safe (State.evalUnits_safe h)

end Sys2Proof.Machine

/-! PROOFS. Every step keeps the main contactor and the current phases where they may stand: O57 and O58. -/

namespace Sys2Proof.Machine

variable {cont link lone lone' early : Bool} {s t u : State} {k : Core}

/-! ### The timed events -/

/-- What an event does where it is due keeps the invariant: so does the event. -/
theorem State.event_safe {act : State → State} {due : Bool} (h : s.core.Safe cont lone early)
    (ha : due = true → (act s).core.Safe cont lone early) : (s.event due act).core.Safe cont lone early := by
  unfold State.event
  split
  · next hd =>
    rw [State.core_declare]
    exact ha hd
  · exact h

theorem State.takeWindow_safe (h : s.core.Safe cont lone early) : s.takeWindow.core.Safe cont lone early := by
  have same : s.takeWindow.core = s.core := by
    refine State.core_onCtx fun c => ?_
    dsimp only
    split
    · rfl
    · split
      · rfl
      · rfl
  exact same ▸ h

theorem State.core_handSample (s : State) (p : Int) (i v f : Nat) (b : Bool) : (s.handSample p i v f b).core = s.core := by
  unfold State.handSample
  split
  · rfl
  · extract_lets
    split
    · rfl
    · rfl

theorem State.pulseOnEnds_safe (h : s.core.Safe cont lone early) : s.pulseOnEnds.core.Safe cont lone early := by
  have counted : (s.onCtx fun c =>
      if c.exitMet then { c with extra := countUp c.extra } else { c with counted := c.counted + 1 }).core = s.core :=
    State.core_onCtx fun c => by
      split
      · rfl
      · rfl
  refine State.enterPulseOff_safe ?_
  exact counted ▸ h

theorem State.shortBegins_safe (h : s.core.Safe cont lone early) : s.shortBegins.core.Safe cont lone early := by
  unfold State.shortBegins
  split
  · exact h
  · next k _ =>
    have same : ((s.latch .short s.meas.intervalPos).onCtx fun c =>
        { c.restartRuns with shortCount := countUp c.shortCount, retract := some k }).core = s.core :=
      (State.core_onCtx (f := fun c => { c.restartRuns with shortCount := countUp c.shortCount, retract := some k })
        fun _ => rfl).trans (s.core_latch _ _)
    show ((s.latch .short s.meas.intervalPos).onCtx fun c => _).core.Safe cont lone early
    exact same ▸ h

theorem State.openBegins_safe (h : s.core.Safe cont lone early) : s.openBegins.core.Safe cont lone early := by
  have same : (s.onCtx fun c => { c with openMet := false }).core = s.core := State.core_onCtx fun _ => rfl
  show (s.onCtx fun c => { c with openMet := false }).core.Safe cont lone early
  exact same ▸ h

theorem State.core_shearFails (s : State) : s.shearFails.core = s.core :=
  (State.core_noticeFault _ _ _).trans (State.core_onCtx fun c => c.marks_addReason _)

theorem State.endPull_due (h : s.core.Safe cont lone early) (he : s.engine = .pulling) :
    s.endPull.core.Safe cont lone early := State.endPull_safe (h.fresh (congrArg Engine.before he)) he

/-- The commands that the timers of the weld bring. -/
theorem exec_timedByWeld_safe {i : Instr} (hi : i ∈ timedByWeld) (h : exec i s = .next t) (hs : s.core.Safe cont lone early) :
    t.core.Safe cont lone early := by
  have ends {v : State} (e : v.core.Safe cont lone early) (hv : exec i s = .next v) : t.core.Safe cont lone early := by
    obtain rfl := Host.Outcome.next.inj (hv.symm.trans h)
    exact e
  simp only [timedByWeld, List.mem_cons, List.not_mem_nil, or_false] at hi
  obtain rfl | rfl | rfl | rfl | rfl | rfl | rfl | rfl | rfl | rfl | rfl | rfl | rfl | rfl | rfl | rfl | rfl | rfl | rfl
    | rfl | rfl | rfl | rfl := hi
  · refine ends (State.event_safe (act := State.clampTimedOut) hs fun _ => State.endCause_safe (lone := lone) ?_ _ _) rfl
    exact hs
  · exact ends (State.event_safe hs fun due => State.endPull_due hs (of_decide_eq_true (Bool.and_eq_true_iff.1 due).1)) rfl
  · exact ends (State.event_safe hs fun due => State.endPull_due hs (of_decide_eq_true (Bool.and_eq_true_iff.1 due).1)) rfl
  · exact ends (State.event_safe hs fun _ => State.pulseOnEnds_safe hs) rfl
  · refine ends (State.event_safe (due := s.pulseOffOver && !s.aborting) hs fun due => ?_) rfl
    obtain ⟨hover, ha⟩ := Bool.and_eq_true_iff.1 due
    exact State.endPulseOff_safe hs (s.preheat_of_pulseOffOver hover)
      (s.core_aborting.trans (by simpa using ha))
  · exact ends (State.event_safe hs fun _ => State.shortBegins_safe hs) rfl
  · exact ends (State.event_safe hs fun _ => State.openBegins_safe hs) rfl
  · refine ends (State.event_safe (due := s.abortStillDue) hs fun due => State.enterReleasing_safe ?_) rfl
    obtain ⟨-, hc⟩ := Bool.and_eq_true_iff.1 due
    refine hs.spent_of_aborting (s.core_aborting.trans ?_)
    revert hc
    unfold State.aborting
    cases s.ctx <;> simp +contextual
  · exact ends (State.event_safe hs fun _ => State.takeWindow_safe hs) rfl
  · refine ends (State.event_safe (due := s.boostTimeDue) hs fun due => ?_) rfl
    exact State.endBoost_safe hs (of_decide_eq_true (Bool.and_eq_true_iff.1 due).1)
  · refine ends (State.event_safe (due := s.currentOffDue) hs fun due => ?_) rfl
    obtain ⟨due, -⟩ := Bool.and_eq_true_iff.1 due
    exact State.takeCurrentOff_safe hs (of_decide_eq_true (Bool.and_eq_true_iff.1 due).1)
  · refine ends (State.event_safe (due := s.upsetStallDue) hs fun due => ?_) rfl
    exact State.endUpset_safe hs (of_decide_eq_true (Bool.and_eq_true_iff.1 due).1)
  · refine ends (State.event_safe (due := s.upsetTimeoutDue) hs fun due => ?_) rfl
    exact State.endUpset_safe hs (of_decide_eq_true (Bool.and_eq_true_iff.1 due).1)
  · refine ends (State.event_safe (due := s.holdEndDue) hs fun due => ?_) rfl
    exact State.endHold_safe hs (of_decide_eq_true (Bool.and_eq_true_iff.1 due).1)
  · refine ends (State.event_safe (due := s.shearDue .advancing) hs fun due => ?_) rfl
    obtain ⟨due, -⟩ := Bool.and_eq_true_iff.1 due
    have trim := of_decide_eq_true (Bool.and_eq_true_iff.1 due).1
    have told := s.core_shearFails
    exact State.enterReturning_safe (told ▸ hs) ((congrArg Core.engine told).trans trim)
  · refine ends (State.event_safe (due := s.shearDue .returning) hs fun due => ?_) rfl
    obtain ⟨due, -⟩ := Bool.and_eq_true_iff.1 due
    have trim := of_decide_eq_true (Bool.and_eq_true_iff.1 due).1
    have told := s.core_shearFails
    exact State.endTrim_safe (told ▸ hs) ((congrArg Core.engine told).trans trim)
  · refine ends (State.event_safe (due := s.rampEndDue) (act := State.rampEnds) hs fun due => ?_) rfl
    obtain ⟨due, -⟩ := Bool.and_eq_true_iff.1 due
    exact State.enterOpening_safe (s := s.setForce 0) hs (of_decide_eq_true (Bool.and_eq_true_iff.1 due).1)
  · refine ends (State.event_safe (due := s.clampOpenDue) hs fun due => ?_) rfl
    obtain ⟨due, -⟩ := Bool.and_eq_true_iff.1 due
    exact State.enterWaiting_safe hs (of_decide_eq_true (Bool.and_eq_true_iff.1 due).1)
  · exact ends (State.event_safe hs fun _ => State.settleExpires_safe hs) rfl
  · exact ends (State.event_safe hs fun _ => State.admitTimedOut_safe hs) rfl
  · exact ends (State.event_safe hs fun _ => State.yieldLimited_safe hs) rfl
  · exact ends (State.event_safe hs fun _ => State.minrunExpires_safe hs) rfl
  · exact ends (State.event_safe hs fun _ => State.pauseRestarts_safe hs) rfl

/-! ### What ties the core to the link and the Loader -/

/-- What the invariant reads besides the core. -/
def State.tie (s : State) := (s.link.state, s.link.listen, s.loader)

theorem State.Held.of_tie (h : s.Held cont link) (ht : t.tie = s.tie) (hc : t.core.Safe cont (s.lone link) s.early) :
    t.Held cont link := by
  simp only [State.tie, Prod.mk.injEq] at ht
  obtain ⟨state, listen, loader⟩ := ht
  unfold State.Held State.lone State.early at *
  rw [state, listen, loader]
  exact ⟨hc, h.2⟩

theorem State.Held.core (h : s.Held cont link) (ht : t.tie = s.tie) (hc : t.core = s.core) : t.Held cont link :=
  h.of_tie ht (hc ▸ h.1)

theorem State.tie_of_besidesWeld (h : t.besidesWeld = s.besidesWeld) : t.tie = s.tie := by
  show t.besidesWeld.tie = s.besidesWeld.tie
  rw [h]

theorem State.Held.weld (h : s.Held cont link) (hv : t.besidesWeld = s.besidesWeld)
    (hc : t.core.Safe cont (s.lone link) s.early) : t.Held cont link := h.of_tie (State.tie_of_besidesWeld hv) hc

theorem State.Held.event {act : State → State} (h : s.Held cont link) (ha : (act s).Held cont link) (due : Bool) :
    (s.event due act).Held cont link := by
  unfold State.event
  split
  · exact ha.core (State.tie_of_besidesWeld (State.declare_besidesWeld _)) (State.core_declare _)
  · exact h

/-- The link is heard of in the Loader's time alone after it. -/
theorem State.Held.not_early (h : s.Held cont link) (hl : s.link.state ≠ .listening) : s.early = false :=
  Bool.eq_false_iff.2 fun he => hl (h.2 he).1

/-! ### The link -/

theorem State.Held.loseLink (h : s.Held cont link) (hl : s.link.state = .joined) : s.loseLink.Held cont link := by
  have notEarly : s.early = false := h.not_early (hl ▸ nofun)
  unfold State.loseLink
  generalize hu : ({ s with link := s.link.lose, records := s.records.abandon, trace := s.trace.abandon } : State) = u
  have core : u.core = s.core := hu ▸ rfl
  have early : u.early = false := hu ▸ notEarly
  have safe : (u.endCause .linkLost none).core.Safe cont (u.lone link) u.early :=
    State.endCause_safe (lone := s.lone link) (core ▸ early ▸ notEarly ▸ h.1) _ _
  have tie : (u.endCause .linkLost none).declare.tie = u.tie :=
    State.tie_of_besidesWeld ((State.declare_besidesWeld _).trans (State.endCause_besidesWeld u .linkLost none))
  simp only [State.tie, Prod.mk.injEq] at tie
  obtain ⟨state, listen, loader⟩ := tie
  unfold State.Held State.lone State.early at *
  rw [state, listen, loader, State.core_declare]
  exact ⟨safe, fun he => nomatch early.symm.trans he⟩

theorem State.Held.duplicate (h : s.Held cont link) (hr : s.receives = true) : s.duplicate.Held cont link := by
  unfold State.duplicate
  split
  · next hl => exact h.loseLink hl
  · have loaded : s.loader.finished = true := (Bool.and_eq_true_iff.1 hr).1
    exact ⟨h.1, fun he => by simp [State.early, loaded] at he⟩
  · exact h

theorem State.Held.onRx {f : State → State} (h : s.Held cont link) (hf : (f s).Held cont link) (n : Station) :
    (s.onRx n f).Held cont link := by
  unfold State.onRx
  split
  · exact h
  · next hr =>
    split
    · exact h.duplicate (by simpa using hr)
    · exact hf

theorem State.Held.ifJoined {f : State → State} (h : s.Held cont link) (hf : (f s).Held cont link) :
    (s.ifJoined f).Held cont link := by
  unfold State.ifJoined
  split
  · exact hf
  · exact h

theorem State.Held.ifSharing {f : State → State} (h : s.Held cont link) (hf : (f s).Held cont link) :
    (s.ifSharing f).Held cont link := by
  unfold State.ifSharing
  split
  · exact h
  · exact hf

theorem State.tie_of_besidesPeers (h : t.besidesPeers = s.besidesPeers) : t.tie = s.tie := by
  show t.besidesPeers.tie = s.besidesPeers.tie
  rw [h]

theorem State.tie_of_besidesRating (h : t.besidesRating = s.besidesRating) : t.tie = s.tie := by
  show t.besidesRating.tie = s.besidesRating.tie
  rw [h]

theorem State.tie_of_besidesMeas (h : t.besidesMeas = s.besidesMeas) : t.tie = s.tie := by
  show t.besidesMeas.tie = s.besidesMeas.tie
  rw [h]

theorem State.tie_of_besidesRequest (h : t.besidesRequest = s.besidesRequest) : t.tie = s.tie := by
  show t.besidesRequest.tie = s.besidesRequest.tie
  rw [h]

theorem State.Held.withPeers (h : s.Held cont link) (l : List Peer) : (s.withPeers l).Held cont link :=
  h.of_tie (State.tie_of_besidesPeers (s.withPeers_besidesPeers l)) (State.withPeers_safe h.1 l)

theorem State.Held.budgetEvent (h : s.Held cont link) (before : State) : (s.budgetEvent before).Held cont link :=
  h.of_tie (State.tie_of_besidesRating (s.budgetEvent_besidesRating before)) (State.budgetEvent_safe h.1 before)

theorem State.Held.declare (h : s.Held cont link) : s.declare.Held cont link :=
  h.core (State.tie_of_besidesWeld s.declare_besidesWeld) s.core_declare

theorem State.Held.placeDemand (h : s.Held cont link) : s.placeDemand.Held cont link :=
  h.core (State.tie_of_besidesWeld s.placeDemand_besidesWeld) s.core_placeDemand

/-- With the link JOINED nothing more is asked for. -/
theorem Core.Safe.joined (h : k.Safe cont lone early) : k.Safe cont false early := by
  unfold Core.Safe at *
  cases hk : k.engine <;> rw [hk] at h <;> simp_all

theorem State.Held.join (h : s.Held cont link) (hl : s.link.listen.running = true) : s.join.Held cont link := by
  have notEarly : s.early = false := Bool.eq_false_iff.2 fun he => Bool.noConfusion ((h.2 he).2.symm.trans hl)
  unfold State.join
  extract_lets _ _ s1
  have lone : s1.lone link = false := by
    cases link <;> rfl
  have safe : s1.core.Safe cont (s1.lone link) s1.early := by
    rw [lone, show s1.early = false from notEarly]
    have joined : s.core.Safe cont false false := notEarly ▸ h.1.joined
    show ({ s.core with engine := if s.engine = .starting then .ready else s.engine } : Core).Safe cont false false
    split
    · next he =>
      unfold Core.Safe at joined
      rw [show s.core.engine = .starting from he] at joined
      exact (Core.safe_idle (.inl rfl)).2 ⟨joined.1, joined.2.1, rfl⟩
    · exact joined
  have held : s1.Held cont link := ⟨safe, fun he => nomatch (show s1.early = false from notEarly).symm.trans he⟩
  refine State.Held.placeDemand ?_
  split
  · exact held.budgetEvent s
  · exact held

theorem State.Held.rejoin (h : s.Held cont link) (hl : s.link.state = .lost) : s.rejoin.Held cont link := by
  have notEarly : s.early = false := h.not_early (hl ▸ nofun)
  unfold State.rejoin
  refine State.Held.withPeers (s := { s with link := { s.link with state := .listening, listen := .started, failed := 0 } })
    ⟨?_, fun he => nomatch notEarly.symm.trans he⟩ []
  have lone : s.lone link = State.lone
      { s with link := { s.link with state := .listening, listen := .started, failed := 0 } } link := by
    simp [State.lone, hl]
  exact lone ▸ h.1

theorem State.Held.loadImage (h : s.Held cont link) (hl : s.loader = .reading) (b : List Byte) :
    (s.loadImage b).Held cont link := by
  have early : s.early = true := by rw [State.early, hl]; rfl
  have finished : (loaderReport b).finished = true := by
    unfold loaderReport
    split
    · rfl
    · split
      · rfl
      · rfl
  have safe := h.1
  rw [early] at safe
  have idle : s.engine = .starting ∧ s.core.Still cont ∧ s.core.done = false := by
    unfold Core.Safe at safe
    cases he : s.engine <;> rw [show s.core.engine = s.engine from rfl, he] at safe <;> simp_all [Core.InFlight]
  obtain ⟨starting, still, done⟩ := idle
  unfold State.loadImage
  extract_lets _ s1
  have loaded : s1.early = false := by
    show (!(loaderReport b).finished) = false
    rw [finished]
    rfl
  split
  · refine State.Held.declare ⟨?_, fun he => nomatch loaded.symm.trans he⟩
    show s.core.Safe cont (s1.lone link) s1.early
    rw [loaded]
    unfold Core.Safe
    rw [show s.core.engine = .starting from starting]
    exact ⟨still, done, nofun⟩
  · refine ⟨?_, fun he => nomatch loaded.symm.trans he⟩
    show ({ s.core with engine := .configFault } : Core).Safe cont (s1.lone link) s1.early
    rw [loaded]
    exact (Core.safe_idle (.inr rfl)).2 ⟨still, done, rfl⟩

theorem State.Held.latchStraps (h : s.Held cont link) (g : BitVec 4) : (s.latchStraps g).Held cont link := by
  unfold State.latchStraps
  split
  · next hl =>
    have early : s.early = true := by rw [State.early, hl]; rfl
    have safe := h.1
    rw [early] at safe
    exact ⟨safe, fun _ => h.2 early⟩
  · exact h

theorem State.Held.reset (cont link : Bool) (q : List Instr) :
    State.Held cont link { State.reset with pending := q } :=
  (State.held_iff cont link _).2 ⟨rfl, fun _ hc => absurd hc Bool.false_ne_true, fun _ => Or.inr rfl⟩

/-! ### A WELD REQUEST -/

theorem State.standingFault_none (h : s.standingFault = none) : s.engine = .ready ∧ s.link.state = .joined := by
  unfold State.standingFault at h
  split at h
  · exact nomatch h
  · next busy =>
    split at h
    · exact nomatch h
    · next fault =>
      split at h
      · exact nomatch h
      · next joined =>
        simp [State.isBusy] at busy
        exact ⟨by_contra fun hr => fault (busy.1 hr), not_not.1 joined⟩

theorem State.core_clearBank (s : State) (n : Nat) : (s.clearBank n).core = s.core := by
  unfold State.clearBank
  extract_lets b1 t
  split
  · rfl
  · split
    · split
      · rfl
      · exact State.core_notice _ _
      · exact State.core_notice _ _
      · rfl
    · rfl

theorem State.acceptWeld_safe (h : s.Held cont link) (hs : s.standingFault = none) (q : Request) (p : Programme) :
    (s.acceptWeld q p).core.Safe cont (s.lone link) s.early := by
  obtain ⟨ready, joined⟩ := State.standingFault_none hs
  obtain ⟨⟨-, ask, open'⟩, -, notEarly⟩ := (Core.safe_idle (.inl ready)).1 h.1
  unfold State.acceptWeld
  extract_lets n s1 s2
  have begun : s2.core = { s.core with weld := some ⟨false, false, false⟩ } :=
    (State.core_notice _ _).trans (State.core_clearBank s1 n)
  refine State.enterClamp_safe ?_
  show s2.core.Fresh cont (s.lone link) s.early
  rw [begun]
  exact ⟨⟨rfl, ask, open'⟩, ⟨rfl, notEarly⟩, rfl, by simp [State.lone, joined]⟩

theorem State.Held.nextRequest (h : s.Held cont link) : s.nextRequest.Held cont link := by
  unfold State.nextRequest
  split
  · exact h
  · next run rest _ =>
    extract_lets _ s1
    have held : s1.Held cont link := h
    split
    · exact held
    · next q _ =>
      refine held.of_tie (State.tie_of_besidesRequest (s1.takeRequest_besidesRequest _ _)) ?_
      unfold State.takeRequest
      split
      · rw [State.core_notice]
        exact held.1
      · next hn _ =>
        exact State.acceptWeld_safe held (Option.or_eq_none_iff.1 (Option.or_eq_none_iff.1 hn).2).1 _ _
      · exact held.1

/-! ### Every command -/

theorem State.tie_of_besidesSending (h : t.besidesSending = s.besidesSending) : t.tie = s.tie := by
  show t.besidesSending.tie = s.besidesSending.tie
  rw [h]

theorem State.Held.assembly (h : s.Held cont link) (ht : t.besidesAssembly = s.besidesAssembly) : t.Held cont link := by
  have tie : t.besidesAssembly.tie = s.besidesAssembly.tie := by rw [ht]
  exact h.core tie (show t.besidesAssembly.core = s.besidesAssembly.core by rw [ht])

theorem State.Held.sending (h : s.Held cont link) (ht : t.besidesSending = s.besidesSending) : t.Held cont link :=
  h.core (State.tie_of_besidesSending ht) (show t.besidesSending.core = s.besidesSending.core by rw [ht])

theorem State.Held.capture (h : s.Held cont link) (ht : t.besidesCapture = s.besidesCapture) : t.Held cont link := by
  have tie : t.besidesCapture.tie = s.besidesCapture.tie := by rw [ht]
  exact h.core tie (show t.besidesCapture.core = s.besidesCapture.core by rw [ht])

theorem State.Held.nextProgramme (h : s.Held cont link) : s.nextProgramme.Held cont link := by
  have same := s.nextProgramme_besidesProgrammes
  have tie : s.nextProgramme.besidesProgrammes.tie = s.besidesProgrammes.tie := by rw [same]
  exact h.core tie (show s.nextProgramme.besidesProgrammes.core = s.besidesProgrammes.core by rw [same])

theorem State.Held.takeRating (h : s.Held cont link) (n : Station) (d : List Byte) : (s.takeRating n d).Held cont link := by
  unfold State.takeRating
  split
  · refine State.Held.declare (State.Held.budgetEvent ?_ s)
    exact h
  · exact h

theorem State.Held.takeDemand (h : s.Held cont link) (n : Station) (d : List Byte) : (s.takeDemand n d).Held cont link := by
  unfold State.takeDemand
  split
  · exact (h.withPeers _).declare
  · exact h

theorem State.Held.takeAbort (h : s.Held cont link) (d : List Byte) : (s.takeAbort d).Held cont link := by
  refine h.weld (s.takeAbort_besidesWeld d) ?_
  unfold State.takeAbort
  split
  · rw [State.core_declare]
    exact State.endCause_safe h.1 _ _
  · exact h.1

theorem State.Held.takeClear (h : s.Held cont link) (d : List Byte) : (s.takeClear d).Held cont link := by
  refine h.weld (s.takeClear_besidesWeld d) ?_
  unfold State.takeClear
  split
  · next hc =>
    have held : s.engine = .faultHold := by
      simp only [State.mayClear, Bool.and_eq_true, decide_eq_true_eq] at hc
      exact hc.2.1.1.1
    rw [State.core_declare]
    exact State.enterReleasing_safe (h.1.spent_of_calm (congrArg Engine.calm held))
  · exact h.1

theorem State.Held.ifDecoding {f : State → State} (h : s.Held cont link) (hf : (f s).Held cont link) :
    (s.ifDecoding f).Held cont link := by
  unfold State.ifDecoding
  split
  · exact hf.declare
  · exact h

theorem State.Held.acknowledged (h : s.Held cont link) : s.acknowledged.Held cont link := by
  unfold State.acknowledged
  cases s.link.onBus with
  | none => exact h
  | some f => exact h.sending (s.frameSent_besidesSending f)

theorem State.Held.notAcknowledged (h : s.Held cont link) : s.notAcknowledged.Held cont link := by
  unfold State.notAcknowledged
  split
  · next hl =>
    unfold State.frameFailed
    extract_lets _ s1
    have held : s1.Held cont link := h
    split
    · exact held.loseLink hl.1
    · exact held
  · exact h

theorem State.Held.offer (h : s.Held cont link) (won : Bool) : (s.offer won).Held cont link := by
  unfold State.offer
  split
  · split
    · exact h
    · exact h
  · exact h

theorem State.Held.fetchDone (h : s.Held cont link) : s.fetchDone.Held cont link := by
  unfold State.fetchDone
  split
  · split
    · exact h
    · exact h
  · exact h

theorem State.Held.takeSample (h : s.Held cont link) : s.takeSample.Held cont link := by
  unfold State.takeSample
  extract_lets m
  refine State.Held.core (s := s) h ?_ ?_
  · exact (State.tie_of_besidesWeld (State.handSample_besidesWeld _ _ _ _ _ _)).trans rfl
  · exact (State.core_handSample _ _ _ _ _ _).trans rfl

/-- Every command but an interval. -/
theorem exec_held {i : Instr} (hi : ∀ b r, i ≠ .regulationInterval b r) (h : exec i s = .next t) (hs : s.Held cont link) :
    t.Held cont link := by
  by_cases hm : i ∈ timedByWeld
  · exact hs.weld (exec_timedByWeld hm h) (exec_timedByWeld_safe hm h hs.1)
  cases i
  case regulationInterval b r => exact absurd rfl (hi b r)
  case reset => exact Host.Outcome.next.inj h ▸ State.Held.reset cont link s.pending
  case resetRelease g => exact Host.Outcome.next.inj h ▸ hs.latchStraps g
  case configurationRead b =>
    obtain rfl := Host.Outcome.next.inj h
    split
    · next hl => exact hs.loadImage hl _
    · exact hs
  case listenPeriodEnd =>
    obtain rfl := Host.Outcome.next.inj h
    unfold State.listenEvent State.event
    split
    · next due =>
      obtain ⟨due, -⟩ := Bool.and_eq_true_iff.1 due
      exact (hs.join (Bool.and_eq_true_iff.1 due).2).declare
    · exact hs
  case lostPeriodEnd =>
    obtain rfl := Host.Outcome.next.inj h
    unfold State.lostEvent State.event
    split
    · next due => exact (hs.rejoin (of_decide_eq_true (Bool.and_eq_true_iff.1 due).1)).declare
    · exact hs
  case frameOffer won => exact Host.Outcome.next.inj h ▸ hs.offer won
  case frameAcknowledged => exact Host.Outcome.next.inj h ▸ hs.acknowledged
  case frameNotAcknowledged => exact Host.Outcome.next.inj h ▸ hs.notAcknowledged
  case busOff =>
    obtain rfl := Host.Outcome.next.inj h
    split
    · next hl => exact hs.loseLink hl
    · exact hs
  case duplicateStationFrame =>
    obtain rfl := Host.Outcome.next.inj h
    split
    · next hr => exact hs.duplicate hr
    · exact hs
  case runFirstFrame n d =>
    exact Host.Outcome.next.inj h ▸
      hs.onRx (f := fun v => v.weldFirst n.val d) (hs.assembly (s.weldFirst_besidesAssembly _ d)) n
  case programmeFirstFrame n d =>
    exact Host.Outcome.next.inj h ▸
      hs.onRx (f := fun v => v.progFirst n.val d) (hs.assembly (s.progFirst_besidesAssembly _ d)) n
  case runLaterFrame k n d =>
    exact Host.Outcome.next.inj h ▸
      hs.onRx (f := fun v => v.laterFrame k n.val d) (hs.assembly (s.laterFrame_besidesAssembly k _ d)) n
  case runAssemblySilence n => exact Host.Outcome.next.inj h ▸ hs.event (act := fun v => v.dropRun n.val) hs _
  case programmeSilence => exact Host.Outcome.next.inj h ▸ hs.event (act := State.dropProg) hs _
  case rating n d =>
    exact Host.Outcome.next.inj h ▸
      hs.onRx (f := fun v => v.ifSharing fun u => u.takeRating n d) (hs.ifSharing (hs.takeRating n d)) n
  case demand n d =>
    exact Host.Outcome.next.inj h ▸
      hs.onRx (f := fun v => v.ifSharing fun u => u.takeDemand n d) (hs.ifSharing (hs.takeDemand n d)) n
  case abort n d =>
    exact Host.Outcome.next.inj h ▸
      hs.onRx (f := fun v => v.ifJoined fun u => u.takeAbort d) (hs.ifJoined (hs.takeAbort d)) n
  case clear n d =>
    exact Host.Outcome.next.inj h ▸
      hs.onRx (f := fun v => v.ifJoined fun u => u.takeClear d) (hs.ifJoined (hs.takeClear d)) n
  case weldRequest => exact Host.Outcome.next.inj h ▸ hs.event hs.nextRequest _
  case programme => exact Host.Outcome.next.inj h ▸ hs.event hs.nextProgramme _
  case captureClear n d =>
    exact Host.Outcome.next.inj h ▸ hs.onRx (f := fun v => v.ifJoined fun u => u.takeCaptureClear d)
      (hs.ifJoined (hs.capture (s.takeCaptureClear_besidesCapture d))) n
  case recordQuery n d =>
    exact Host.Outcome.next.inj h ▸ hs.onRx (f := fun v => v.ifJoined fun u => u.takeRecordQuery d)
      (hs.ifJoined (hs.sending (State.besidesSending_of_besidesRecords (s.takeRecordQuery_besidesRecords d)))) n
  case traceQuery n d =>
    exact Host.Outcome.next.inj h ▸ hs.onRx (f := fun v => v.ifJoined fun u => u.takeTraceQuery d)
      (hs.ifJoined (hs.sending (State.besidesSending_of_besidesTrace (s.takeTraceQuery_besidesTrace d)))) n
  case fetchCompletion => exact Host.Outcome.next.inj h ▸ hs.fetchDone
  case tenMsSample => exact Host.Outcome.next.inj h ▸ hs.event hs.takeSample _
  case headStatusPeriod => exact Host.Outcome.next.inj h ▸ hs.event (act := State.placeStatus) hs _
  case demandPeriod => exact Host.Outcome.next.inj h ▸ hs.event hs.placeDemand _
  case encoderEdge b =>
    exact Host.Outcome.next.inj h ▸ hs.ifDecoding (f := fun v => v.countEdge b)
      (hs.of_tie (State.tie_of_besidesMeas (State.MeasuresBesides.countEdge s b).1) (State.countEdge_safe hs.1 b))
  case referenceMark =>
    exact Host.Outcome.next.inj h ▸ hs.ifDecoding
      (hs.of_tie (State.tie_of_besidesMeas (State.MeasuresBesides.passMark s).1) (State.passMark_safe hs.1))
  case quadratureError what =>
    have kept := hs.ifDecoding
      (hs.of_tie (State.tie_of_besidesMeas (State.MeasuresBesides.quadratureError s).1) (State.quadratureError_safe hs.1))
    cases what <;> exact Host.Outcome.next.inj h ▸ kept
  case inputLevelChange x =>
    exact Host.Outcome.next.inj h ▸ hs.event (act := fun v => v.takeLevel x)
      (hs.of_tie (State.tie_of_besidesMeas (State.MeasuresBesides.takeLevel s x).1) (State.takeLevel_safe hs.1 x)) _
  case contactorFeedbackTimeout =>
    exact Host.Outcome.next.inj h ▸ hs.event
      (hs.of_tie (State.tie_of_besidesMeas (State.MeasuresBesides.contactorFault s).1) (State.contactorFault_safe hs.1)) _
  case peerLapse n => exact Host.Outcome.next.inj h ▸ hs.event (act := fun v => v.lapse n.val) (hs.withPeers _) _
  case peerRemoval n => exact Host.Outcome.next.inj h ▸ hs.event (act := fun v => v.removePeer n.val) (hs.withPeers _) _
  case ratingAgeThreshold => exact Host.Outcome.next.inj h ▸ hs.event (act := fun v => v.budgetEvent v) (hs.budgetEvent s) _
  all_goals exact absurd (by simp [timedByWeld]) hm

/-! ### The interval -/

theorem State.Held.tick (h : s.Held cont link) : s.tick.Held cont link := by
  have core : s.tick.core = s.core := by
    have : WeldCtx.marks ∘ (fun c : WeldCtx => c.tick s.engine s.yielded) = WeldCtx.marks := rfl
    simp only [State.core, State.tick, Option.map_map, this]
    rfl
  have running : s.tick.link.listen.running = s.link.listen.running := by
    show s.link.listen.tick.running = _
    unfold Timer.tick
    split
    · next on => exact on.symm
    · rfl
  refine ⟨?_, ?_⟩
  · rw [core]
    exact h.1
  · rw [running]
    exact h.2

theorem State.Held.forwardOutputs (h : s.Held cont link) : s.forwardOutputs.Held cont link := h

theorem State.core_measure (s : State) (r : Readings) : (s.measure r).core = s.core := by
  have taken : (s.takeReadings r).core = s.core := by
    unfold State.takeReadings
    split
    · rfl
    · rfl
  have sampled (v : State) : (v.sampleInputs r.pins).core = v.core := by
    unfold State.sampleInputs
    split
    · rfl
    · rfl
  have compared (v : State) : v.compareContactor.core = v.core := by
    unfold State.compareContactor
    split
    · rfl
    · split
      · rfl
      · rfl
  unfold State.measure
  extract_lets s1 m s2
  have summed : s2.core = s1.core := rfl
  exact (compared _).trans ((sampled s2).trans (summed.trans taken))

theorem State.Held.measure (h : s.Held cont link) (r : Readings) : (s.measure r).Held cont link :=
  h.core (State.tie_of_besidesMeas (State.MeasuresBesides.measure s r).1) (s.core_measure r)

theorem State.Held.evaluate (h : s.Held cont link) (b : Bool) : (s.evaluate b).Held cont link :=
  h.of_tie (State.tie_of_besidesMeas (State.MeasuresBesides.evaluate s b).1) (State.evaluate_safe h.1 b)

theorem exec_due_held (i : Instr) (u v : State) (hi : takenWhenDue i = true) (h : exec i u = .next v)
    (hu : u.Held cont link) : v.Held cont link := by
  refine exec_held (fun b r hr => ?_) h hu
  subst hr
  exact nomatch hi

theorem State.Held.interval (h : s.Held cont link) (b : Bool) (r : Readings) : (s.interval b r).Held cont link := by
  unfold State.interval
  split
  · exact h
  · have due : s.takeDue.Held cont link := State.takeDue_keeps exec_due_held h
    have measured : (s.takeDue.forwardOutputs.tick.measure r).Held cont link := due.forwardOutputs.tick.measure r
    exact (measured.evaluate b).declare

theorem step_held (h : step s = .next t) (hs : s.Held cont link) : t.Held cont link := by
  unfold step at h
  split at h
  · exact Host.Outcome.next.inj h ▸ hs
  · next i rest _ =>
    by_cases hi : ∀ b r, i ≠ .regulationInterval b r
    · exact exec_held hi h hs
    · simp only [ne_eq, not_forall, not_not] at hi
      obtain ⟨b, r, rfl⟩ := hi
      exact Host.Outcome.next.inj h ▸ State.Held.interval (s := { s with pending := rest }) hs b r

theorem State.contactorSafe_iff (s : State) : s.contactorSafe = true ↔ s.Held true false := by
  rw [State.held_iff]
  cases h : s.out.contactor <;> simp [State.contactorSafe, h]

theorem State.phasesLinked_iff (s : State) : s.phasesLinked = true ↔ s.Held false true := by
  rw [State.held_iff]
  simp [State.phasesLinked]

/-- Settles O57. -/
theorem contactorStaysSafe : Obligations.ContactorStaysSafe := by
  intro s t hst hs
  exact t.contactorSafe_iff.2 (step_held hst (s.contactorSafe_iff.1 hs))

/-- Settles O58. -/
theorem currentPhasesStayLinked : Obligations.CurrentPhasesStayLinked := by
  intro s t hst hs
  exact t.phasesLinked_iff.2 (step_held hst (s.phasesLinked_iff.1 hs))

end Sys2Proof.Machine

/-! PROOFS. Reset and start-up, and the messages placed at their periods (O2, O3, O30), and the values of a DEMAND (O13). -/

namespace Sys2Proof.Machine

variable {s t u : State}

/-! ### Events -/

/-- An event that is due, with the state its act leaves. -/
theorem State.event_declaredAs {act : State → State} {due : Bool} (h : due = true) (hu : act s = u) :
    (s.event due act).declaredAs u := by
  rw [State.event_of_due s h act, hu]
  exact u.declare_declaredAs

/-! ### Reset and start-up -/

/-- A binary number as the sum of the weights of its bits. -/
theorem stationOf_val (g : BitVec 4) :
    (stationOf g).val = (if g.getLsbD 0 then 1 else 0) + (if g.getLsbD 1 then 2 else 0) + (if g.getLsbD 2 then 4 else 0)
      + (if g.getLsbD 3 then 8 else 0) := by
  revert g
  decide

/-- The Loader's report on the marker, the sum and the ranges. -/
theorem loaderReport_eq (b : List Byte) :
    (natAt b 0 1 ≠ 166 → loaderReport b = .unreadable)
      ∧ (natAt b 0 1 = 166 → (natAt b 62 2 ≠ imageSum b ∨ imageInRange b = false) → loaderReport b = .wrongSum)
      ∧ (natAt b 0 1 = 166 → natAt b 62 2 = imageSum b → imageInRange b = true → loaderReport b = .good) := by
  refine ⟨fun h => if_pos h, fun h bad => ?_, fun h sum range => ?_⟩
  · rw [loaderReport, if_neg (not_not.2 h), if_pos]
    simpa using bad
  · rw [loaderReport, if_neg (not_not.2 h), if_neg]
    simp [sum, range]

/-- A good image has its bit rate's code in range. -/
theorem bitRate_le_of_good {b : List Byte} (h : loaderReport b = .good) : natAt b 1 1 ≤ 3 := by
  obtain ⟨unreadable, wrong, -⟩ := loaderReport_eq b
  have marker : natAt b 0 1 = 166 := by
    by_contra hm
    exact nomatch (unreadable hm).symm.trans h
  have range : imageInRange b = true := by
    by_contra hr
    exact nomatch (wrong marker (.inr (Bool.eq_false_iff.2 hr))).symm.trans h
  simp only [imageInRange, within, imageOf, Bool.and_eq_true, decide_eq_true_eq, and_assoc] at range
  obtain ⟨-, le, -⟩ := range
  exact of_decide_eq_true le

theorem bitRateInForce_good {code : Nat} (h : code ≤ 3) :
    [125, 250, 500, 1000][code]? = some (bitRateInForce .good code) := by
  interval_cases code <;> rfl

/-- Settles O2: the values of `State.reset`, and the straps as a sum of weights. -/
theorem resetAndReleaseSetTheState : Obligations.ResetAndReleaseSetTheState := by
  refine ⟨fun s => ⟨{ State.reset with pending := s.pending }, rfl, ?_⟩, fun g s => ⟨fun h => ?_, fun h => ?_⟩⟩
  · have inputs (i : Input) : State.reset.level i = false ∧ (State.reset.meas.inputs.get i).established = false
        ∧ State.reset.meas.capture.get i = false := by
      cases i <;> exact ⟨rfl, rfl, rfl⟩
    have banks (b : Bool) : (State.reset.trace.bank b).owner = none ∧ (State.reset.trace.bank b).blocks = []
        ∧ (State.reset.trace.bank b).filling = none ∧ (State.reset.trace.bank b).capturing = false
        ∧ (State.reset.trace.bank b).truncated = false := by
      cases b <;> exact ⟨rfl, rfl, rfl, rfl, rfl⟩
    exact ⟨rfl, rfl, rfl, rfl, rfl, rfl, rfl, rfl, rfl, rfl, rfl, rfl, rfl, rfl, rfl, rfl, rfl, rfl, rfl, rfl,
      rfl, rfl, rfl, rfl, rfl, rfl, rfl, rfl, inputs, rfl, rfl, rfl, rfl, rfl, rfl, rfl, rfl, rfl, rfl,
      rfl, rfl, rfl, banks, rfl, rfl, rfl, rfl, rfl, rfl, rfl, rfl, rfl, rfl, rfl, rfl, rfl, rfl, rfl,
      rfl⟩
  · exact ⟨_, congrArg Host.Outcome.next (if_pos h), rfl, stationOf_val g⟩
  · exact congrArg Host.Outcome.next (if_neg h)

/-- A good image is taken into the state. -/
theorem State.loadImage_good {b : List Byte} (h : loaderReport b = .good) :
    s.loadImage b = State.declare { s with
      loader := .good
      link := { s.link with listen := .started, bitRate := bitRateInForce .good (imageOf b).bitRate }
      image := imageOf b } := by
  unfold State.loadImage
  rw [h]
  rfl

/-- Any other report is CONFIG FAULT, and leaves the image. -/
theorem State.loadImage_fault {b : List Byte} (h : loaderReport b ≠ .good) :
    s.loadImage b = { s with
      loader := loaderReport b
      link := { s.link with listen := .started, bitRate := 250 }
      engine := .configFault } := by
  unfold State.loadImage
  rw [if_neg h]
  simp only [bitRateInForce, if_neg h]

/-- Settles O3: one report of the three, and the listen period started with either. -/
theorem configurationReadReports : Obligations.ConfigurationReadReports := by
  intro image s reading
  obtain ⟨unreadable, wrong, good⟩ := loaderReport_eq image.toList
  have report : (s.loadImage image.toList).loader = loaderReport image.toList := by
    by_cases h : loaderReport image.toList = .good
    · rw [State.loadImage_good h, State.declare_loader, h]
    · rw [State.loadImage_fault h]
  refine ⟨s.loadImage image.toList, congrArg Host.Outcome.next (if_pos reading), ?_⟩
  rw [report]
  by_cases h : loaderReport image.toList = .good
  · have rate := bitRateInForce_good (bitRate_le_of_good h)
    rw [State.loadImage_good h]
    refine ⟨by simp, by simp; rfl, by simp, by simp, by simp, by simp, by simp, unreadable,
      fun hm hs => wrong hm (.inl hs), fun hm hr => wrong hm (.inr hr), good, fun _ => ⟨by simp, by simp, by simp, ?_⟩,
      fun hn => absurd h hn⟩
    rw [rate, State.declare_link_bitRate]
    rfl
  · rw [State.loadImage_fault h]
    exact ⟨rfl, rfl, rfl, rfl, rfl, rfl, rfl, unreadable, fun hm hs => wrong hm (.inl hs), fun hm hr => wrong hm (.inr hr),
      good, fun hg => absurd hg h, fun _ => ⟨rfl, rfl, rfl⟩⟩

/-! ### Messages at their periods -/

/-- Settles O30. -/
theorem periodicMessagesArePlaced : Obligations.PeriodicMessagesArePlaced := by
  refine ⟨fun s due => ⟨s.placeStatus.declare, ?_, ?_⟩, fun s joined sharing due => ⟨s.placeDemand.declare, ?_, ?_⟩⟩
  · exact congrArg Host.Outcome.next (s.event_of_due (decide_eq_true due) _)
  · simp [Link.markStale]
  · have may : s.mayDeclare = true := by simp [State.mayDeclare, joined, sharing]
    exact congrArg Host.Outcome.next (s.event_of_due (by simp [State.demandDue, may, Config.demandPeriodMs, due]) _)
  · have may : s.mayDeclare = true := by simp [State.mayDeclare, joined, sharing]
    obtain ⟨slot, timer, decl⟩ := s.placeDemand_slot may
    have same : s.placeDemand.declare = s.placeDemand := if_pos (by simp)
    rw [same]
    exact ⟨s.placeDemand_declaredAs, slot, timer⟩

/-! ### The values of a DEMAND -/

theorem rankOf_eq (n : Nat) : rankOf n = if n = 0 then none else some (min (n - 1) 2) := by
  cases n <;> rfl

theorem stationKindOf_zero : stationKindOf 0 = .head := rfl

theorem stationKindOf_pos {n : Nat} (h : n ≠ 0) : stationKindOf n = .auxiliary := if_neg h

theorem phaseClassOf_standby {n : Nat} (h : n = 0 ∨ 3 < n) : phaseClassOf n = .standby := by
  obtain rfl | h := h
  · rfl
  · obtain ⟨m, rfl⟩ := Nat.exists_eq_add_of_le' (Nat.succ_le_of_lt h)
    rfl

/-- Settles O13: each field of `Peer.ofDemand` by the byte it is read from. -/
theorem demandValuesAreClamped : Obligations.DemandValuesAreClamped := by
  intro n d
  refine ⟨rfl, rfl, rfl, rfl, fun h => ?_, fun h => ?_, fun h => ?_, fun h => ?_, fun h => ?_, fun h => ?_, fun h => ?_,
    fun h => phaseClassOf_standby h⟩
  · simp [Peer.ofDemand, rankOf_eq, h]
  · simp [Peer.ofDemand, rankOf_eq, h, clampLoad, Config.loadLimit]
  · simp [Peer.ofDemand, h, stationKindOf_zero, clampLoad, Config.loadLimit]
  · simp [Peer.ofDemand, stationKindOf_pos h]
  · simp [Peer.ofDemand, h, phaseClassOf]
  · simp [Peer.ofDemand, h, phaseClassOf]
  · simp [Peer.ofDemand, h, phaseClassOf]

end Sys2Proof.Machine

/-! PROOFS. Sending (O5, O6), the queries of records and traces (O22, O23), and the fetch (O24). -/

namespace Sys2Proof.Machine

variable {s t u : State}

/-! ### Offering a frame -/

theorem State.offer_lost (s : State) : s.offer false = s := by
  simp [State.offer]

theorem State.offer_won (joined : s.link.state = .joined) (free : s.link.onBus = none) :
    s.offer true = s.link.ready.elim s fun x => s.startFrame x.1 x.2 := by
  unfold State.offer
  rw [if_pos (by simp [State.mayOffer, joined, free])]
  cases s.link.ready <;> rfl

/-- A frame other than DEMAND on the bus. -/
theorem State.startFrame_other (s : State) {k : TxKind} (hk : k ≠ .demand) (d : List Byte) :
    s.startFrame k d = { s with link := { s.link with onBus := some ⟨k, s.identOf k, d, false⟩ } } := by
  simp [State.startFrame, hk]

namespace Link

variable {l : Link}

/-- A DEMAND is ready outside the 5 ms after the last one. -/
theorem ready_demand {d : Declaration} (h : l.demandSlot = some d) (gap : 5 ≤ l.demandGap) :
    l.ready = some (.demand, d.bytes) := by
  simp [ready, h, Config.demandGapMs, gap]

/-- No DEMAND is ready. -/
theorem no_demand (h : l.demandSlot = none ∨ l.demandGap < 5) :
    (if Config.demandGapMs ≤ l.demandGap then l.demandSlot.map Declaration.bytes else none) = none := by
  obtain h | h := h
  · simp [h]
  · exact if_neg (Nat.not_le.2 h)

theorem ready_status (h : l.demandSlot = none ∨ l.demandGap < 5) {r : TxRun} {b : List Byte}
    (hr : l.statusSlot = some r) (hb : r.frame = some b) : l.ready = some (.headStatus, b) := by
  simp [ready, no_demand h, hr, hb]

theorem ready_notice (h : l.demandSlot = none ∨ l.demandGap < 5) {n : Notice} {rest : List Notice} {b : List Byte}
    (hr : l.statusSlot = none) (hn : l.notices = n :: rest) (hb : (headFrames n.bytes)[l.noticeNext]? = some b) :
    l.ready = some (.notice, b) := by
  simp [ready, no_demand h, hr, noticeFrame, hn, hb]

theorem ready_record (h : l.demandSlot = none ∨ l.demandGap < 5) {r : TxRun} {b : List Byte} (hr : l.statusSlot = none)
    (hn : l.notices = []) (fresh : startedRun l.traceSlot = false) (hs : l.recordSlot = some r) (hb : r.frame = some b) :
    l.ready = some (.recordData, b) := by
  simp [ready, no_demand h, hr, noticeFrame, hn, fresh, hs, hb]

/-- A TRACE BLOCK run is ready where no RECORD DATA run stands, or where it has started and that has not. -/
theorem ready_trace (h : l.demandSlot = none ∨ l.demandGap < 5) {r : TxRun} {b : List Byte} (hr : l.statusSlot = none)
    (hn : l.notices = []) (fresh : l.recordSlot = none ∨ 0 < r.next ∧ startedRun l.recordSlot = false)
    (hs : l.traceSlot = some r) (hb : r.frame = some b) : l.ready = some (.traceBlock, b) := by
  obtain none | ⟨started, fresh⟩ := fresh
  · simp [ready, no_demand h, hr, noticeFrame, hn, none, startedRun, hs, hb]
  · have on : startedRun (some r) = true := decide_eq_true started
    simp [ready, no_demand h, hr, noticeFrame, hn, fresh, hs, hb, on]

end Link

theorem startedRun_eq_false {r : Option TxRun} (h : ∀ q, r = some q → q.next = 0) : startedRun r = false := by
  cases r with
  | none => rfl
  | some q => simp [startedRun, h q rfl]

/-- Settles O5: the frame ready in each case. -/
theorem frameOfferTakesTheLowestIdentifier : Obligations.FrameOfferTakesTheLowestIdentifier := by
  intro s joined free
  have offer {k : TxKind} {b : List Byte} (hk : k ≠ .demand) (h : s.link.ready = some (k, b)) :
      exec (.frameOffer true) s = .next { s with link := { s.link with onBus := some ⟨k, s.identOf k, b, false⟩ } } := by
    show Host.Outcome.next (s.offer true) = _
    rw [State.offer_won joined free, h]
    exact congrArg Host.Outcome.next (s.startFrame_other hk b)
  refine ⟨congrArg Host.Outcome.next s.offer_lost, fun none => ?_, fun d slot gap => ?_, fun r b quiet slot hb => ?_,
    fun n rest b quiet noStatus slot hb => ?_, fun r b quiet noStatus noNotice fresh slot hb => ?_,
    fun r b quiet noStatus noNotice fresh slot hb => ?_⟩
  · show Host.Outcome.next (s.offer true) = _
    rw [State.offer_won joined free, none]
    rfl
  · show Host.Outcome.next (s.offer true) = _
    rw [State.offer_won joined free, Link.ready_demand slot gap]
    rfl
  · exact offer nofun (Link.ready_status quiet slot hb)
  · exact offer nofun (Link.ready_notice quiet noStatus slot hb)
  · exact offer nofun (Link.ready_record quiet noStatus noNotice (startedRun_eq_false fresh) slot hb)
  · exact offer nofun (Link.ready_trace quiet noStatus noNotice (fresh.imp_right fun h => ⟨h.1, startedRun_eq_false h.2⟩)
      slot hb)

/-! ### The end of a frame -/

theorem TxRun.advance_last {r : TxRun} (h : r.next + 1 = r.frames.length) : r.advance = none :=
  if_neg (by omega)

theorem TxRun.advance_more {r : TxRun} (h : r.next + 1 < r.frames.length) :
    r.advance = some { r with next := r.next + 1 } := if_pos h

/-- The look-up of a closed block of a weld held. -/
theorem State.traceLookup_held {q : TraceQuery} (hq : q.serial ≠ 0)
    (owner : (s.trace.bank (bankOf q.serial)).owner = some q.serial)
    (closed : q.index < (s.trace.bank (bankOf q.serial)).blocks.length) :
    s.traceLookup q = { s with trace := { s.trace with
      readout := .fetching, copy := none
      stream := some ⟨q.serial, bankOf q.serial, q.index, q.follow, q.offset⟩ } } := by
  unfold State.traceLookup
  extract_lets t
  have bank : t.bank = s.trace.bank := rfl
  rw [if_neg hq]
  dsimp only
  rw [bank, if_neg (not_not.2 owner), if_pos closed]
  rfl

/-- The look-up of a block not yet closed. -/
theorem State.traceLookup_open {q : TraceQuery} (hq : q.serial ≠ 0)
    (owner : (s.trace.bank (bankOf q.serial)).owner = some q.serial)
    (ahead : (s.trace.bank (bankOf q.serial)).blocks.length ≤ q.index)
    (on : (s.trace.bank (bankOf q.serial)).capturing = true) (room : s.link.notices.length < 8) :
    s.traceLookup q = { s with
      trace := { s.trace with readout := .idle, copy := none, stream := none }
      link := { s.link with notices := s.link.notices ++ [.notYet q.serial q.index] } } := by
  unfold State.traceLookup
  extract_lets t
  have bank : t.bank = s.trace.bank := rfl
  rw [if_neg hq]
  dsimp only
  rw [bank, if_neg (not_not.2 owner), if_neg (Nat.not_lt.2 ahead), if_pos on]
  exact State.notice_of_room _ _ room

/-- The look-up of a weld not held. -/
theorem State.traceLookup_gone {q : TraceQuery} (hq : q.serial ≠ 0)
    (owner : (s.trace.bank (bankOf q.serial)).owner ≠ some q.serial) (room : s.link.notices.length < 8) :
    s.traceLookup q = { s with
      trace := { s.trace with readout := .idle, copy := none, stream := none }
      link := { s.link with notices := s.link.notices ++ [.traceGone q.serial q.index] } } := by
  unfold State.traceLookup
  extract_lets t
  have bank : t.bank = s.trace.bank := rfl
  rw [if_neg hq]
  dsimp only
  rw [bank, if_pos owner]
  exact State.notice_of_room _ _ room

/-- The next block of a stream: fetched where it is closed. -/
theorem TraceStore.nextBlock_closed {t : TraceStore} {st : Stream} (h : st.index + 1 < (t.bank st.bank1).blocks.length) :
    t.nextBlock st = { t with readout := .fetching, stream := some { st with index := st.index + 1 }, copy := none } :=
  if_pos h

/-- Awaited while capture goes on. -/
theorem TraceStore.nextBlock_open {t : TraceStore} {st : Stream} (h : st.index + 1 = (t.bank st.bank1).blocks.length)
    (on : (t.bank st.bank1).capturing = true) :
    t.nextBlock st = { t with readout := .paused, stream := some { st with index := st.index + 1 }, copy := none } := by
  unfold TraceStore.nextBlock
  rw [if_neg (by dsimp only; omega), if_pos ⟨h, on⟩]

/-- The stream ends otherwise. -/
theorem TraceStore.nextBlock_end {t : TraceStore} {st : Stream} (h : (t.bank st.bank1).blocks.length ≤ st.index + 1)
    (off : (t.bank st.bank1).blocks.length < st.index + 1 ∨ (t.bank st.bank1).capturing = false) :
    t.nextBlock st = { t with readout := .idle, stream := none, copy := none } := by
  unfold TraceStore.nextBlock
  rw [if_neg (Nat.not_lt.2 h), if_neg]
  · rfl
  · rintro ⟨eq, on⟩
    obtain lt | off := off
    · exact absurd eq (Nat.ne_of_gt lt)
    · exact Bool.false_ne_true (off.symm.trans on)

/-- The state after the last frame of a TRACE BLOCK run. -/
theorem State.traceRunSent_gone {st : Stream} (hs : s.trace.stream = some st) (gone : s.trace.gonePending = true)
    (none : s.trace.waiting = none) (room : s.link.notices.length < 8) :
    s.traceRunSent = { s with
      link := { s.link with notices := s.link.notices ++ [.traceGone st.serial st.index] }
      trace := { s.trace with readout := .idle, stream := .none, copy := .none, gonePending := false } } := by
  unfold State.traceRunSent
  rw [hs]
  dsimp only
  rw [if_pos gone,
    State.notice_of_room { s with trace := { s.trace with gonePending := false } } (.traceGone st.serial st.index) room]
  unfold State.takeTraceWaiting
  dsimp only
  rw [none]
  rfl

theorem State.traceRunSent_waiting {st : Stream} {q : TraceQuery} (hs : s.trace.stream = some st)
    (gone : s.trace.gonePending = false) (hq : s.trace.waiting = some q) :
    s.traceRunSent = State.traceLookup { s with trace := { s.trace with waiting := none } } q := by
  unfold State.traceRunSent State.takeTraceWaiting
  rw [hs, gone, hq]
  rfl

theorem State.traceRunSent_follow {st : Stream} (hs : s.trace.stream = some st) (gone : s.trace.gonePending = false)
    (none : s.trace.waiting = none) (follow : st.follow = true) :
    s.traceRunSent = { s with trace := s.trace.nextBlock st } := by
  unfold State.traceRunSent
  rw [hs, gone, none]
  exact if_pos follow

theorem State.traceRunSent_end {st : Stream} (hs : s.trace.stream = some st) (gone : s.trace.gonePending = false)
    (none : s.trace.waiting = none) (follow : st.follow = false) :
    s.traceRunSent = { s with trace := s.trace.stopStream } := by
  unfold State.traceRunSent
  rw [hs, gone, none]
  exact if_neg (Bool.eq_false_iff.1 follow)

/-! The frame acknowledged, by its kind. -/

theorem State.acknowledged_stale {f : TxFrame} (h : s.link.onBus = some f) (stale : f.stale = true) :
    s.acknowledged = { s with link := { s.link with onBus := none, failed := 0 } } := by
  unfold State.acknowledged State.frameSent
  rw [h]
  exact if_pos stale

theorem State.acknowledged_demand {f : TxFrame} (h : s.link.onBus = some f) (fresh : f.stale = false)
    (hk : f.kind = .demand) :
    s.acknowledged = { s with link := { s.link with onBus := none, failed := 0, demandSlot := none } } := by
  unfold State.acknowledged State.frameSent
  rw [h]
  dsimp only [Option.elim]
  rw [fresh, hk]
  rfl

theorem State.acknowledged_headStatus {f : TxFrame} (h : s.link.onBus = some f) (fresh : f.stale = false)
    (hk : f.kind = .headStatus) :
    s.acknowledged = { s with link :=
      { s.link with onBus := none, failed := 0, statusSlot := s.link.statusSlot.bind TxRun.advance } } := by
  unfold State.acknowledged State.frameSent
  rw [h]
  dsimp only [Option.elim]
  rw [fresh, hk]
  rfl

theorem State.acknowledged_notice {f : TxFrame} (h : s.link.onBus = some f) (fresh : f.stale = false)
    (hk : f.kind = .notice) :
    s.acknowledged = { s with link := { s.link with onBus := none, failed := 0 }.noticeSent } := by
  unfold State.acknowledged State.frameSent
  rw [h]
  dsimp only [Option.elim]
  rw [fresh, hk]
  rfl

theorem State.acknowledged_recordData {f : TxFrame} (h : s.link.onBus = some f) (fresh : f.stale = false)
    (hk : f.kind = .recordData) :
    s.acknowledged = State.recordFrameSent { s with link := { s.link with onBus := none, failed := 0 } } := by
  unfold State.acknowledged State.frameSent
  rw [h]
  dsimp only [Option.elim]
  rw [fresh, hk]
  rfl

theorem State.acknowledged_traceBlock {f : TxFrame} (h : s.link.onBus = some f) (fresh : f.stale = false)
    (hk : f.kind = .traceBlock) :
    s.acknowledged = State.traceFrameSent { s with link := { s.link with onBus := none, failed := 0 } } := by
  unfold State.acknowledged State.frameSent
  rw [h]
  dsimp only [Option.elim]
  rw [fresh, hk]
  rfl

/-- The last frame of the oldest notice takes it from the queue. -/
theorem Link.noticeSent_last {l : Link} {n : Notice} {rest : List Notice} (h : l.notices = n :: rest)
    (last : l.noticeNext + 1 = (headFrames n.bytes).length) : l.noticeSent = { l with notices := rest, noticeNext := 0 } := by
  unfold Link.noticeSent
  rw [h]
  exact if_neg (by omega)

theorem State.recordFrameSent_last {r : TxRun} (h : s.link.recordSlot = some r) (last : r.next + 1 = r.frames.length)
    (none : s.records.waiting = none) :
    s.recordFrameSent = { s with
      link := { s.link with recordSlot := .none }, records := { s.records with sending := .none } } := by
  unfold State.recordFrameSent State.recordRunSent
  rw [h]
  dsimp only [Option.bind]
  rw [TxRun.advance_last last]
  dsimp only
  rw [none]

theorem State.traceFrameSent_more {r : TxRun} (h : s.link.traceSlot = some r) (more : r.next + 1 < r.frames.length) :
    s.traceFrameSent = { s with link := { s.link with traceSlot := some { r with next := r.next + 1 } } } := by
  unfold State.traceFrameSent
  rw [h]
  dsimp only [Option.bind]
  rw [TxRun.advance_more more]

theorem State.traceFrameSent_last {r : TxRun} (h : s.link.traceSlot = some r) (last : r.next + 1 = r.frames.length) :
    s.traceFrameSent = State.traceRunSent { s with link := { s.link with traceSlot := none } } := by
  unfold State.traceFrameSent
  rw [h]
  dsimp only [Option.bind]
  rw [TxRun.advance_last last]

/-- Settles O6. -/
theorem frameAcknowledgedLeaves : Obligations.FrameAcknowledgedLeaves := by
  intro s f onBus
  have ends {v : State} (h : s.acknowledged = v) : exec .frameAcknowledged s = .next v := congrArg Host.Outcome.next h
  refine ⟨fun stale => ends (State.acknowledged_stale onBus stale),
    fun fresh hk => ends (State.acknowledged_demand onBus fresh hk), fun r fresh hk slot => ends ?_,
    fun n rest fresh hk queue last => ends ?_, fun r fresh hk slot last none => ends ?_,
    fun r fresh hk slot more => ends ?_, fun r st l b fresh hk slot last stream hl hb => ?_⟩
  · rw [State.acknowledged_headStatus onBus fresh hk, slot]
    rfl
  · rw [State.acknowledged_notice onBus fresh hk,
      Link.noticeSent_last (l := { s.link with onBus := none, failed := 0 }) queue last]
  · rw [State.acknowledged_recordData onBus fresh hk]
    exact State.recordFrameSent_last (s := { s with link := { s.link with onBus := .none, failed := 0 } }) slot last none
  · rw [State.acknowledged_traceBlock onBus fresh hk]
    exact State.traceFrameSent_more (s := { s with link := { s.link with onBus := none, failed := 0 } }) slot more
  · have sent : s.acknowledged = State.traceRunSent { s with link := l } := by
      rw [State.acknowledged_traceBlock onBus fresh hk, hl]
      exact State.traceFrameSent_last (s := { s with link := { s.link with onBus := none, failed := 0 } }) slot last
    have notices : l.notices = s.link.notices := hl ▸ rfl
    subst hb
    refine ⟨fun quiet none => ⟨fun stop => ends ?_, fun follow more => ends ?_, fun follow ahead on => ends ?_,
      fun follow past off => ends ?_⟩, fun gone none room => ends ?_, fun q quiet waits hq =>
        ⟨fun owner closed => ends ?_, fun owner room => ends ?_⟩⟩
    · rw [sent, State.traceRunSent_end (s := { s with link := l }) stream quiet none stop]
      rfl
    · rw [sent, State.traceRunSent_follow (s := { s with link := l }) stream quiet none follow,
        TraceStore.nextBlock_closed more]
    · rw [sent, State.traceRunSent_follow (s := { s with link := l }) stream quiet none follow,
        TraceStore.nextBlock_open ahead on]
    · rw [sent, State.traceRunSent_follow (s := { s with link := l }) stream quiet none follow,
        TraceStore.nextBlock_end past off]
    · rw [sent, State.traceRunSent_gone (s := { s with link := l }) stream gone none (notices ▸ room), ← notices]
    · rw [sent, State.traceRunSent_waiting (s := { s with link := l }) stream quiet waits]
      exact State.traceLookup_held hq owner closed
    · rw [sent, State.traceRunSent_waiting (s := { s with link := l }) stream quiet waits, ← notices]
      exact State.traceLookup_gone hq owner (notices ▸ room)

/-! ### Queries -/

/-- A frame of another station that is received reaches its owner. -/
theorem State.onRx_other {n : Station} {f : State → State} (receives : s.receives = true) (hn : n ≠ s.station) :
    s.onRx n f = f s := by
  unfold State.onRx
  rw [if_neg (by simp [receives]), if_neg hn]

theorem State.ifJoined_joined {f : State → State} (h : s.link.state = .joined) : s.ifJoined f = f s := if_pos h

theorem State.ifSharing_sharing {f : State → State} (h : s.engine ≠ .configFault) : s.ifSharing f = f s := if_neg h

theorem State.targeted_of {d : List Byte} {n : Nat} (len : n ≤ d.length) (target : natAt d 0 1 = s.station.val) :
    s.targeted d n = true := by
  simp [State.targeted, len, target]

/-- Settles O22. -/
theorem recordQueryIsAnswered : Obligations.RecordQueryIsAnswered := by
  intro s n d receives hn joined len target
  have query : exec (.recordQuery n d) s = .next (s.takeRecordQuery d) := by
    show Host.Outcome.next (s.onRx n fun t => t.ifJoined fun u => u.takeRecordQuery d) = _
    rw [State.onRx_other receives hn, State.ifJoined_joined joined]
  have taken : s.takeRecordQuery d = if s.records.sending.isSome then
      { s with records := { s.records with waiting := some (natAt d 1 4) } } else s.recordLookup (natAt d 1 4) :=
    if_pos (State.targeted_of len target)
  rw [query, taken]
  refine ⟨fun busy => ?_, fun idle none room => ?_, fun r idle found => ?_, fun h => ?_⟩
  · rw [if_pos busy]
  · rw [if_neg (by simp [idle])]
    unfold State.recordLookup
    rw [none]
    exact congrArg Host.Outcome.next (s.notice_of_room _ room)
  · rw [if_neg (by simp [idle])]
    unfold State.recordLookup
    rw [found]
  · exact if_pos h

/-- Settles O23. -/
theorem traceQueryIsAnswered : Obligations.TraceQueryIsAnswered := by
  intro s n d receives hn joined len target
  have query : exec (.traceQuery n d) s = .next (s.takeTraceQuery d) := by
    show Host.Outcome.next (s.onRx n fun t => t.ifJoined fun u => u.takeTraceQuery d) = _
    rw [State.onRx_other receives hn, State.ifJoined_joined joined]
  have taken : s.takeTraceQuery d = if s.trace.readout = .sending then
      { s with trace := { s.trace with waiting := some (TraceQuery.parse d) } } else s.traceLookup (TraceQuery.parse d) :=
    if_pos (State.targeted_of len target)
  rw [query, taken]
  refine ⟨fun busy => ?_, fun w idle hw hw0 owner => ?_, fun w idle hw hw0 owner room => ?_⟩
  · rw [if_pos busy]
  · subst hw
    rw [if_neg idle]
    exact ⟨fun closed => congrArg Host.Outcome.next (State.traceLookup_held (q := TraceQuery.parse d) hw0 owner closed),
      fun ahead on room =>
        congrArg Host.Outcome.next (State.traceLookup_open (q := TraceQuery.parse d) hw0 owner ahead on room)⟩
  · subst hw
    rw [if_neg idle]
    exact congrArg Host.Outcome.next (State.traceLookup_gone (q := TraceQuery.parse d) hw0 owner room)

/-- Settles O24. -/
theorem fetchCompletionPlacesTheRun : Obligations.FetchCompletionPlacesTheRun := by
  intro s st b fetching stream block
  refine congrArg Host.Outcome.next ?_
  unfold State.fetchDone
  rw [fetching, stream]
  dsimp only
  rw [block]

end Sys2Proof.Machine

/-! PROOFS. The loss of the link (O7): with the readouts abandoned, an end-class cause leaves the slots empty. -/

namespace Sys2Proof.Machine

variable {s t u : State}

/-! ### An end-class cause leaves an empty DEMAND slot, and an idle readout stage -/

/-- The readout stage of the traces is idle, and has no stream. -/
def TraceStore.Idle (t : TraceStore) : Prop := t.readout = .idle ∧ t.stream = none

theorem TraceStore.wake_of_idle {t : TraceStore} (h : t.Idle) (b : Bool) : t.wake b = t := by
  unfold TraceStore.wake
  rw [h.1, h.2]

theorem TraceStore.Idle.setBank {t : TraceStore} (h : t.Idle) (b : Bool) (k : Bank) : (t.setBank b k).Idle := by
  cases b <;> exact h

theorem TraceStore.Idle.wake {t : TraceStore} (h : t.Idle) (b : Bool) : (t.wake b).Idle := by
  rw [TraceStore.wake_of_idle h]
  exact h

theorem TraceStore.Idle.closeBlock {t : TraceStore} (h : t.Idle) (b e : Bool) : (t.closeBlock b e).Idle := by
  unfold TraceStore.closeBlock
  split
  · exact h
  · refine TraceStore.Idle.wake ?_ b
    exact h.setBank b _

theorem TraceStore.Idle.endCapture {t : TraceStore} (h : t.Idle) (b : Bool) : (t.endCapture b).Idle := by
  unfold TraceStore.endCapture
  split
  · refine TraceStore.Idle.wake ?_ b
    exact (h.closeBlock b true).setBank b _
  · exact h

/-- No DEMAND waits, and no trace is read out. -/
def State.Silent (s : State) : Prop := s.link.demandSlot = none ∧ s.trace.Idle

namespace State.Silent

theorem congr (h : s.Silent) (slot : t.link.demandSlot = s.link.demandSlot) (trace : t.trace = s.trace) : t.Silent := by
  unfold State.Silent at *
  rwa [slot, trace]

theorem noticeFault (h : s.Silent) (x : Reason) (tag : Option Nat) : (s.noticeFault x tag).Silent :=
  h.congr (by simp) (by simp)

theorem settle (h : s.Silent) (v : Verdict) : (s.settle v).Silent := by
  unfold State.settle
  split
  · exact h
  · exact ⟨by simpa using h.1, by simpa using h.2.endCapture _⟩

theorem settleAtRelease (h : s.Silent) : s.settleAtRelease.Silent := by
  unfold State.settleAtRelease
  split
  · exact h
  · split
    · exact h
    · split
      · exact h.settle _
      · refine State.Silent.settle ?_ _
        exact h

theorem completeRelease (h : s.Silent) : s.completeRelease.Silent :=
  State.Silent.settleAtRelease (s := s.setClamps false false) h

theorem enterOpening (h : s.Silent) : s.enterOpening.Silent := by
  unfold State.enterOpening
  extract_lets _ _ s1
  have opened : s1.Silent := h
  split
  · exact opened.completeRelease
  · exact opened

theorem leaveRegulator (h : s.Silent) : s.leaveRegulator.Silent :=
  h.congr (congrArg Link.demandSlot s.leaveRegulator_link) s.leaveRegulator_trace

theorem enterRecord (h : s.Silent) (e : Engine) (i : Nat) : (s.enterRecord e i).Silent := h.congr (by simp) (by simp)

theorem latch (h : s.Silent) (k : LatchKind) (p : Int) : (s.latch k p).Silent := by
  unfold State.latch
  split
  · exact h
  · split
    · refine ⟨h.1, ?_⟩
      dsimp only
      split
      · exact h.2
      · exact h.2
    · exact h

theorem leavePull (h : s.Silent) : s.leavePull.Silent := by
  unfold State.leavePull
  split
  · exact h
  · exact h

theorem enterReleasing (h : s.Silent) : s.enterReleasing.Silent := by
  unfold State.enterReleasing
  extract_lets _ i s1 _ _ _ s2 s3
  have entered : s1.Silent := h.leaveRegulator.enterRecord .releasing i
  have ramping : s3.Silent := entered
  split
  · exact ramping.enterOpening
  · exact ramping

theorem takeCurrentOff (h : s.Silent) : s.takeCurrentOff.Silent := by
  unfold State.takeCurrentOff
  extract_lets s1 _ _ s2
  have off : s2.Silent := h
  exact off.latch _ _

theorem enterUpset (h : s.Silent) (i : Nat) : (s.enterUpset i).Silent := by
  unfold State.enterUpset
  extract_lets s1 _ _ s2
  have entered : s1.Silent := (h.leaveRegulator.enterRecord .upset i).latch _ _
  have begun : s2.Silent := entered
  split
  · exact begun
  · extract_lets s3
    have stroke : s3.Silent := begun
    split
    · exact stroke.takeCurrentOff
    · exact stroke

theorem endBoost (h : s.Silent) : s.endBoost.Silent := by
  unfold State.endBoost
  extract_lets s1
  have timed : s1.Silent := h
  split
  · exact timed
  · exact timed.enterUpset _

theorem startAbort (h : s.Silent) (x : EndCause) : (s.startAbort x).Silent := by
  unfold State.startAbort
  extract_lets _ s1 s2
  have left : s2.Silent := State.Silent.leaveRegulator h
  exact left

theorem endCause (h : s.Silent) (x : EndCause) (tag : Option Nat) : (s.endCause x tag).Silent := by
  unfold State.endCause
  extract_lets s1
  have stored : s1.Silent := State.Silent.noticeFault (s := s.onCtx fun c => c.storeEnding x tag) h _ _
  have early : (s1.earlyEnd x).Silent := by
    unfold State.earlyEnd
    exact State.Silent.enterReleasing (State.Silent.leavePull stored)
  have current : (if s.aborting then s1.onCtx fun c => c.addReason x.reason else s1.startAbort x).Silent := by
    split
    · exact stored
    · exact stored.startAbort x
  split
  · exact h
  · exact h
  · exact h
  · exact h
  · exact h.noticeFault _ _
  · exact early
  · exact early
  · exact early
  · exact current
  · exact current
  · exact State.Silent.endBoost (s := s1.onCtx fun c => (c.addReason x.reason).addReason .forcedUpset) stored
  · exact stored
  · exact stored
  · exact stored

/-- A link that is not JOINED takes no DEMAND. -/
theorem declare (h : s.Silent) (hl : s.link.state ≠ .joined) : s.declare.Silent := by
  unfold State.declare State.placeDemand
  split
  · exact h
  · split
    · next may => exact absurd may (by simp [State.mayDeclare, hl])
    · exact h

end State.Silent

/-! ### The loss of the link -/

/-- What a loss of the link does, whatever the head is doing. -/
structure State.Loses (s t : State) : Prop where
  state : t.link.state = .lost
  lostTimer : t.link.lostTimer = 0
  onBus : t.link.onBus = none
  recordSlot : t.link.recordSlot = none
  traceSlot : t.link.traceSlot = none
  statusSlot : t.link.statusSlot = s.link.statusSlot.map TxRun.restart
  noticeNext : t.link.noticeNext = 0
  sending : t.records.sending = none
  waiting : t.trace.waiting = none
  peers : t.share.peers = s.share.peers
  rating : t.share.rating = s.share.rating
  slots : t.slots = s.slots
  image : t.image = s.image
  silent : t.Silent

/-- The Bus Link's own part of a loss, before the Sequencer takes LINK LOST. -/
def State.unlinked (s : State) : State :=
  { s with link := s.link.lose, records := s.records.abandon, trace := s.trace.abandon }

theorem State.loseLink_eq (s : State) : s.loseLink = (s.unlinked.endCause .linkLost none).declare := rfl

theorem State.unlinked_silent (s : State) : s.unlinked.Silent := ⟨rfl, rfl, rfl⟩

/-- What stays in view of a weld is that of the unlinked state. -/
theorem State.loses_of_besidesWeld (h : t.besidesWeld = s.unlinked.besidesWeld) (ht : t.Silent) : s.Loses t where
  state := congrArg (fun v : State => v.link.state) h
  lostTimer := congrArg (fun v : State => v.link.lostTimer) h
  onBus := by
    have : t.besidesWeld.link.onBus = none := by rw [h]; rfl
    exact Option.map_eq_none_iff.1 this
  recordSlot := congrArg (fun v : State => v.link.recordSlot) h
  traceSlot := congrArg (fun v : State => v.link.traceSlot) h
  statusSlot := congrArg (fun v : State => v.link.statusSlot) h
  noticeNext := congrArg (fun v : State => v.link.noticeNext) h
  sending := congrArg (fun v : State => v.records.sending) h
  waiting := congrArg (fun v : State => v.trace.waiting) h
  peers := have kept := congrArg (fun v : State => v.share.peers) h; kept
  rating := have kept := congrArg (fun v : State => v.share.rating) h; kept
  slots := have kept := congrArg (fun v : State => v.slots) h; kept
  image := have kept := congrArg (fun v : State => v.image) h; kept
  silent := ht

theorem State.loseLink_loses (s : State) : s.Loses s.loseLink := by
  rw [State.loseLink_eq]
  have kept := State.endCause_besidesWeld s.unlinked .linkLost none
  have state : (s.unlinked.endCause .linkLost none).link.state = .lost := congrArg (fun v : State => v.link.state) kept
  exact State.loses_of_besidesWeld ((State.declare_besidesWeld _).trans kept)
    ((s.unlinked_silent.endCause .linkLost none).declare (state ▸ nofun))

/-- In READY a loss of the link leaves the Sequencer. -/
theorem State.loseLink_ready (h : s.engine = .ready) :
    s.loseLink.engine = .ready ∧ s.loseLink.ctx = s.ctx ∧ s.loseLink.out = s.out := by
  have idle : s.unlinked.endCause .linkLost none = s.unlinked := by
    unfold State.endCause
    rw [show s.unlinked.engine = .ready from h]
  rw [State.loseLink_eq, idle]
  exact ⟨by simpa [State.unlinked] using h, by simp [State.unlinked], by simp [State.unlinked]⟩

theorem WeldCtx.mem_addReason (c : WeldCtx) (x : Reason) : x ∈ (c.addReason x).reasons := by
  unfold WeldCtx.addReason
  split
  · assumption
  · simp

theorem WeldCtx.mem_addReason_of_mem {c : WeldCtx} {x : Reason} (h : x ∈ c.reasons) (y : Reason) :
    x ∈ (c.addReason y).reasons := by
  unfold WeldCtx.addReason
  split
  · exact h
  · exact List.mem_append_left _ h

@[simp] theorem WeldCtx.addReason_ending (c : WeldCtx) (x : Reason) : (c.addReason x).ending = c.ending := by
  unfold WeldCtx.addReason
  split <;> rfl

theorem WeldCtx.storeEnding_ending (c : WeldCtx) (x : EndCause) (tag : Option Nat) :
    (c.storeEnding x tag).ending = some (c.ending.getD x) := by
  unfold WeldCtx.storeEnding
  cases h : c.ending <;> simp [h]

/-- A late abort: the cause and LATE ABORT are added to the reasons. -/
theorem State.endCause_hold (h : s.engine = .hold) (x : EndCause) (tag : Option Nat) :
    s.endCause x tag = ((s.onCtx fun c => c.storeEnding x tag).noticeFault x.reason tag).onCtx fun c =>
      (c.addReason x.reason).addReason .lateAbort := by
  unfold State.endCause
  rw [h]

theorem State.loseLink_hold {c : WeldCtx} (h : s.engine = .hold) (hc : s.ctx = some c) :
    s.loseLink.engine = .hold ∧ s.loseLink.out = s.out
      ∧ s.loseLink.ctx = some (((c.storeEnding .linkLost none).addReason .linkLost).addReason .lateAbort) := by
  rw [State.loseLink_eq, State.endCause_hold (s := s.unlinked) h]
  refine ⟨by simpa [State.unlinked] using h, by simp [State.unlinked], ?_⟩
  simp [State.unlinked, hc]
  rfl

/-- Settles O7. -/
theorem linkIsLost : Obligations.LinkIsLost := by
  intro s f
  refine ⟨fun joined onBus few => ?_, fun listening receives => ?_, fun lost => ?_, fun i joined how => ?_⟩
  · have failed : s.notAcknowledged = { s with link := { s.link with onBus := none, failed := s.link.failed + 1 } } := by
      unfold State.notAcknowledged State.frameFailed
      rw [if_pos ⟨joined, by simp [onBus]⟩]
      exact if_neg (Nat.not_le.2 few)
    exact congrArg Host.Outcome.next failed
  · have restarted : s.duplicate = { s with link := { s.link with listen := ⟨true, 0⟩ } } := by
      unfold State.duplicate
      rw [listening]
      rfl
    exact congrArg Host.Outcome.next ((if_pos receives).trans restarted)
  · have same : s.duplicate = s := by
      unfold State.duplicate
      rw [lost]
    refine congrArg Host.Outcome.next ?_
    split
    · exact same
    · rfl
  · have lost : ∃ l : Link, exec i s = .next ({ s with link := l } : State).loseLink ∧ l.statusSlot = s.link.statusSlot := by
      obtain rfl | ⟨rfl, receives⟩ | ⟨rfl, onBus, failed⟩ := how
      · exact ⟨s.link, congrArg Host.Outcome.next (if_pos joined), rfl⟩
      · refine ⟨s.link, congrArg Host.Outcome.next ((if_pos receives).trans ?_), rfl⟩
        unfold State.duplicate
        rw [joined]
      · refine ⟨{ s.link with onBus := none, failed := s.link.failed + 1 }, congrArg Host.Outcome.next ?_, rfl⟩
        unfold State.notAcknowledged State.frameFailed
        rw [if_pos ⟨joined, by simp [onBus]⟩]
        exact if_pos (by simp [failed, Config.failedLimit])
    obtain ⟨l, step, slot⟩ := lost
    have loses := ({ s with link := l } : State).loseLink_loses
    have status := loses.statusSlot
    dsimp only at status
    rw [slot] at status
    obtain ⟨demand, readout, stream⟩ := loses.silent
    refine ⟨_, step, loses.state, loses.lostTimer, loses.onBus, demand, loses.recordSlot, loses.traceSlot, status,
      loses.noticeNext, loses.sending, readout, stream, loses.waiting, loses.peers, loses.rating, loses.slots, loses.image,
      fun ready => State.loseLink_ready (s := { s with link := l }) ready, fun c hold hc => ?_⟩
    obtain ⟨engine, out, ctx⟩ := State.loseLink_hold (s := { s with link := l }) hold hc
    refine ⟨engine, out, _, ctx, WeldCtx.mem_addReason_of_mem (WeldCtx.mem_addReason _ _) _, WeldCtx.mem_addReason _ _, ?_⟩
    rw [WeldCtx.addReason_ending, WeldCtx.addReason_ending, WeldCtx.storeEnding_ending]

end Sys2Proof.Machine

/-! PROOFS. Received identifiers, and the assembly of runs (O8, O9). -/

namespace Sys2Proof.Machine

variable {s t u : State}

/-! ### Identifiers -/

theorem senderOf_eq {ident : Nat} {n : Station} (h : ident % 16 = n.val) : senderOf ident = n := Fin.ext h

/-- An identifier of a kind code and a sender. -/
theorem ident_parts {ident k : Nat} {n : Station} (h : ident = 16 * k + n.val) : senderOf ident = n ∧ ident / 16 = k := by
  have := n.isLt
  exact ⟨senderOf_eq (by omega), by omega⟩

theorem BusFrame.command_own {f : BusFrame} {own : Station} (h : f.ident % 16 = own.val) :
    f.command own = some .duplicateStationFrame := if_pos (senderOf_eq h)

theorem BusFrame.command_ignored {f : BusFrame} {own : Station} (h : f.ident % 16 ≠ own.val) (hi : f.ignored = true) :
    f.command own = none := by
  unfold BusFrame.command
  rw [if_neg (fun hs => h (congrArg Fin.val hs)), if_pos hi]

/-- What a frame of another station that is not ignored is, by its kind code. -/
theorem BusFrame.command_other {f : BusFrame} {own n : Station} {k : Nat} (hn : n ≠ own) (he : f.extended = false)
    (hr : f.remote = false) (hid : f.ident = 16 * k + n.val) (hk : 1 ≤ k ∧ k ≤ 13) :
    f.command own =
      (let first := decide (192 ≤ natAt f.data 0 1)
      match k with
      | 1 => some (.rating n f.data)
      | 2 => some (.demand n f.data)
      | 3 => some (.abort n f.data)
      | 4 => some (if first then .runFirstFrame n f.data else .runLaterFrame .weldRequest n f.data)
      | 5 => some (.clear n f.data)
      | 8 => some (if first then .programmeFirstFrame n f.data else .runLaterFrame .programme n f.data)
      | 9 => some (.captureClear n f.data)
      | 10 => some (.recordQuery n f.data)
      | 12 => some (.traceQuery n f.data)
      | _ => none) := by
  obtain ⟨sender, kind⟩ := ident_parts hid
  have := n.isLt
  have heard : f.ignored = false := by
    simp only [BusFrame.ignored, he, hr, Bool.false_or, Bool.or_eq_false_iff, decide_eq_false_iff_not]
    omega
  unfold BusFrame.command
  rw [sender, if_neg hn, heard, kind]
  obtain ⟨low, high⟩ := hk
  interval_cases k <;> rfl

/-- A first frame of a run, by its byte 0. -/
theorem ite_first {α : Type} {d : List Byte} {a b : α} (h : 192 ≤ natAt d 0 1) :
    (if decide (192 ≤ natAt d 0 1) then a else b) = a := if_pos (decide_eq_true h)

theorem ite_later {α : Type} {d : List Byte} {a b : α} (h : natAt d 0 1 < 192) :
    (if decide (192 ≤ natAt d 0 1) then a else b) = b := if_neg (by simpa using h)

/-! ### Bytes -/

theorem natAt_zero_one (b : Byte) (d : List Byte) : natAt (b :: d) 0 1 = b.toNat := by
  simp [natAt, bytesAt, natOfBytes]

theorem natAt_one_one (a b : Byte) (d : List Byte) : natAt (a :: b :: d) 1 1 = b.toNat := by
  simp [natAt, bytesAt, natOfBytes]

/-! ### WELD REQUEST runs -/

theorem State.acceptsFirst_iff (s : State) (b tgt : Byte) (rest : List Byte) :
    s.acceptsFirst (b :: tgt :: rest) = true ↔ tgt.toNat = s.station.val ∧ 193 ≤ b.toNat ∧ b.toNat ≤ 240 := by
  simp [State.acceptsFirst, natAt_zero_one, natAt_one_one, and_assoc]

/-- A first frame of two for this head starts its sender's assembly anew. -/
theorem State.weldFirst_accepted {tgt : Byte} (h : tgt.toNat = s.station.val) (n : Nat) (rest : List Byte) :
    s.weldFirst n (194#8 :: tgt :: rest) = { s with link := { s.link with weldRuns :=
      (s.link.weldRuns.filter fun a => decide (a.sender ≠ n)) ++ [⟨n, 2, 1, rest, 0, false⟩] } } := by
  have accepts : s.acceptsFirst (194#8 :: tgt :: rest) = true := (s.acceptsFirst_iff _ _ _).2 ⟨h, by decide, by decide⟩
  unfold State.weldFirst
  rw [if_pos (by simp [accepts, natAt_zero_one])]
  rfl

theorem State.laterFrame_weldRequest {b : Byte} (h : b.toNat < 192) (n : Nat) (rest : List Byte) :
    s.laterFrame .weldRequest n (b :: rest) = s.weldLater n (b :: rest) := by
  unfold State.laterFrame
  rw [natAt_zero_one, if_neg (by simpa using h)]

theorem State.laterFrame_programme {b : Byte} (h : b.toNat < 192) (n : Nat) (rest : List Byte) :
    s.laterFrame .programme n (b :: rest) = s.progLater n (b :: rest) := by
  unfold State.laterFrame
  rw [natAt_zero_one, if_neg (by simpa using h)]

/-- The refusal a run carries, by the check it fails where the link is not JOINED. -/
theorem State.weldRun_listening (h : s.link.state = .listening) (payload : List Byte) :
    (s.weldRun payload).refusal = s.standingFault := by
  simp [State.weldRun, h]

/-- Settles O8. -/
theorem weldRequestRunIsAssembled : Obligations.WeldRequestRunIsAssembled := by
  refine ⟨fun f own => ⟨BusFrame.command_own, fun other ignored => ?_, fun n hn he hr => ?_⟩,
    fun s n tgt rest receives hn => ⟨fun here => ?_, fun a runs sender len got here => ?_, rfl, fun joined => by simp [joined],
      fun listening => ?_, fun a runs sender got => ?_, fun a mem sender silent => ?_⟩⟩
  · refine BusFrame.command_ignored other ?_
    simpa [BusFrame.ignored, or_assoc] using ignored
  · have command {k : Nat} (hk : 1 ≤ k ∧ k ≤ 13) (hid : f.ident = 16 * k + n.val) := f.command_other hn he hr hid hk
    refine ⟨fun h => command (k := 1) (by decide) h, fun h => command (k := 2) (by decide) h,
      fun h => command (k := 3) (by decide) h, fun h first => (command (k := 4) (by decide) h).trans ?_,
      fun h later => (command (k := 4) (by decide) h).trans ?_, fun h => command (k := 5) (by decide) h,
      fun h first => (command (k := 8) (by decide) h).trans ?_, fun h later => (command (k := 8) (by decide) h).trans ?_,
      fun h => command (k := 9) (by decide) h, fun h => command (k := 10) (by decide) h,
      fun h => command (k := 12) (by decide) h, fun h => ?_⟩
    · exact congrArg some (ite_first first)
    · exact congrArg some (ite_later later)
    · exact congrArg some (ite_first first)
    · exact congrArg some (ite_later later)
    · simp only [List.mem_cons, List.not_mem_nil, or_false] at h
      obtain h | h | h | h := h
      · exact command (k := 6) (by decide) h
      · exact command (k := 7) (by decide) h
      · exact command (k := 11) (by decide) h
      · exact command (k := 13) (by decide) h
  · refine ⟨_, congrArg Host.Outcome.next ((State.onRx_other receives hn).trans (State.weldFirst_accepted here _ _)), rfl, ?_, ?_⟩
    · simp
    · simp
  · have next : a.take (1#8 :: rest) = some { a with got := a.got + 1, payload := a.payload ++ rest, silence := 0 } :=
      Assembly.take_next (by rw [natAt_zero_one, got]; rfl) here
    refine congrArg Host.Outcome.next ((State.onRx_other receives hn).trans
      ((State.laterFrame_weldRequest (by decide) _ _).trans ?_))
    unfold State.weldLater
    rw [runs, List.find?_cons_of_pos (by simp [sender])]
    dsimp only
    rw [next]
    dsimp only
    rw [if_pos (by simp [Assembly.complete, len, got])]
    simp [sender]
  · rw [State.weldRun_listening listening]
    unfold State.standingFault State.isBusy
    refine ⟨fun ready held => ?_, fun full => ?_, fun room held => ?_, fun room ready => ?_⟩
    · simp [ready, held]
    · simp [full]
    · simp [held, Nat.not_lt.2 room]
    · simp [ready, Nat.not_lt.2 room, listening]
  · have other : a.take (2#8 :: rest) = none :=
      Assembly.take_out_of_place (by rw [natAt_zero_one, got]; decide)
    refine congrArg Host.Outcome.next ((State.onRx_other receives hn).trans
      ((State.laterFrame_weldRequest (by decide) _ _).trans ?_))
    unfold State.weldLater
    rw [runs, List.find?_cons_of_pos (by simp [sender])]
    dsimp only
    rw [other]
    simp [sender]
  · refine ⟨_, rfl, State.event_declaredAs ?_ rfl⟩
    exact List.any_eq_true.2 ⟨a, mem, by simp [sender, Config.runSilenceMs, silent]⟩

/-! ### PROGRAMME runs -/

theorem State.settleProg_complete {a : Assembly} (h : a.length ≤ a.got) :
    s.settleProg a = { s with link := { s.link with
      progRun := none
      progReady := if s.link.state = .joined then s.link.progReady ++ [⟨a.got, a.payload⟩] else s.link.progReady } } :=
  if_pos (decide_eq_true h)

theorem State.settleProg_partial {a : Assembly} (h : a.got < a.length) :
    s.settleProg a = { s with link := { s.link with progRun := some a } } :=
  if_neg (by simpa [Assembly.complete] using h)

/-- A later frame of the sender whose run the buffer holds. -/
theorem State.progLater_own {a : Assembly} {n : Nat} {d : List Byte} (h : s.link.progRun = some a) (hn : a.sender = n) :
    s.progLater n d = (a.take d).elim { s with link := { s.link with progRun := none } } s.settleProg := by
  unfold State.progLater
  rw [h]
  dsimp only
  rw [if_pos hn]
  cases a.take d <;> rfl

/-- A later frame of any other sender. -/
theorem State.progLater_other {n : Nat} {d : List Byte} (h : s.link.progRun = none ∨ ∃ a, s.link.progRun = some a ∧ a.sender ≠ n) :
    s.progLater n d = s := by
  unfold State.progLater
  obtain h | ⟨a, h, hn⟩ := h
  · rw [h]
  · rw [h]
    exact if_neg hn

/-- A first frame that starts no run of this head passes its sender's run over. -/
theorem State.progFirst_passed {d : List Byte} (n : Nat) (ha : s.acceptsFirst d = false) :
    s.progFirst n d = { s with link := { s.link with
      progRun := s.link.progRun.map fun a => if a.sender = n then a.passedOver s.station.val d else a } } :=
  if_neg (by simp [ha])

/-- It leaves a buffer that holds no run of its sender. -/
theorem State.progFirst_unheard {n : Nat} {d : List Byte}
    (h : s.link.progRun = none ∨ ∃ a, s.link.progRun = some a ∧ a.sender ≠ n) (ha : s.acceptsFirst d = false) :
    s.progFirst n d = s := by
  have same : (s.link.progRun.map fun a => if a.sender = n then a.passedOver s.station.val d else a) = s.link.progRun := by
    obtain h | ⟨a, h, hn⟩ := h
    · simp [h]
    · simp [h, hn]
  rw [State.progFirst_passed n ha, same]

theorem State.progFirst_own {n : Nat} {a : Assembly} {d : List Byte} (h : s.link.progRun = some a) (hn : a.sender = n)
    (ha : s.acceptsFirst d = false) :
    s.progFirst n d = { s with link := { s.link with progRun := some (a.passedOver s.station.val d) } } := by
  rw [State.progFirst_passed n ha, h]
  simp [hn]

/-- An accepted first frame takes a FREE buffer, and its own. -/
theorem State.progFirst_taken {n : Nat} {d : List Byte} (ha : s.acceptsFirst d = true)
    (h : s.link.progRun = none ∨ ∃ a, s.link.progRun = some a ∧ a.sender = n) :
    s.progFirst n d = s.settleProg (Assembly.start n (natAt d 0 1 - 192) d) := by
  unfold State.progFirst
  rw [if_pos ha]
  obtain h | ⟨a, h, hn⟩ := h
  · simp [h]
  · simp [h, hn]

/-- It is dropped where the buffer holds another sender's run. -/
theorem State.progFirst_dropped {n : Nat} {a : Assembly} {d : List Byte} (ha : s.acceptsFirst d = true)
    (h : s.link.progRun = some a) (hn : a.sender ≠ n) : s.progFirst n d = s := by
  unfold State.progFirst
  rw [if_pos ha, h]
  exact if_neg (by simp [hn])

theorem Assembly.passedOver_here {a : Assembly} {own : Nat} {b0 tgt : Byte} {rest : List Byte} (h : tgt.toNat = own) :
    a.passedOver own (b0 :: tgt :: rest) = { a with silence := 0 } := by
  simp [Assembly.passedOver, natAt_one_one, h, Assembly.heard]

theorem Assembly.passedOver_elsewhere {a : Assembly} {own : Nat} {b0 tgt : Byte} {rest : List Byte} (h : tgt.toNat ≠ own) :
    a.passedOver own (b0 :: tgt :: rest) = { a with silence := 0, elsewhere := true } := by
  simp [Assembly.passedOver, natAt_one_one, h, Assembly.heard]

theorem State.acceptsFirst_eq_false {b0 tgt : Byte} {rest : List Byte}
    (h : tgt.toNat ≠ s.station.val ∨ b0.toNat < 193 ∨ 240 < b0.toNat) : s.acceptsFirst (b0 :: tgt :: rest) = false := by
  rw [Bool.eq_false_iff, ne_eq, State.acceptsFirst_iff]
  omega

/-- Settles O9. -/
theorem programmeBufferHoldsOneRun : Obligations.ProgrammeBufferHoldsOneRun := by
  intro s n b0 tgt rest ready receives hn hready
  have first {v : State} (h : s.progFirst n.val (b0 :: tgt :: rest) = v) :
      exec (.programmeFirstFrame n (b0 :: tgt :: rest)) s = .next v :=
    congrArg Host.Outcome.next ((State.onRx_other receives hn).trans h)
  have later {v : State} (hb : b0.toNat < 192) (h : s.progLater n.val (b0 :: rest) = v) :
      exec (.runLaterFrame .programme n (b0 :: rest)) s = .next v :=
    congrArg Host.Outcome.next ((State.onRx_other receives hn).trans ((State.laterFrame_programme hb _ _).trans h))
  have index : natAt (b0 :: rest) 0 1 = b0.toNat := natAt_zero_one _ _
  refine ⟨fun k here hk low high free => ?_, fun a here held other => first ?_, fun a here out held own => first ?_,
    fun free out => first (State.progFirst_unheard free (State.acceptsFirst_eq_false out)), fun a held own hereby hb next =>
      ⟨fun more => later hb ?_, fun last => later hb ?_⟩, fun a held own hb wrong => later hb ?_, fun free => ?_,
    fun a there held own => first ?_, fun a held own there more hb next => later hb ?_, fun a held silent =>
      ⟨_, rfl, State.event_declaredAs (by simp [State.progSilent, held, Config.runSilenceMs, silent]) rfl⟩⟩
  · have accepts : s.acceptsFirst (b0 :: tgt :: rest) = true := (s.acceptsFirst_iff _ _ _).2 ⟨here, by omega, by omega⟩
    have start : Assembly.start n.val (natAt (b0 :: tgt :: rest) 0 1 - 192) (b0 :: tgt :: rest)
        = ⟨n.val, k, 1, rest, 0, false⟩ := by
      rw [natAt_zero_one, hk, Nat.add_sub_cancel_left]
      rfl
    have taken := State.progFirst_taken accepts free
    rw [start] at taken
    refine ⟨fun many => first (taken.trans (State.settleProg_partial (a := ⟨n.val, k, 1, rest, 0, false⟩) many)),
      fun one => first (taken.trans ?_)⟩
    rw [State.settleProg_complete (a := ⟨n.val, k, 1, rest, 0, false⟩) (Nat.le_of_eq one), ← hready]
  · cases ha : s.acceptsFirst (b0 :: tgt :: rest)
    · exact State.progFirst_unheard (.inr ⟨a, held, other⟩) ha
    · exact State.progFirst_dropped ha held other
  · rw [State.progFirst_own held own (State.acceptsFirst_eq_false (.inr out)), Assembly.passedOver_here here]
  · rw [State.progLater_own held own, Assembly.take_next (index ▸ next) hereby]
    exact State.settleProg_partial (a := { a with got := a.got + 1, payload := a.payload ++ rest, silence := 0 }) more
  · rw [State.progLater_own held own, Assembly.take_next (index ▸ next) hereby, hready]
    exact State.settleProg_complete (a := { a with got := a.got + 1, payload := a.payload ++ rest, silence := 0 }) last
  · rw [State.progLater_own held own, Assembly.take_out_of_place (index ▸ wrong)]
    rfl
  · refine congrArg Host.Outcome.next ((State.onRx_other receives hn).trans ?_)
    show s.laterFrame .programme n.val (b0 :: rest) = s
    unfold State.laterFrame
    split
    · rfl
    · exact State.progLater_other free
  · rw [State.progFirst_own held own (State.acceptsFirst_eq_false (.inl there)), Assembly.passedOver_elsewhere there]
  · rw [State.progLater_own held own, Assembly.take_elsewhere (index ▸ next) there]
    exact State.settleProg_partial (a := a.heard) more

end Sys2Proof.Machine

/-! PROOFS. The stop of the head (R13, R21): what it leaves whatever the head was doing, and EMERGENCY in BOOST (O33). -/

namespace Sys2Proof.Machine

section
variable {s t u : State}

/-! ### The state besides the weld context, the stores and the Bus Link -/

/-- The state without the weld context, the stores and the Bus Link: the engine, the outputs and the units. -/
def State.plant (s : State) : State :=
  { s with ctx := none, records := .reset, trace := .reset, link := .reset }

theorem State.plant_notice (n : Notice) : (s.notice n).plant = s.plant := by
  unfold State.notice
  split <;> rfl

theorem State.plant_noticeFault (x : Reason) (tag : Option Nat) : (s.noticeFault x tag).plant = s.plant := by
  unfold State.noticeFault
  split
  · rfl
  · exact State.plant_notice _

theorem State.plant_leavePull : s.leavePull.plant = s.plant := by
  unfold State.leavePull
  split <;> rfl

theorem State.plant_leaveRegulator : s.leaveRegulator.plant = { s.plant with mode := .idle } := by
  unfold State.leaveRegulator State.closeEpisode
  split <;> rfl

theorem State.plant_stopPower (s : State) : s.stopPower.plant = s.plant := rfl

theorem State.plant_settle (v : Verdict) : (s.settle v).plant = s.plant := by
  unfold State.settle
  split
  · rfl
  · exact State.plant_notice _

theorem State.plant_settleAtStop (x : StopCause) : (s.settleAtStop x).plant = s.plant := by
  unfold State.settleAtStop
  split
  · rfl
  · split
    · rfl
    · split
      · exact State.plant_settle _
      · exact State.plant_settle _

theorem State.plant_engine (v : State) (f : WeldCtx → WeldCtx) (e : Engine) :
    State.plant { v.onCtx f with engine := e } = { v.plant with engine := e } := rfl

/-! ### The fixing of an outcome -/

theorem State.settle_ctx (v : Verdict) : (s.settle v).ctx = s.ctx.map fun c => { c with outcome := some v } := by
  unfold State.settle
  split
  · simp [*]
  · simp [*]

theorem State.settle_records (v : Verdict) :
    (s.settle v).records = s.ctx.elim s.records fun c =>
      s.records.insert (c.record v ((s.trace.endCapture (bankOf c.serial)).reference (bankOf c.serial))) := by
  unfold State.settle
  split
  · simp [*]
  · simp [*]

/-- The timers and the shear step of the Stress and the Upset Unit at a stop. -/
theorem State.plant_units {v : State} (h : v.plant = { s.plant with mode := .idle }) :
    State.plant { v with
      stress := { v.stress with
        clampTimer := v.stress.clampTimer.stop, release := none, releaseTimer := v.stress.releaseTimer.stop }
      upset := { v.upset with currentTimer := v.upset.currentTimer.stop, shear := none } } =
    { s.plant with
      mode := .idle
      stress := { s.stress with
        clampTimer := s.stress.clampTimer.stop, release := none, releaseTimer := s.stress.releaseTimer.stop }
      upset := { s.upset with currentTimer := s.upset.currentTimer.stop, shear := none } } := by
  have stress : v.stress = s.stress := by
    have kept := congrArg (fun v : State => v.stress) h
    exact kept
  have shear : v.upset = s.upset := by
    have kept := congrArg (fun v : State => v.upset) h
    exact kept
  unfold State.plant at h ⊢
  rw [State.mk.injEq] at h ⊢
  simp_all

/-! ### What a stop leaves, whatever the head was doing (R13) -/

theorem State.plant_unitsAtStop :
    s.unitsAtStop.plant = { s.plant with
      mode := .idle
      stress := { s.stress with
        clampTimer := s.stress.clampTimer.stop, release := none, releaseTimer := s.stress.releaseTimer.stop }
      upset := { s.upset with currentTimer := s.upset.currentTimer.stop, shear := none } } := by
  unfold State.unitsAtStop
  extract_lets s1 s2 s3 s4
  have pulled : s1.plant = s.plant := State.plant_leavePull
  have boosted : s2.plant = s.plant := by
    rw [← pulled]
    unfold s2
    split <;> rfl
  have upset : s3.plant = s.plant := by
    rw [← boosted]
    unfold s3
    split <;> rfl
  have left : s4.plant = { s.plant with mode := .idle } := by
    rw [← upset]
    exact (State.plant_stopPower _).trans State.plant_leaveRegulator
  clear_value s4
  exact State.plant_units left

/-- The lines and the force-limit command of a stopped head (R13). -/
def State.stoppedOut (s : State) : Outputs :=
  { s.out with contactor := false, velocity := 0, force := s.wireForce, shearAdvance := false, shearRetract := false }

/-- The commands of a stop, before the phase units act on their own state (R13). -/
def State.commandStop (s : State) : State :=
  { ((((s.openContactor.setVelocity 0).setForce s.openContactor.wireForce).setShear false false).cancelRise.clearYield) with
    awaiting := false }

theorem State.stopHead_eq (x : StopCause) :
    s.stopHead x = (State.noticeFault
      { s.commandStop.unitsAtStop.onCtx fun c => { c with faults := appendFault c.faults x, phase := none } with
        engine := .faultHold } x.reason none).settleAtStop x := rfl

theorem State.openContactor_wireForce : s.openContactor.wireForce = s.wireForce := rfl

theorem State.plant_commandStop :
    s.commandStop.plant = { s.plant with
      awaiting := false
      yielded := false
      out := s.stoppedOut
      share := s.openContactor.cancelRise.share } := by
  unfold State.commandStop State.plant State.stoppedOut
  simp [State.openContactor_wireForce]

theorem State.plant_stopHead (x : StopCause) :
    (s.stopHead x).plant = { s.plant with
      engine := .faultHold
      awaiting := false
      yielded := false
      mode := .idle
      out := s.stoppedOut
      share := s.openContactor.cancelRise.share
      stress := { s.stress with
        clampTimer := s.stress.clampTimer.stop, release := none, releaseTimer := s.stress.releaseTimer.stop }
      upset := { s.upset with currentTimer := s.upset.currentTimer.stop, shear := none } } := by
  rw [State.stopHead_eq, State.plant_settleAtStop, State.plant_noticeFault, State.plant_engine, State.plant_unitsAtStop,
    State.plant_commandStop]
  simp [State.commandStop, State.plant]

/-- A view of the plant after a stop. -/
theorem State.stopHead_view {α : Type} (view : State → α) (hv : ∀ v : State, view v.plant = view v) (x : StopCause) :
    view (s.stopHead x) = view
      { s.plant with
        engine := .faultHold
        awaiting := false
        yielded := false
        mode := .idle
        out := s.stoppedOut
        share := s.openContactor.cancelRise.share
        stress := { s.stress with
          clampTimer := s.stress.clampTimer.stop, release := none, releaseTimer := s.stress.releaseTimer.stop }
        upset := { s.upset with currentTimer := s.upset.currentTimer.stop, shear := none } } := by
  rw [← hv, State.plant_stopHead]

/-! ### The weld context and the record at a stop in BOOST (R21, R81) -/

@[simp] theorem State.stopHead_engine (x : StopCause) : (s.stopHead x).engine = .faultHold :=
  State.stopHead_view State.engine (fun _ => rfl) x

@[simp] theorem State.stopHead_awaiting (x : StopCause) : (s.stopHead x).awaiting = false :=
  State.stopHead_view State.awaiting (fun _ => rfl) x

@[simp] theorem State.stopHead_yielded (x : StopCause) : (s.stopHead x).yielded = false :=
  State.stopHead_view State.yielded (fun _ => rfl) x

@[simp] theorem State.stopHead_mode (x : StopCause) : (s.stopHead x).mode = .idle :=
  State.stopHead_view State.mode (fun _ => rfl) x

@[simp] theorem State.stopHead_out (x : StopCause) : (s.stopHead x).out = s.stoppedOut :=
  State.stopHead_view State.out (fun _ => rfl) x

@[simp] theorem State.stopHead_share (x : StopCause) : (s.stopHead x).share = s.openContactor.cancelRise.share :=
  State.stopHead_view State.share (fun _ => rfl) x

@[simp] theorem State.stopHead_meas (x : StopCause) : (s.stopHead x).meas = s.meas :=
  State.stopHead_view State.meas (fun _ => rfl) x

theorem State.unitsAtStop_boost (he : s.engine = .boost) :
    s.unitsAtStop.ctx = s.ctx.map fun c =>
      { c with
        openTime := if s.mode = .openGap then c.openTime + c.openRun else c.openTime
        sub := none, drawTarget := none, shortRun := 0, openRun := 0, onset := none, openMet := false, retract := none
        guard := none, abortTarget := none, abortStill := 0, boostTime := some c.phaseTimer
        energyStopped := true, winSum := 0, winCount := 0, pMeas := 0 } := by
  unfold State.unitsAtStop State.leavePull State.stopPower
  simp only [he, reduceCtorEq, if_false, if_true, State.onCtx_engine, State.onCtx_ctx, State.leaveRegulator_ctx,
    Option.map_map, State.onCtx_mode]
  rfl

theorem State.commandStop_ctx :
    s.commandStop.ctx = s.ctx.map fun c => { c with pause := none, guard := if s.yielded then none else c.guard } := by
  cases h : s.yielded <;> simp [State.commandStop, h]

/-- Before UPSET START a stop fixes the outcome ABORTED, with a record of the weld (R21). -/
theorem State.stopHead_aborted {c : WeldCtx} (hc : s.commandStop.unitsAtStop.ctx = some c) (ho : c.outcome = none)
    (hu : c.upsetBegun = false) (x : StopCause) :
    (s.stopHead x).ctx = some { c with faults := appendFault c.faults x, phase := none, outcome := some .aborted }
      ∧ ∃ r ∈ (s.stopHead x).records.list, r.serial = c.serial ∧ r.outcome = .aborted ∧ r.faults = appendFault c.faults x := by
  rw [State.stopHead_eq, State.settleAtStop]
  simp [hc, ho, hu, State.settle_ctx, State.settle_records, WeldCtx.record, RecordStore.insert]

theorem State.stopHead_boost {c : WeldCtx} (he : s.engine = .boost) (hc : s.ctx = some c) (ho : c.outcome = none)
    (hu : c.upsetBegun = false) (x : StopCause) : ∃ c', (s.stopHead x).ctx = some c' ∧ c'.phase = none
      ∧ c'.outcome = some .aborted ∧ c'.boostTime = some c.phaseTimer
      ∧ c'.faults = appendFault c.faults x ∧ c'.reasons = c.reasons ∧ c'.pMeas = 0 ∧ c'.weldTime = c.weldTime
      ∧ c'.burnOff = c.burnOff
      ∧ ∃ r ∈ (s.stopHead x).records.list, r.serial = c.serial ∧ r.outcome = .aborted ∧ r.faults = c'.faults := by
  have units := State.unitsAtStop_boost (s := s.commandStop) (by simp [State.commandStop, he])
  rw [State.commandStop_ctx, hc] at units
  obtain ⟨ctx, record⟩ := State.stopHead_aborted units ho hu x
  exact ⟨_, ctx, rfl, rfl, rfl, rfl, rfl, rfl, rfl, rfl, record⟩

/-! ### EMERGENCY -/

theorem State.acceptLevel_level (i : Input) : (s.acceptLevel i).level i = (s.meas.inputs.get i).sample := by
  cases i <;> rfl

/-- The state in which the condition of EMERGENCY stands after its level is accepted (R153). -/
def State.emergencyStands (s : State) : State :=
  { s.acceptLevel .emergency with meas := { (s.acceptLevel .emergency).meas with condEmergency := true } }

theorem State.takeLevel_emergency (he : s.engine = .boost) (asserted : s.meas.inputs.emergency.sample = true)
    (before : s.meas.condEmergency = false) :
    s.takeLevel .emergency = s.emergencyStands.stopHead .emergency := by
  have level : (s.acceptLevel .emergency).level .emergency = true := State.acceptLevel_level _ ▸ asserted
  have unmet : (s.acceptLevel .emergency).meas.condEmergency = false := before
  have boosting : s.emergencyStands.engine = .boost := he
  calc s.takeLevel .emergency
      = (s.acceptLevel .emergency).testEmergency := if_neg (fun h => Engine.noConfusion (he.symm.trans h))
    _ = s.emergencyStands.testCondition true false .emergency := by
        unfold State.testEmergency
        rw [level, unmet]
        rfl
    _ = s.emergencyStands.stopCause .emergency := rfl
    _ = s.emergencyStands.stopHead .emergency := by rw [State.stopCause, boosting]

/-- Settles O33: EMERGENCY is taken as a stop-class cause of the state in which its condition stands. -/
theorem emergencyStopsTheHead : Obligations.EmergencyStopsTheHead := by
  intro s c he hc ho hu due asserted before
  obtain ⟨c', ctx, phase, outcome, boost, faults, reasons, power, time, burn, record⟩ :=
    State.stopHead_boost (s := s.emergencyStands) he hc ho hu .emergency
  refine ⟨s.inputEvent .emergency, c', rfl, ?_⟩
  rw [State.inputEvent, State.event_of_due s due, State.takeLevel_emergency he asserted before]
  simp only [State.declare_engine, State.declare_ctx, State.declare_out, State.declare_awaiting, State.declare_yielded,
    State.declare_share_rise, State.declare_mode, State.declare_meas, State.declare_records, State.stopHead_engine,
    State.stopHead_awaiting, State.stopHead_yielded, State.stopHead_mode, State.stopHead_out, State.stopHead_share,
    State.stopHead_meas]
  exact ⟨trivial, ctx, rfl, trivial, trivial, rfl, trivial, rfl, phase, outcome, boost, faults, reasons, power, time, burn, record⟩

end
end Sys2Proof.Machine

/-! PROOFS. The end of RELEASING (R21, R22, R55, R159): the verdict, the record and READY (O50). -/

namespace Sys2Proof.Machine

section
variable {s t u : State}

/-! ### The verdict (R159) -/

theorem WeldCtx.mem_addReason_iff (c : WeldCtx) (x y : Reason) :
    x ∈ (c.addReason y).reasons ↔ x ∈ c.reasons ∨ x = y := by
  unfold WeldCtx.addReason
  split
  · next h => exact ⟨Or.inl, fun hx => hx.elim id (fun e => e ▸ h)⟩
  · simp

theorem WeldCtx.mem_foldl_addReason (l : List Reason) (c : WeldCtx) (x : Reason) :
    x ∈ (l.foldl WeldCtx.addReason c).reasons ↔ x ∈ c.reasons ∨ x ∈ l := by
  induction l generalizing c with
  | nil => simp
  | cons y l ih => rw [List.foldl_cons, ih, WeldCtx.mem_addReason_iff, List.mem_cons, or_assoc]

theorem WeldCtx.mem_judge (c : WeldCtx) (x : Reason) : x ∈ c.judge.reasons ↔ x ∈ c.reasons ∨ x ∈ c.missed :=
  WeldCtx.mem_foldl_addReason _ _ _

/-- A reason writes the list of reasons alone (R2). -/
theorem WeldCtx.addReason_eq (c : WeldCtx) (x : Reason) : c.addReason x = { c with reasons := (c.addReason x).reasons } := by
  unfold WeldCtx.addReason
  split <;> rfl

theorem WeldCtx.judge_eq (c : WeldCtx) : c.judge = { c with reasons := c.judge.reasons } := by
  unfold WeldCtx.judge
  induction c.missed generalizing c with
  | nil => rfl
  | cons x l ih =>
    rw [List.foldl_cons, ih, WeldCtx.addReason_eq]

/-- The window reasons, each where its window is missed (R159). -/
theorem WeldCtx.mem_missed (c : WeldCtx) (x : Reason) :
    x ∈ c.missed ↔ 
      (c.burnOff < (c.prog.windows.burnMin : Int) ∧ x = .burnOffLow)
      ∨ ((c.prog.windows.burnMax : Int) < c.burnOff ∧ x = .burnOffHigh)
      ∨ (c.distance.getD 0 < c.prog.windows.distanceMin ∧ x = .upsetShort)
      ∨ (c.peak.getD 0 < c.prog.windows.forceMin * 10 ∧ x = .forceLow)
      ∨ (c.prog.windows.forceMax * 10 < c.peak.getD 0 ∧ x = .forceHigh)
      ∨ ((c.curTime.getD 0 < c.prog.windows.curTimeMin ∨ c.prog.windows.curTimeMax < c.curTime.getD 0)
          ∧ x = .currentTime)
      ∨ ((c.flashTime.getD 0 < c.prog.windows.flashMin ∨ c.prog.windows.flashMax < c.flashTime.getD 0)
          ∧ x = .flashTime)
      ∨ (c.energy < c.prog.windows.energyMin ∧ x = .energyLow)
      ∨ (c.prog.windows.energyMax < c.energy ∧ x = .energyHigh)
      ∨ (c.prog.windows.maxShorts < c.shortCount ∧ x = .freeze)
      ∨ (c.prog.windows.maxOpen < c.openTime ∧ x = .flashBreak) := by
  simp only [WeldCtx.missed, List.mem_map, List.mem_filter, List.mem_cons, List.not_mem_nil, or_false, or_and_right,
    exists_or, and_assoc, exists_eq_left, decide_eq_true_eq, Bool.or_eq_true, eq_comm (b := x)]

/-! ### The clamps at a change of CLAMP_M (R55) -/

/-- The state after CLAMP_M's new level, with the condition of CLAMP LOST clear. -/
def State.movedClamp (s : State) : State :=
  { s.acceptLevel .clampM with meas := { (s.acceptLevel .clampM).meas with condClamp := false } }

/-- In RELEASING CLAMP LOST does not stand, whatever the clamps do (R153). -/
theorem State.takeLevel_releasing {c : WeldCtx} (he : s.engine = .releasing) (hr : s.stress.release = some .opening)
    (hc : s.ctx = some c) (hd : c.releasingEntered = true) :
    s.takeLevel .clampM = if s.movedClamp.clampsOpen then s.movedClamp.completeRelease else s.movedClamp := by
  have clear : ∀ b, (s.acceptLevel .clampM).testClamp b = s.movedClamp := by
    intro b
    have lost : (s.acceptLevel .clampM).clampLost b = false := by
      simp [State.clampLost, State.acceptLevel, hc, hd]
    unfold State.testClamp State.testCondition
    rw [lost]
    rfl
  have releasing : s.movedClamp.engine = .releasing := he
  have opening : s.movedClamp.stress.release = some .opening := hr
  calc s.takeLevel .clampM
      = (s.acceptLevel .clampM).testClampNow.clampMoved := if_neg (fun h => Engine.noConfusion (he.symm.trans h))
    _ = s.movedClamp.clampMoved := by rw [State.testClampNow, clear]
    _ = _ := by rw [State.clampMoved, releasing, opening]

theorem State.movedClamp_open (hm : s.meas.inputs.clampM.sample = false) (hf : s.level .clampF = false) :
    s.movedClamp.clampsOpen = !(s.inputDue .clampF && s.meas.inputs.clampF.sample) := by
  have level : s.movedClamp.level .clampM = false := State.acceptLevel_level (s := s) .clampM ▸ hm
  have level' : s.movedClamp.level .clampF = false := hf
  have taken : s.movedClamp.inputDue .clampM = false := by
    simp [State.inputDue, State.movedClamp, State.acceptLevel, PerInput.get, PerInput.set]
  have now : s.movedClamp.levelNow .clampM = false := by rw [State.levelNow, taken]; exact level
  have now' : s.movedClamp.levelNow .clampF = (s.inputDue .clampF && s.meas.inputs.clampF.sample) := by
    have due : s.movedClamp.inputDue .clampF = s.inputDue .clampF := rfl
    rw [State.levelNow, due, level']
    cases s.inputDue .clampF
    · rfl
    · rfl
  rw [State.clampsOpen, State.bothOpen, level, level', now, now']
  simp

/-! ### RELEASING completes (R22, R25, R55, R61) -/

theorem State.plant_settleAtRelease : s.settleAtRelease.plant = s.plant := by
  unfold State.settleAtRelease
  split
  · rfl
  · split
    · rfl
    · split
      · exact State.plant_settle _
      · exact State.plant_settle _

@[simp] theorem State.completeRelease_engine : s.completeRelease.engine = .ready := rfl

@[simp] theorem State.completeRelease_ctx : s.completeRelease.ctx = none := rfl

@[simp] theorem State.completeRelease_mode : s.completeRelease.mode = .idle := rfl

@[simp] theorem State.completeRelease_statusPeriod : s.completeRelease.statusPeriod = 1000 := rfl

theorem State.completeRelease_out :
    s.completeRelease.out = { s.out with
      step := 1, velocity := 0, force := 0, fixedClose := false, fixedOpen := false, movingClose := false
      movingOpen := false } := by
  have kept : (s.setClamps false false).settleAtRelease.out = (s.setClamps false false).out := by
    have h := congrArg (fun v : State => v.out) (State.plant_settleAtRelease (s := s.setClamps false false))
    exact h
  show { (s.setClamps false false).settleAtRelease.out with velocity := 0, force := 0, step := 1 } = _
  rw [kept]
  rfl

/-- The verdict of a weld without an ending cause (R21). -/
def WeldCtx.verdict (c : WeldCtx) : Verdict := if c.judge.reasons = [] then .accept else .reject

theorem State.completeRelease_records {c : WeldCtx} (hc : s.ctx = some c) (ho : c.outcome = none) (he : c.ending = none) :
    ∃ ref, s.completeRelease.records = s.records.insert (c.judge.record c.verdict ref) := by
  refine ⟨(s.trace.endCapture (bankOf c.judge.serial)).reference (bankOf c.judge.serial), ?_⟩
  show (s.setClamps false false).settleAtRelease.records = _
  simp [State.settleAtRelease, hc, ho, he, State.settle_records, WeldCtx.verdict]

theorem RecordStore.insert_last (r : RecordStore) (x : WeldRecord) : (r.insert x).list.getLast? = some x := by
  simp [RecordStore.insert]

theorem RecordStore.insert_length (r : RecordStore) (x : WeldRecord) :
    (r.insert x).list.length ≤ r.list.length + 1 := by
  unfold RecordStore.insert
  split
  · simp
  · simp

/-- The flash time of a context with an UPSET START latch (R158). -/
theorem WeldCtx.flashTime_of_latch {c : WeldCtx} {l : Latch}
    (h : (c.latches.find? fun x => decide (x.kind = .upsetStart)) = some l) :
    c.flashTime.getD 0 = (l.time - c.firstFlash.getD 0) / 100 := by
  simp [WeldCtx.flashTime, WeldCtx.upsetStartTime, h]

theorem WeldCtx.judge_record (c : WeldCtx) (v : Verdict) (ref : TraceRef) :
    c.judge.record v ref = { c.record v ref with reasons := c.judge.reasons } :=
  (congrArg (fun d : WeldCtx => d.record v ref) c.judge_eq).trans rfl

theorem State.inputEvent_due {i : Input} (h : s.inputDue i = true) : s.inputEvent i = (s.takeLevel i).declare :=
  State.event_of_due s h _

/-- Settles O50: the clamps as the interval leaves them decide whether RELEASING ends, and the record is that of the judged
context. -/
theorem releaseCompletionJudgesTheWeld : Obligations.ReleaseCompletionJudgesTheWeld := by
  intro s c he hr hc ho hn hd due hm hf
  have taken := State.takeLevel_releasing he hr hc hd
  rw [State.movedClamp_open hm hf] at taken
  constructor
  · intro dueF hF
    have stays : s.takeLevel .clampM = s.movedClamp := taken.trans (if_neg (by rw [dueF, hF]; decide))
    refine ⟨s.inputEvent .clampM, rfl, ?_⟩
    rw [State.inputEvent_due due, stays]
    exact ⟨(State.declare_engine _).trans he, State.declare_ctx _, State.declare_out _⟩
  · intro still
    have opens : (s.inputDue .clampF && s.meas.inputs.clampF.sample) = false := by
      rcases still with h | h
      · rw [h]; rfl
      · rw [h, Bool.and_false]
    have completes : s.takeLevel .clampM = s.movedClamp.completeRelease := taken.trans (if_pos (by rw [opens]; decide))
    obtain ⟨ref, records⟩ := State.completeRelease_records (s := s.movedClamp) hc ho hn
    have records : s.movedClamp.completeRelease.declare.records
        = s.records.insert { c.record c.verdict ref with reasons := c.judge.reasons } := by
      rw [State.declare_records, records, WeldCtx.judge_record]
      rfl
    refine ⟨s.inputEvent .clampM, { c.record c.verdict ref with reasons := c.judge.reasons }, rfl, ?_⟩
    rw [State.inputEvent_due due, completes, records]
    refine ⟨State.declare_engine _, State.declare_ctx _, State.declare_mode _,
      (State.declare_out _).trans State.completeRelease_out, State.declare_statusPeriod _, RecordStore.insert_last _ _,
      RecordStore.insert_length _ _, rfl, rfl, rfl, rfl, rfl, rfl, rfl, rfl, rfl, rfl, ?_⟩
    simp only [WeldCtx.mem_judge, WeldCtx.mem_missed, reduceCtorEq, and_false, and_true, or_false, false_or, true_and,
      WeldCtx.energy]
    intro l latch
    rw [WeldCtx.flashTime_of_latch latch]

end
end Sys2Proof.Machine

/-! PROOFS. The checks of a WELD REQUEST (R3, R46 to R48) and its refusal (O17, O18). -/

namespace Sys2Proof.Machine

section
variable {s t u : State}

/-! ### The standing checks -/

theorem State.isBusy_iff (s : State) :
    s.isBusy = true ↔ s.engine ≠ .ready ∧ s.engine ≠ .faultHold ∨ 4294967295 < s.nextSerial := by
  simp only [State.isBusy, Bool.or_eq_true, Bool.and_eq_true, decide_eq_true_eq]
  rfl

theorem State.standingFault_busy (h : s.engine ≠ .ready ∧ s.engine ≠ .faultHold ∨ 4294967295 < s.nextSerial) :
    s.standingFault = some .busy := by
  rw [State.standingFault, if_pos (s.isBusy_iff.mpr h)]

theorem State.not_isBusy (h : s.engine = .ready ∨ s.engine = .faultHold) (hn : s.nextSerial ≤ 4294967295) :
    s.isBusy = false := by
  rw [← Bool.not_eq_true, State.isBusy_iff]
  rintro (⟨ready, held⟩ | full)
  · exact h.elim ready held
  · omega

theorem State.standingFault_faultHold (h : s.engine = .faultHold) (hn : s.nextSerial ≤ 4294967295) :
    s.standingFault = some .faultHold := by
  simp [State.standingFault, State.not_isBusy (.inr h) hn, h]

theorem State.standingFault_ready (h : s.engine = .ready) (hn : s.nextSerial ≤ 4294967295) :
    s.standingFault = if s.link.state ≠ .joined then some .isolated else none := by
  simp [State.standingFault, State.not_isBusy (.inl h) hn, h]

/-- In READY, JOINED and with serials left, checks 4 to 10 decide. -/
theorem State.checkRequest_ready (h : s.engine = .ready) (hn : s.nextSerial ≤ 4294967295) (hl : s.link.state = .joined)
    (q : Request) : s.checkRequest q = s.checkWeld q :=
  State.checkRequest_of_pass s (by rw [State.standingFault_ready h hn, if_neg (not_not_intro hl)]) q

/-! ### Checks 4 to 10 -/

theorem State.slot_none {n : Nat} (h : n = 0 ∨ 4 < n ∨ s.slots.toList[n - 1]? = some none) : s.slot n = none := by
  unfold State.slot
  rcases h with h | h | h
  · rw [if_pos h]
  · have beyond : s.slots.toList[n - 1]? = none := by
      rw [List.getElem?_eq_none_iff, Vector.length_toList]
      omega
    rw [beyond]
    exact ite_self _
  · rw [h]
    exact ite_self _

theorem State.slot_some {n : Nat} {p : Programme} (hn : 1 ≤ n) (h : s.slots.toList[n - 1]? = some (some p)) :
    s.slot n = some p := by
  rw [State.slot, if_neg (by omega), h]
  rfl

theorem RequestData.bad_iff (d : RequestData) :
    d.bad = true ↔ d.tr < -400 ∨ 700 < d.tr ∨ d.tn < -400 ∨ 700 < d.tn ∨ 1200 < d.l ∨ d.g ≤ 0 := by
  simp [RequestData.bad, or_assoc]

theorem State.interlocked_iff (s : State) :
    s.interlocked = true ↔ s.level .trainMove = true ∨ s.level .pressOk = false ∨ s.level .emergency = true
      ∨ s.level .contFb = true ∨ s.image.fMax * 105 / 10 < s.meas.fm := by
  simp only [State.interlocked, State.forceOver, Bool.or_eq_true, decide_eq_true_eq, Bool.not_eq_true', or_assoc]
  rfl

theorem Programme.has_iff (p : Programme) (k : RecKind) : p.has k = true ↔ ∃ r ∈ p.records, r.body.kind = k := by
  simp [Programme.has, Programme.find]

theorem Programme.has_eq_false (p : Programme) (k : RecKind) : p.has k = false ↔ ∀ r ∈ p.records, r.body.kind ≠ k := by
  rw [← Bool.not_eq_true, Programme.has_iff]
  simp

/-- Checks 8 to 10, each by what it tests (R3, R46 to R48). -/
theorem State.checkProgramme_eq (s : State) (d : RequestData) (p : Programme) :
    s.checkProgramme d p =
      if 0 < d.pReq ∧ ∀ r ∈ p.records, r.body.kind ≠ .pull then some .pullMissing
      else if d.g - (d.pReq : Int) < s.image.clearanceMin then some .gapShort
      else if (s.image.stroke : Int) - s.image.travelReserve
          < d.g + ((p.records.map fun r => (r.body.asFlash.map FlashRec.lf).getD 0).sum : Nat)
            + ((p.boost?.map BoostRec.length).getD 0 : Nat) + ((p.upset?.map UpsetRec.du).getD 0 : Nat)
        then some .travel
      else none := by
  have missing : (decide (0 < d.pReq) && !p.has .pull) = true ↔ 0 < d.pReq ∧ ∀ r ∈ p.records, r.body.kind ≠ .pull := by
    rw [Bool.and_eq_true, decide_eq_true_eq, Bool.not_eq_true', Programme.has_eq_false]
  have travel : p.travel d.g = d.g + ((p.records.map fun r => (r.body.asFlash.map FlashRec.lf).getD 0).sum : Nat)
      + ((p.boost?.map BoostRec.length).getD 0 : Nat) + ((p.upset?.map UpsetRec.du).getD 0 : Nat) := by
    rw [Programme.travel, Programme.lfSum, List.take_length]
    rfl
  rw [State.checkProgramme, travel]
  simp only [missing]

theorem State.checkWeld_programme {q : Request} {p : Programme} (hm : s.meas.homed = true) (hp : s.slot q.slot = some p) :
    s.checkWeld q =
      if q.data.bad = true then some .badRequest else if s.interlocked = true then some .interlock
      else s.checkProgramme q.data p := by
  rw [State.checkWeld, hm, hp]
  rfl

/-- Settles O17: the checks in their order, each by what it tests, and the refusal is a notice and nothing else. -/
theorem weldRequestIsRefused : Obligations.WeldRequestIsRefused := by
  constructor
  · intro s q
    refine ⟨fun h => State.checkRequest_of_standing s (State.standingFault_busy h) q,
      fun h hn => State.checkRequest_of_standing s (State.standingFault_faultHold h hn) q,
      fun h hn hl => State.checkRequest_of_standing s (by rw [State.standingFault_ready h hn, if_pos hl]) q,
      fun h hn hl => ?_⟩
    rw [State.checkRequest_ready h hn hl]
    refine ⟨fun hm => by simp [State.checkWeld, hm], fun hm hp => ?_, fun p hm h1 hp => ?_⟩
    · simp [State.checkWeld, hm, State.slot_none hp]
    · rw [State.checkWeld_programme hm (State.slot_some h1 hp), State.checkProgramme_eq]
      simp only [RequestData.bad_iff, State.interlocked_iff]
  · intro s run rest q f hr hq refused room
    refine ⟨s.requestEvent, rfl, ?_⟩
    refine State.event_declaredAs (by simp [hr]) ?_
    have standing : run.refusal.or (State.checkRequest { s with link := { s.link with weldReady := rest } } q) = some f := by
      rcases refused with h | ⟨h, hc⟩
      · rw [h]; rfl
      · rw [h]; exact hc
    have chosen : State.nextRequest s
        = State.takeRequest { s with link := { s.link with weldReady := rest } } run.refusal q := by
      rw [State.nextRequest, hr]
      dsimp only
      rw [hq]
    rw [chosen, State.takeRequest, standing]
    exact State.notice_of_room _ _ room

/-- Settles O18: P_req truncates a value that is not negative, and GAP SHORT is check 9. -/
theorem gapShortIsRefused : Obligations.GapShortIsRefused := by
  intro s d p pull
  have passed : ¬ (0 < d.pReq ∧ ∀ r ∈ p.records, r.body.kind ≠ .pull) := by
    rintro ⟨pos, none⟩
    rcases pull with h | h
    · omega
    · exact absurd ((Programme.has_eq_false p .pull).mpr none) (by simp [h])
  have short : d.g - (d.pReq : Int) < s.image.clearanceMin → s.checkProgramme d p = some .gapShort := fun h => by
    rw [State.checkProgramme_eq, if_neg passed, if_pos h]
  have long : s.image.clearanceMin ≤ d.g - (d.pReq : Int) → s.checkProgramme d p ≠ some .gapShort := fun h => by
    rw [State.checkProgramme_eq, if_neg passed, if_neg (by omega)]
    split <;> simp
  refine ⟨fun h => ?_, fun h => ?_, short, long, ?_⟩
  · have deficit : ((d.tn - d.tr).toNat : Int) = d.tn - d.tr := Int.toNat_of_nonneg (by omega)
    rw [RequestData.pReq, if_pos h]
    push_cast
    rw [deficit]
  · rw [RequestData.pReq, if_neg (by omega)]
  · rintro q rfl hp he hn hl hm hb hi
    rw [State.checkRequest_ready he hn hl, State.checkWeld_programme hm hp, if_neg (by simp [hb]), if_neg (by simp [hi])]
    exact ⟨fun h => by_contra fun g => long (by omega) h, short⟩

end
end Sys2Proof.Machine

/-! PROOFS. The acceptance of a WELD REQUEST (R3, R4, R25, R170): the new weld with the clamps closing (O16). -/

namespace Sys2Proof.Machine

section
variable {s t u : State}

/-! ### What an operation leaves of a field -/

/-- A notice writes the link alone, and not the runs that wait in it. -/
theorem State.notice_plain (s : State) (n : Notice) :
    ∃ l, s.notice n = { s with link := l } ∧ l.weldReady = s.link.weldReady := by
  unfold State.notice
  split
  · exact ⟨_, rfl, rfl⟩
  · exact ⟨s.link, rfl, rfl⟩

/-- The bank of a weld that begins (R170). -/
def Bank.fresh (n : Nat) : Bank :=
  { owner := some n, blocks := [], filling := none, capturing := true, truncated := false }

/-- Clearing a bank writes the traces, and the link with a notice; the bank is then the new weld's, empty and capturing. -/
theorem State.clearBank_plain (s : State) (n : Nat) :
    ∃ x l, s.clearBank n = { s with trace := x, link := l } ∧ l.weldReady = s.link.weldReady
      ∧ x.bank (bankOf n) = Bank.fresh n := by
  unfold State.clearBank
  extract_lets b _ t
  have cleared : t.bank b = Bank.fresh n := TraceStore.bank_setBank _ _ _
  have gone : ∀ x, ∃ k l, State.notice { s with trace := t.stopStream } x = { s with trace := k, link := l }
      ∧ l.weldReady = s.link.weldReady ∧ k.bank b = Bank.fresh n := by
    intro x
    obtain ⟨l, eq, ready⟩ := State.notice_plain { s with trace := t.stopStream } x
    exact ⟨t.stopStream, l, eq, ready, cleared⟩
  split
  · exact ⟨t, s.link, rfl, rfl, cleared⟩
  · split
    · split
      · exact ⟨{ t with gonePending := true }, s.link, rfl, rfl, cleared⟩
      · exact gone _
      · exact gone _
      · exact ⟨t, s.link, rfl, rfl, cleared⟩
    · exact ⟨t, s.link, rfl, rfl, cleared⟩

/-! ### The entry to CLAMPING -/

/-- With a clamp open the entry to CLAMPING turns the close lines on and starts the timer (R44). -/
theorem State.enterClamp_open (h : s.bothClosed = false) :
    s.enterClamp = { (((s.enterRecord .clamping 0).setClamps true false).setVelocity 0).setForce 0 with
      stress := { s.stress with clampTimer := .started } } := by
  unfold State.enterClamp
  extract_lets v _ s1
  refine if_neg ?_
  have same : s1.bothClosed = s.bothClosed := by
    have kept : v.meas = s.meas := by simp [v]
    unfold State.bothClosed State.level
    rw [show s1.meas = v.meas from rfl, kept]
  rw [same, h]
  decide

theorem State.enterClamp_open_ctx (h : s.bothClosed = false) :
    s.enterClamp.ctx = s.ctx.map fun c =>
      { c with
        phase := some 0, phaseTimer := 0, exitMet := false, moveDue := false, pause := none
        guard := if s.yielded then none else c.guard } := by
  rw [State.enterClamp_open h]
  simp [State.enterRecord_ctx]

/-- What the entry to CLAMPING writes and leaves with a clamp open. -/
theorem State.enterClamp_open_fields (h : s.bothClosed = false) :
    s.enterClamp.engine = .clamping ∧ s.enterClamp.nextSerial = s.nextSerial ∧ s.enterClamp.lastSerial = s.lastSerial
      ∧ s.enterClamp.statusPeriod = s.statusPeriod ∧ s.enterClamp.statusTimer = s.statusTimer
      ∧ s.enterClamp.out = { s.out with
          fixedClose := true, movingClose := true, fixedOpen := false, movingOpen := false, velocity := 0, force := 0 }
      ∧ s.enterClamp.trace = s.trace ∧ s.enterClamp.slots = s.slots ∧ s.enterClamp.meas = s.meas
      ∧ s.enterClamp.link.weldReady = s.link.weldReady := by
  rw [State.enterClamp_open h]
  simp

/-- The state in which a weld accepted from `s` enters CLAMPING, with its trace bank and the link after NOTICE ACCEPTED. -/
def State.begun (s : State) (q : Request) (p : Programme) (x : TraceStore) (l : Link) : State :=
  { s with
    ctx := some (s.newCtx q p)
    nextSerial := s.nextSerial + 1
    lastSerial := s.nextSerial
    mode := .idle
    upset := .reset
    records := s.records.dropTrace (s.nextSerial - 2)
    statusPeriod := 100
    statusTimer := 0
    trace := x
    link := l }

theorem State.acceptWeld_begun (s : State) (q : Request) (p : Programme) :
    ∃ x l, s.acceptWeld q p = (s.begun q p x l).enterClamp ∧ l.weldReady = s.link.weldReady
      ∧ x.bank (bankOf s.nextSerial) = Bank.fresh s.nextSerial := by
  unfold State.acceptWeld
  extract_lets n s1 s2
  obtain ⟨x, l, cleared, ready, fresh⟩ := State.clearBank_plain s1 n
  obtain ⟨l', told, ready'⟩ := State.notice_plain (s1.clearBank n) (.accepted n q.tag)
  rw [cleared] at told ready'
  have accepted : s2 = _ := (congrArg (State.notice · (.accepted n q.tag)) cleared).trans told
  refine ⟨x, l', ?_, ready'.trans ready, fresh⟩
  rw [accepted]
  rfl

/-- The state in which the oldest WELD REQUEST has been taken from the queue. -/
def State.taken (s : State) (rest : List WeldRun) : State := { s with link := { s.link with weldReady := rest } }

theorem State.nextRequest_accepted {payload : List Byte} {rest : List WeldRun} {q : Request} {p : Programme}
    (hr : s.link.weldReady = ⟨payload, none⟩ :: rest) (hq : Request.parse payload = some q)
    (passed : s.checkRequest q = none) (hp : s.slot q.slot = some p) :
    s.nextRequest = (s.taken rest).acceptWeld q p := by
  have checked : (s.taken rest).checkRequest q = none := passed
  have held : (s.taken rest).slot q.slot = some p := hp
  calc s.nextRequest
      = (s.taken rest).takeRequest none q := by
        rw [State.nextRequest, hr]
        dsimp only
        rw [hq]
        rfl
    _ = (s.taken rest).acceptWeld q p := by
        rw [State.takeRequest, checked, held]
        rfl

/-- Settles O16: the request is accepted from a copy of its slot, and CLAMPING is entered with a clamp open. -/
theorem weldRequestIsAccepted : Obligations.WeldRequestIsAccepted := by
  intro s payload rest q p hr hq passed hp opened
  obtain ⟨x, l, begun, ready, fresh⟩ := State.acceptWeld_begun (s.taken rest) q p
  have due : (!s.link.weldReady.isEmpty) = true := by rw [hr]; rfl
  have taken : s.requestEvent = _ := (State.event_of_due s due _).trans
    (congrArg State.declare ((State.nextRequest_accepted hr hq passed hp).trans (begun)))
  have ctx := (congrArg State.ctx taken).trans
    ((State.declare_ctx _).trans (State.enterClamp_open_ctx (s := (s.taken rest).begun q p x l) opened))
  obtain ⟨engine, next, last, period, timer, out, trace, slots, meas, queue⟩ :=
    State.enterClamp_open_fields (s := (s.taken rest).begun q p x l) opened
  refine ⟨s.requestEvent, _, rfl, ctx, ?_⟩
  rw [taken]
  simp only [State.declare_engine, State.declare_nextSerial, State.declare_lastSerial,
    State.declare_statusPeriod, State.declare_statusTimer, State.declare_out, State.declare_trace, State.declare_slots,
    State.declare_meas, State.declare_link_weldReady, engine, next, last, period, timer, out, trace, slots, meas, queue]
  refine ⟨trivial, rfl, rfl, rfl, rfl, rfl, rfl, trivial, trivial, rfl, rfl, rfl, rfl, rfl, rfl, rfl, rfl, rfl, rfl, rfl, rfl,
    rfl, rfl, ?_⟩
  have bank : ((s.taken rest).begun q p x l).trace.bank (bankOf s.nextSerial) = Bank.fresh s.nextSerial := fresh
  rw [bank]
  exact ⟨rfl, rfl, rfl, rfl, rfl, ready⟩

end
end Sys2Proof.Machine

/-! PROOFS. The entry to RELEASING (R54, R55): the ramp from the force-limit command of the wiring, and OPENING at once where
that command is 0; CLEAR (O19). -/

namespace Sys2Proof.Machine

section
variable {s t u : State}

/-! ### The state at the start of the ramp -/

/-- The weld context at the entry to the RELEASE record at index `i`, with the regulator left in `mode`. -/
def WeldCtx.releasing (c : WeldCtx) (i : Nat) (mode : Mode) : WeldCtx :=
  { c with
    openTime := if mode = .openGap then c.openTime + c.openRun else c.openTime
    sub := none, drawTarget := none, shortRun := 0, openRun := 0, onset := none, openMet := false, retract := none
    guard := none, abortTarget := none, abortStill := 0
    phase := some i, phaseTimer := 0, exitMet := false, moveDue := false, pause := none
    energyStopped := true, winSum := 0, winCount := 0, pMeas := 0, releasingEntered := true }

/-- The index of the RELEASE record of the weld in flight. -/
def State.releaseIndex (s : State) : Nat := ((s.ctx.bind fun c => c.prog.find .release)).getD 0

/-- The state at the start of the release ramp (R54). -/
def State.ramping (s : State) : State :=
  let s1 := (s.leaveRegulator.enterRecord .releasing s.releaseIndex).stopPower
  State.setForce
    { (s1.onCtx fun c => { c with releasingEntered := true }).setVelocity 0 with
      stress :=
        { s1.stress with
          clampTimer := s1.stress.clampTimer.stop
          release := some .ramping
          rampStart := some s.wireForce
          releaseTimer := .started }
      upset := { s1.upset with shear := none } } s.wireForce

theorem State.enterReleasing_eq (s : State) :
    s.enterReleasing = if s.wireForce = 0 then s.ramping.enterOpening else s.ramping := rfl

theorem State.ramping_ctx : s.ramping.ctx = s.ctx.map fun c => c.releasing s.releaseIndex s.mode := by
  cases h : s.yielded <;>
  simp [State.ramping, State.stopPower, State.enterRecord_ctx, State.leaveRegulator_ctx, Function.comp_def,
    WeldCtx.releasing, h]

@[simp] theorem State.ramping_engine : s.ramping.engine = .releasing := by simp [State.ramping, State.stopPower]

@[simp] theorem State.ramping_out : s.ramping.out = { s.out with velocity := 0, force := s.wireForce } := by
  simp [State.ramping, State.stopPower]

@[simp] theorem State.ramping_stress :
    s.ramping.stress = { s.stress with
      clampTimer := s.stress.clampTimer.stop, release := some .ramping, rampStart := some s.wireForce
      releaseTimer := .started } := by
  simp [State.ramping, State.stopPower]

@[simp] theorem State.ramping_upset : s.ramping.upset = { s.upset with shear := none } := by
  simp [State.ramping, State.stopPower]

@[simp] theorem State.ramping_mode : s.ramping.mode = .idle := by simp [State.ramping, State.stopPower]

@[simp] theorem State.ramping_yielded : s.ramping.yielded = false := by
  simp [State.ramping, State.stopPower, State.enterRecord_yielded]

@[simp] theorem State.ramping_share : s.ramping.share = s.share := by simp [State.ramping, State.stopPower]

@[simp] theorem State.ramping_records : s.ramping.records = s.records := by simp [State.ramping, State.stopPower]

@[simp] theorem State.ramping_meas : s.ramping.meas = s.meas := by simp [State.ramping, State.stopPower]

/-! ### OPENING (R55) -/

/-- With a clamp closed OPENING begins (R55). -/
theorem State.enterOpening_closed (h : s.bothOpen = false) :
    s.enterOpening = { s.setClamps false true with
      stress := { s.stress with release := some .opening, releaseTimer := .started } } := by
  unfold State.enterOpening
  extract_lets v _ s1
  have same : s1.bothOpen = s.bothOpen := rfl
  exact if_neg (by rw [same, h]; decide)

theorem State.ramping_bothOpen : s.ramping.bothOpen = s.bothOpen := by
  unfold State.bothOpen State.level
  rw [State.ramping_meas]

/-- The lines off in WAITING, with its timer started (R56). -/
def State.waiting (s : State) : State :=
  { s.setClamps false false with stress := { s.stress with release := some .waiting, releaseTimer := .started } }

/-- With a clamp closed WAITING begins, and NOTICE FAULT RELEASE TIMEOUT is queued (R56). -/
theorem State.enterWaiting_closed {c : WeldCtx} (hc : s.ctx = some c) (h : s.bothOpen = false)
    (room : s.link.notices.length < 8) :
    s.enterWaiting = { s.waiting with link :=
      { s.link with notices := s.link.notices ++ [.fault c.serial .releaseTimeout c.weldTime none] } } := by
  have told : s.waiting.noticeFault .releaseTimeout none = { s.waiting with link :=
      { s.link with notices := s.link.notices ++ [.fault c.serial .releaseTimeout c.weldTime none] } } := by
    have ctx : s.waiting.ctx = some c := hc
    rw [State.noticeFault, ctx]
    exact State.notice_of_room _ _ room
  show (if (s.waiting.noticeFault .releaseTimeout none).bothOpen then
    (s.waiting.noticeFault .releaseTimeout none).completeRelease else s.waiting.noticeFault .releaseTimeout none) = _
  rw [told]
  refine if_neg ?_
  have same : ∀ l : Link, State.bothOpen { s.waiting with link := l } = s.bothOpen := fun _ => rfl
  rw [same, h]
  decide

/-! ### The record in force -/

theorem State.recordHas_of {c : WeldCtx} {b : RecBody} (hc : s.ctx = some c) (hb : c.body = some b)
    (f : RecBody → Option Nat) (test : Nat → Bool) : s.recordHas f test = (f b).elim false test := by
  simp [State.recordHas, hc, hb]

/-! ### CLEAR -/

theorem State.takeClear_ignored {d : List Byte} (h : (s.targeted d 1 && s.mayClear) = false) : s.takeClear d = s :=
  if_neg (by rw [h]; decide)

theorem State.targeted_one (tgt : Byte) (n : Nat) (hn : n ≤ 1) :
    s.targeted [tgt] n = decide (tgt.toNat = s.station.val) := by
  rw [State.targeted, natAt_zero_one]
  simp [hn]

/-- Settles O19: CLEAR enters RELEASING from FAULT HOLD, where no force hold acts. -/
theorem clearEntersReleasing : Obligations.ClearEntersReleasing := by
  intro s n tgt receives hn joined
  have clear : exec (.clear n [tgt]) s = .next (s.takeClear [tgt]) := by
    show Host.Outcome.next (s.onRx n fun t => t.ifJoined fun u => u.takeClear [tgt]) = _
    rw [State.onRx_other receives hn, State.ifJoined_joined joined]
  have ignored : (s.targeted [tgt] 1 && s.mayClear) = false → exec (.clear n [tgt]) s = .next s := fun h => by
    rw [clear, State.takeClear_ignored h]
  refine ⟨fun other => ignored ?_, fun h => ignored ?_, fun h => ignored ?_, ?_⟩
  · rw [State.targeted_one _ _ le_rfl, decide_eq_false other, Bool.false_and]
  · rw [State.mayClear, decide_eq_false h]
    simp
  · rcases h with h | h | h
    all_goals simp [State.mayClear, h]
  · intro c i target held emergency train feedback hc hi force
    have may : (s.targeted [tgt] 1 && s.mayClear) = true := by
      rw [State.targeted_one _ _ le_rfl]
      simp [State.mayClear, target, held, emergency, train, feedback]
    have wire : s.wireForce = s.out.force := by simp [State.wireForce, held, Engine.holdsForce]
    have taken : s.takeClear [tgt] = s.ramping.declare := by
      rw [State.takeClear, if_pos may, State.enterReleasing_eq, if_neg (by rwa [wire])]
    have index : s.releaseIndex = i := by simp [State.releaseIndex, hc, hi]
    refine ⟨s.takeClear [tgt], c.releasing i s.mode, clear, ?_⟩
    rw [taken]
    simp only [State.declare_engine, State.declare_ctx, State.declare_stress, State.declare_out, State.ramping_engine,
      State.ramping_ctx, State.ramping_stress, State.ramping_out, hc, wire, index]
    exact ⟨trivial, rfl, rfl, rfl, rfl, rfl, trivial, trivial, rfl, trivial⟩

/-! ### A cause before any current has flowed (R16, R17) -/

/-- The state in which such a cause enters RELEASING: stored, told, no rise pending, and among the reasons. -/
def State.endsEarly (s : State) (x : EndCause) (tag : Option Nat) : State :=
  State.onCtx
    { ((s.onCtx fun c => c.storeEnding x tag).noticeFault x.reason tag).cancelRise with awaiting := false }
    fun c => c.addReason x.reason

theorem State.endCause_early (he : s.engine = .clamping ∨ s.engine = .admitting) (x : EndCause) (tag : Option Nat) :
    s.endCause x tag = (s.endsEarly x tag).enterReleasing := by
  have engine : (s.endsEarly x tag).engine ≠ .pulling := by
    have kept : (s.endsEarly x tag).engine = s.engine := by simp [State.endsEarly]
    rw [kept]
    rcases he with h | h
    · simp [h]
    · simp [h]
  have early : s.endCause x tag = (s.endsEarly x tag).leavePull.enterReleasing := by
    unfold State.endCause
    rcases he with h | h
    · rw [h]
      rfl
    · rw [h]
      rfl
  rw [early, State.leavePull, if_neg engine]

theorem State.endsEarly_ctx (x : EndCause) (tag : Option Nat) :
    (s.endsEarly x tag).ctx = s.ctx.map fun c => (c.storeEnding x tag).addReason x.reason := by
  simp [State.endsEarly, Function.comp_def]

theorem State.endsEarly_wireForce (he : s.engine = .clamping) (x : EndCause) (tag : Option Nat) :
    (s.endsEarly x tag).wireForce = s.out.force := by
  simp [State.wireForce, State.endsEarly, he, Engine.holdsForce]

theorem State.endsEarly_fields (x : EndCause) (tag : Option Nat) :
    (s.endsEarly x tag).out = s.out ∧ (s.endsEarly x tag).stress = s.stress ∧ (s.endsEarly x tag).meas = s.meas := by
  simp [State.endsEarly]

theorem WeldCtx.storeEnding_reasons (c : WeldCtx) (x : EndCause) (tag : Option Nat) :
    (c.storeEnding x tag).reasons = c.reasons := by
  unfold WeldCtx.storeEnding
  split <;> rfl

/-- The reasons after one more depend on the reasons before alone. -/
theorem WeldCtx.addReason_reasons (c : WeldCtx) (x : Reason) :
    (c.addReason x).reasons = if x ∈ c.reasons then c.reasons else c.reasons ++ [x] := by
  unfold WeldCtx.addReason
  split <;> rfl

theorem WeldCtx.addReason_storeEnding (c : WeldCtx) (x : EndCause) (tag : Option Nat) (y : Reason) :
    ((c.storeEnding x tag).addReason y).reasons = (c.addReason y).reasons := by
  rw [WeldCtx.addReason_reasons, WeldCtx.addReason_reasons, WeldCtx.storeEnding_reasons]

/-! ### The clamp timeout -/

/-- Settles O40: with the force-limit command at 0 the entry to RELEASING opens the clamps at once. -/
theorem clampTimeoutEndsTheWeld : Obligations.ClampTimeoutEndsTheWeld := by
  intro s c n he hc hb time force closed
  have due : s.clampTimeoutDue = true := by
    rw [State.clampTimeoutDue, State.recordHas_of hc hb]
    simp [he, time]
  obtain ⟨u, hu⟩ : ∃ u : State, u = { s with stress := { s.stress with clampTimer := s.stress.clampTimer.stop } } := ⟨_, rfl⟩
  have engine : u.engine = .clamping := by rw [hu]; exact he
  have wire : (u.endsEarly .clampTimeout none).wireForce = 0 := by
    rw [State.endsEarly_wireForce engine, hu]
    exact force
  obtain ⟨out, stress, meas⟩ := State.endsEarly_fields (s := u) .clampTimeout none
  have still : (u.endsEarly .clampTimeout none).ramping.bothOpen = false := by
    rw [State.ramping_bothOpen, State.bothOpen, State.level, State.level, meas, hu]
    exact closed
  have taken : s.clampTimeoutEvent = ((u.endsEarly .clampTimeout none).ramping.enterOpening).declare := by
    rw [State.clampTimeoutEvent, State.event_of_due s due, State.clampTimedOut, ← hu,
      State.endCause_early (.inl engine), State.enterReleasing_eq, if_pos wire]
  refine ⟨s.clampTimeoutEvent,
    ((c.storeEnding .clampTimeout none).addReason .clampTimeout).releasing (u.endsEarly .clampTimeout none).releaseIndex
      (u.endsEarly .clampTimeout none).mode, rfl, ?_⟩
  rw [taken, State.enterOpening_closed still]
  have ctx : u.ctx = some c := hu ▸ hc
  have lines : u.out = s.out := hu ▸ rfl
  have stopped : u.stress.clampTimer = s.stress.clampTimer.stop := hu ▸ rfl
  clear hu
  simp only [State.declare_engine, State.declare_ctx, State.declare_stress, State.declare_out, State.setClamps_engine,
    State.setClamps_ctx, State.setClamps_out, State.ramping_engine, State.ramping_ctx, State.ramping_stress,
    State.ramping_out, State.endsEarly_ctx, ctx, out, stress, lines, stopped, wire]
  exact ⟨trivial, rfl, WeldCtx.addReason_storeEnding _ _ _ _, (WeldCtx.addReason_ending _ _).trans
    (WeldCtx.storeEnding_ending _ _ _), trivial, rfl, rfl, trivial⟩

/-- Settles O44: an abort retract that stands still enters RELEASING, where the ramp starts from the wiring. -/
theorem abortRetractEnds : Obligations.AbortRetractEnds := by
  intro s c he hc aborting still wire
  have due : s.abortStillDue = true := by
    have stood : decide (Config.abortStillMs ≤ c.abortStill) = true := decide_eq_true still
    rcases he with h | h
    all_goals simp [State.abortStillDue, WeldCtx.aborting, h, hc, aborting, stood]
  have taken : s.abortStillEvent = s.ramping.declare := by
    rw [State.abortStillEvent, State.event_of_due s due, State.enterReleasing_eq, if_neg wire]
  refine ⟨s.abortStillEvent, c.releasing s.releaseIndex s.mode, rfl, ?_⟩
  rw [taken]
  simp only [State.declare_engine, State.declare_ctx, State.declare_stress, State.declare_out, State.declare_mode,
    State.ramping_engine, State.ramping_ctx, State.ramping_stress, State.ramping_out, State.ramping_mode, hc]
  exact ⟨trivial, trivial, rfl, rfl, rfl, rfl, trivial, trivial, trivial⟩

/-- Settles O49: the ramp's end and the clamp-open timeout, each with a clamp that keeps RELEASING in force. -/
theorem releaseStepsFollow : Obligations.ReleaseStepsFollow := by
  intro s c he hc closed
  constructor
  · intro ramping time
    have due : s.rampEndDue = true := by simp [State.rampEndDue, he, ramping, time]
    refine ⟨s.rampEvent, rfl, State.event_declaredAs due ?_⟩
    exact State.enterOpening_closed (s := s.setForce 0) closed
  · intro n opening hb time room
    have due : s.clampOpenDue = true := by
      rw [State.clampOpenDue, State.recordHas_of hc hb]
      simp [he, opening, time]
    refine ⟨s.clampOpenEvent, rfl, State.event_declaredAs due ?_⟩
    rw [State.enterWaiting_closed hc closed room]
    rfl

end
end Sys2Proof.Machine

/-! PROOFS. HOLD and TRIM (R91 to R94): the end of the hold time, and the shear's steps by its inputs and its timeouts
(O48). -/

namespace Sys2Proof.Machine

section
variable {s t u : State}

/-! ### A milestone latched -/

/-- A weld context with one more latch listed (R148). -/
def WeldCtx.latched (c : WeldCtx) (k : LatchKind) (p : Int) : WeldCtx :=
  { c with latches := c.latches ++ [⟨k, p, c.weldTime⟩] }

theorem State.latch_listed {c : WeldCtx} {k : LatchKind} (hc : s.ctx = some c) (hk : c.lists k = true) (p : Int) :
    (s.latch k p).ctx = some (c.latched k p) := by
  rw [State.latch_ctx, hc, Option.map_some, if_pos hk]
  rfl

theorem State.latch_milestone {c : WeldCtx} {k : LatchKind} (hc : s.ctx = some c) (hk : k.repeated = false) (p : Int) :
    (s.latch k p).ctx = some (c.latched k p) :=
  State.latch_listed hc (c.lists_milestone hk) p

/-- A weld context at the entry to the record at index `i`, in the engine state of that record (R10). -/
def WeldCtx.entered (c : WeldCtx) (e : Engine) (i : Nat) (yielded : Bool) : WeldCtx :=
  { c with
    phase := some i, phaseTimer := 0, exitMet := false, moveDue := false
    pause := if e = .preheat ∨ e = .flash then c.pause else none
    guard := if e = .preheat ∨ e = .flash then c.guard else if yielded then none else c.guard }

theorem State.enterRecord_entered {c : WeldCtx} (hc : s.ctx = some c) (e : Engine) (i : Nat) :
    (s.enterRecord e i).ctx = some (c.entered e i s.yielded) := by
  rw [State.enterRecord_ctx, hc]
  rfl

theorem Programme.kindAt_of_body {p : Programme} {i : Nat} {b : RecBody} (h : p.body i = some b) :
    p.kindAt i = some b.kind := by
  rw [Programme.kindAt, h]
  rfl

/-- The level of an input is that of its filter, in whatever state stands around it. -/
theorem State.level_congr (h : t.meas = s.meas) (i : Input) : t.level i = s.level i := by
  rw [State.level, State.level, h]

/-! ### The shear -/

/-- With the shear away from home RETURNING begins (R94). -/
theorem State.enterReturning_away (h : s.level .shearHome = false) :
    s.enterReturning = { s.setShear false true with
      upset := { s.upset with shear := some .returning, shearTimer := 0 } } := by
  unfold State.enterReturning
  extract_lets v _ s1
  have same : s1.level .shearHome = s.level .shearHome := rfl
  exact if_neg (by rw [same, h]; decide)

/-- The shear with both lines off and its step done (R94). -/
def State.sheared (s : State) : State :=
  { s.setShear false false with upset := { s.upset with shear := some .done, shearTimer := 0 } }

/-- TRIM ends in the release ramp where the wiring has a force-limit command (R54, R94). -/
theorem State.endTrim_ramping (h : s.wireForce ≠ 0) : s.endTrim = s.sheared.ramping :=
  (State.enterReleasing_eq s.sheared).trans (if_neg h)

theorem State.endTrim_fields (h : s.wireForce ≠ 0) :
    s.endTrim.engine = .releasing ∧ s.endTrim.ctx = s.ctx.map (fun c => c.releasing s.sheared.releaseIndex s.sheared.mode)
      ∧ s.endTrim.stress.release = some .ramping ∧ s.endTrim.stress.rampStart = some s.wireForce
      ∧ s.endTrim.out = { s.out with velocity := 0, force := s.wireForce, shearAdvance := false, shearRetract := false } := by
  rw [State.endTrim_ramping h]
  have wire : s.sheared.wireForce = s.wireForce := rfl
  simp only [State.ramping_engine, State.ramping_ctx, State.ramping_stress, State.ramping_out, wire]
  exact ⟨trivial, rfl, trivial, trivial, rfl⟩

theorem State.shearFails_fields :
    s.shearFails.engine = s.engine ∧ s.shearFails.ctx = s.ctx.map (fun c => c.addReason .trimFail)
      ∧ s.shearFails.meas = s.meas ∧ s.shearFails.out = s.out ∧ s.shearFails.upset = s.upset := by
  simp [State.shearFails]

/-- A shear input in TRIM is taken by the Upset Unit. -/
theorem State.takeLevel_shear {i : Input} (he : s.engine = .trim) (hi : i = .shearHome ∨ i = .shearEnd) :
    s.takeLevel i = (s.acceptLevel i).shearMoved := by
  have running : (s.acceptLevel i).engine ≠ .configFault := by
    show s.engine ≠ .configFault
    rw [he]
    decide
  rcases hi with rfl | rfl
  · exact if_neg running
  · exact if_neg running

theorem State.shearMoved_advancing (he : s.engine = .trim) (hs : s.upset.shear = some .advancing) :
    s.shearMoved = if s.level .shearEnd then s.enterReturning else s := by
  rw [State.shearMoved, if_pos he, hs]

theorem State.shearMoved_returning (he : s.engine = .trim) (hs : s.upset.shear = some .returning) :
    s.shearMoved = if s.level .shearHome then s.endTrim else s := by
  rw [State.shearMoved, if_pos he, hs]

/-- The two steps of TRIM that end by an input. -/
theorem trimEnds (s : State) (c : WeldCtx) (he : s.engine = .trim) (hc : s.ctx = some c) :
    (s.upset.shear = some .advancing → s.inputDue .shearEnd = true → s.meas.inputs.shearEnd.sample = true →
      s.level .shearHome = false → ∃ t, exec (.inputLevelChange .shearEnd) s = .next t ∧ t.engine = .trim
        ∧ t.ctx = s.ctx ∧ t.upset = { s.upset with shear := some .returning, shearTimer := 0 }
        ∧ t.out = { s.out with shearAdvance := false, shearRetract := true })
    ∧ (s.upset.shear = some .returning → s.inputDue .shearHome = true → s.meas.inputs.shearHome.sample = true →
      s.wireForce ≠ 0 → ∃ t c', exec (.inputLevelChange .shearHome) s = .next t ∧ t.engine = .releasing
        ∧ t.ctx = some c' ∧ c'.reasons = c.reasons ∧ c'.releasingEntered = true
        ∧ t.stress.release = some .ramping ∧ t.stress.rampStart = some s.wireForce
        ∧ t.out = { s.out with velocity := 0, force := s.wireForce, shearAdvance := false, shearRetract := false })
    ∧ (s.upset.shear = some .advancing → s.level .shearEnd = false → s.inputDue .shearHome = true →
      ∃ t, exec (.inputLevelChange .shearHome) s = .next t ∧ t.engine = .trim ∧ t.ctx = s.ctx ∧ t.upset = s.upset
        ∧ t.out = s.out) := by
  refine ⟨fun shear due reached away => ?_, fun shear due reached wire => ?_, fun shear short due => ?_⟩
  · have moved : s.takeLevel .shearEnd = _ := (State.takeLevel_shear he (.inr rfl)).trans
      ((State.shearMoved_advancing (s := s.acceptLevel .shearEnd) he shear).trans
        ((if_pos ((State.acceptLevel_level .shearEnd).trans reached)).trans
          (State.enterReturning_away (s := s.acceptLevel .shearEnd) away)))
    refine ⟨s.inputEvent .shearEnd, rfl, ?_⟩
    rw [State.inputEvent_due due, moved]
    exact ⟨(State.declare_engine _).trans he, State.declare_ctx _, State.declare_upset _, State.declare_out _⟩
  · have moved : s.takeLevel .shearHome = _ := (State.takeLevel_shear he (.inl rfl)).trans
      ((State.shearMoved_returning (s := s.acceptLevel .shearHome) he shear).trans
        (if_pos ((State.acceptLevel_level .shearHome).trans reached)))
    obtain ⟨engine, ctx, release, start, out⟩ := State.endTrim_fields (s := s.acceptLevel .shearHome) wire
    have ctx : (s.acceptLevel .shearHome).endTrim.ctx = _ := ctx.trans (congrArg _ hc)
    refine ⟨s.inputEvent .shearHome, c.releasing (s.acceptLevel .shearHome).sheared.releaseIndex
      (s.acceptLevel .shearHome).sheared.mode, rfl, ?_⟩
    rw [State.inputEvent_due due, moved]
    exact ⟨(State.declare_engine _).trans engine, (State.declare_ctx _).trans ctx, rfl, rfl,
      (congrArg Stress.release (State.declare_stress _)).trans release,
      (congrArg Stress.rampStart (State.declare_stress _)).trans start, (State.declare_out _).trans out⟩
  · have moved : s.takeLevel .shearHome = s.acceptLevel .shearHome := (State.takeLevel_shear he (.inl rfl)).trans
      ((State.shearMoved_advancing (s := s.acceptLevel .shearHome) he shear).trans (if_neg (by
        have same : (s.acceptLevel .shearHome).level .shearEnd = s.level .shearEnd := rfl
        rw [same, short]
        decide)))
    refine ⟨s.inputEvent .shearHome, rfl, ?_⟩
    rw [State.inputEvent_due due, moved]
    exact ⟨(State.declare_engine _).trans he, State.declare_ctx _, State.declare_upset _, State.declare_out _⟩

/-! ### The end of HOLD, and the shear's timeouts -/

theorem State.enterTrim_home (i : Nat) (home : s.level .shearHome = true) (free : s.level .shearEnd = false) :
    s.enterTrim i = { (s.enterRecord .trim i).setShear true false with
      upset := { (s.enterRecord .trim i).upset with shear := some .advancing, shearTimer := 0 } } := by
  unfold State.enterTrim
  extract_lets s1
  have meas : s1.meas = s.meas := State.enterRecord_meas _ _ _
  refine if_pos ?_
  rw [State.level_congr meas, State.level_congr meas, home, free]
  rfl

/-- Settles O48: each step of the shear ends by its input or by its timeout. -/
theorem holdAndTrimEnd : Obligations.HoldAndTrimEnd := by
  refine ⟨?_, trimEnds, ?_⟩
  · intro s c f n m he hc hb time hn home free
    have due : s.holdEndDue = true := by
      rw [State.holdEndDue, State.recordHas_of hc hb]
      have phase : s.phaseTimer = c.phaseTimer := by simp [State.phaseTimer, hc]
      simp [he, phase, time]
    obtain ⟨v, hv⟩ : ∃ v, v = s.latch .holdEnd s.meas.intervalPos := ⟨_, rfl⟩
    have ctx : v.ctx = some (c.latched .holdEnd s.meas.intervalPos) := hv ▸ State.latch_milestone hc rfl _
    have meas : v.meas = s.meas := hv ▸ State.latch_meas _ _ _
    have out : v.out = s.out := hv ▸ State.latch_out _ _ _
    have ended : s.endHold = v.enterTrim c.nextIndex := by
      unfold State.endHold
      rw [← hv]
      dsimp only
      rw [ctx]
      exact if_pos (Programme.kindAt_of_body hn)
    have taken : s.holdEvent = _ := (State.event_of_due s due _).trans (congrArg State.declare (ended.trans
      (State.enterTrim_home c.nextIndex ((State.level_congr meas _).trans home) ((State.level_congr meas _).trans free))))
    refine ⟨s.holdEvent, (c.latched .holdEnd s.meas.intervalPos).entered .trim c.nextIndex v.yielded, rfl, ?_⟩
    rw [taken]
    simp only [State.declare_engine, State.declare_ctx, State.declare_upset, State.declare_out, State.setShear_engine,
      State.setShear_ctx, State.setShear_out, State.enterRecord_engine, State.enterRecord_entered ctx,
      State.enterRecord_out, out]
    exact ⟨trivial, trivial, rfl, rfl, rfl, rfl, trivial, trivial, trivial⟩
  · intro s c m he hc hb time
    have due : ∀ x, s.upset.shear = some x → s.shearDue x = true := fun x hx => by
      rw [State.shearDue, State.recordHas_of hc hb]
      simp [he, hx, time]
    obtain ⟨engine, ctx, meas, out, upset⟩ := State.shearFails_fields (s := s)
    rw [hc, Option.map_some] at ctx
    constructor
    · intro shear away
      have taken : s.shearEvent = _ := (State.event_of_due s (due _ shear) _).trans (congrArg State.declare
        (State.enterReturning_away ((State.level_congr meas _).trans away)))
      refine ⟨s.shearEvent, c.addReason .trimFail, rfl, ?_⟩
      rw [taken]
      simp only [State.declare_engine, State.declare_ctx, State.declare_upset, State.declare_out, State.setShear_engine,
        State.setShear_ctx, State.setShear_out, engine, ctx, out, he]
      exact ⟨trivial, trivial, trivial, trivial, trivial, trivial⟩
    · intro shear wire
      have same : s.shearFails.wireForce = s.wireForce := by
        have hold : (c.addReason .trimFail).forceHold = c.forceHold := by rw [WeldCtx.addReason_eq]
        rw [State.wireForce, State.wireForce, engine, out, ctx, hc]
        simp [hold]
      obtain ⟨engine', ctx', release, start, out'⟩ := State.endTrim_fields (s := s.shearFails) (by rwa [same])
      rw [ctx, Option.map_some] at ctx'
      have taken : s.shearReturnEvent = _ := State.event_of_due s (due _ shear) _
      refine ⟨s.shearReturnEvent,
        (c.addReason .trimFail).releasing s.shearFails.sheared.releaseIndex s.shearFails.sheared.mode, rfl, ?_⟩
      rw [taken]
      simp only [State.declare_engine, State.declare_ctx, State.declare_out, engine', ctx', out', same, out]
      exact ⟨trivial, trivial, rfl, trivial⟩

end
end Sys2Proof.Machine

/-! PROOFS. BOOST and UPSET (R81, R85 to R91): the entry to the stroke, CURRENT OFF, and the end in HOLD (O46, O47). -/

namespace Sys2Proof.Machine

section
variable {s t u : State}

/-! ### The record in force, by its kind -/

theorem WeldCtx.body_of_upset {c : WeldCtx} {r : UpsetRec} (h : c.upset? = some r) : c.body = some (.upset r) := by
  unfold WeldCtx.upset? at h
  cases hb : c.body with
  | none => simp [hb] at h
  | some b => cases b <;> simp_all [RecBody.asUpset]

theorem WeldCtx.body_of_boost {c : WeldCtx} {r : BoostRec} (h : c.boost? = some r) : c.body = some (.boost r) := by
  unfold WeldCtx.boost? at h
  cases hb : c.body with
  | none => simp [hb] at h
  | some b => cases b <;> simp_all [RecBody.asBoost]

theorem State.phaseTimer_of {c : WeldCtx} (hc : s.ctx = some c) : s.phaseTimer = c.phaseTimer := by
  simp [State.phaseTimer, hc]

/-! ### The regulator left -/

/-- A weld context with the regulator left in `mode` (R79, R83). -/
def WeldCtx.left (c : WeldCtx) (mode : Mode) : WeldCtx :=
  { c with
    openTime := if mode = .openGap then c.openTime + c.openRun else c.openTime
    sub := none, drawTarget := none, shortRun := 0, openRun := 0, onset := none, openMet := false, retract := none
    guard := none, abortTarget := none, abortStill := 0 }

theorem State.leaveRegulator_left {c : WeldCtx} (hc : s.ctx = some c) : s.leaveRegulator.ctx = some (c.left s.mode) := by
  rw [State.leaveRegulator_ctx, hc]
  rfl

/-! ### CURRENT OFF (R86) -/

/-- A weld context at CURRENT OFF, at the upset-current timer's value (R76, R82, R86). -/
def WeldCtx.currentOff (c : WeldCtx) (time : Nat) (p : Int) : WeldCtx :=
  { ({ c with curTime := some time } : WeldCtx).latched .currentOff p with
    energyStopped := true, winSum := 0, winCount := 0, pMeas := 0 }

theorem State.takeCurrentOff_ctx {c : WeldCtx} (hc : s.ctx = some c) :
    s.takeCurrentOff.ctx = some (c.currentOff s.upset.currentTimer.ms s.meas.intervalPos) := by
  unfold State.takeCurrentOff
  extract_lets s1 _ _ s2
  have ctx : s2.ctx = some { c with curTime := some s.upset.currentTimer.ms } := by
    show (s.ctx.map fun c => _) = _
    rw [hc]
    rfl
  have pos : s2.meas.intervalPos = s.meas.intervalPos := rfl
  rw [State.stopPower, State.onCtx_ctx, State.latch_milestone ctx rfl, pos]
  rfl

theorem State.takeCurrentOff_fields :
    s.takeCurrentOff.engine = s.engine ∧ s.takeCurrentOff.out = { s.out with contactor := false }
      ∧ s.takeCurrentOff.upset = { s.upset with currentTimer := s.upset.currentTimer.stop }
      ∧ s.takeCurrentOff.meas = s.meas ∧ s.takeCurrentOff.image = s.image
      ∧ s.takeCurrentOff.share = s.openContactor.share ∧ s.takeCurrentOff.yielded = s.yielded := by
  simp [State.takeCurrentOff, State.stopPower]

/-! ### The entry to UPSET (R85) -/

/-- A weld context at the entry to the UPSET record at index `i`. -/
def WeldCtx.stroke (c : WeldCtx) (i : Nat) (mode : Mode) (yielded : Bool) (p : Int) (fm : Nat) : WeldCtx :=
  { ((c.left mode).entered .upset i yielded).latched .upsetStart p with
    upStart := some p, upsetBegun := true, peak := some fm }

/-- The state at the entry to UPSET, before the record's speed and force are set. -/
def State.strokeBegun (s : State) (i : Nat) : State :=
  let s1 := (s.leaveRegulator.enterRecord .upset i).latch .upsetStart s.meas.intervalPos
  { s1.onCtx fun c =>
      { c with upStart := some s1.meas.intervalPos, upsetBegun := true, peak := some s1.meas.fm } with
    upset := { s1.upset with currentTimer := .started, stall := 0 } }

theorem State.enterUpset_eq (s : State) (i : Nat) :
    s.enterUpset i = match (s.strokeBegun i).ctx.bind WeldCtx.upset? with
      | none => s.strokeBegun i
      | some r =>
        if r.tuc = 0 then (((s.strokeBegun i).setVelocity r.speed).setForce (r.fu * 10)).takeCurrentOff
        else ((s.strokeBegun i).setVelocity r.speed).setForce (r.fu * 10) := rfl

theorem State.strokeBegun_ctx {c : WeldCtx} (hc : s.ctx = some c) (i : Nat) :
    (s.strokeBegun i).ctx = some (c.stroke i s.mode s.yielded s.meas.intervalPos s.meas.fm) := by
  have entered := State.enterRecord_entered (State.leaveRegulator_left hc) .upset i
  have latched := State.latch_milestone (k := .upsetStart) entered rfl s.meas.intervalPos
  unfold State.strokeBegun
  simp [latched, WeldCtx.stroke]

theorem State.strokeBegun_fields (s : State) (i : Nat) :
    (s.strokeBegun i).engine = .upset ∧ (s.strokeBegun i).out = s.out ∧ (s.strokeBegun i).meas = s.meas
      ∧ (s.strokeBegun i).upset = { s.upset with currentTimer := ⟨true, 0⟩, stall := 0 }
      ∧ (s.strokeBegun i).mode = .idle ∧ (s.strokeBegun i).yielded = false := by
  simp [State.strokeBegun, State.enterRecord_yielded, Timer.started]

/-- The stroke begins with current where t_uc is above 0 (R85, R86). -/
theorem State.enterUpset_stroke {c : WeldCtx} {i : Nat} {r : UpsetRec} (hc : s.ctx = some c)
    (hb : c.prog.body i = some (.upset r)) (h : 0 < r.tuc) :
    s.enterUpset i = ((s.strokeBegun i).setVelocity r.speed).setForce (r.fu * 10) := by
  have record : (s.strokeBegun i).ctx.bind WeldCtx.upset? = some r := by
    rw [State.strokeBegun_ctx hc]
    show ((some i).bind c.prog.body).bind RecBody.asUpset = some r
    rw [Option.bind_some, hb]
    rfl
  rw [State.enterUpset_eq, record]
  exact if_neg (by omega)

/-! ### The end of BOOST (R81) -/

/-- A weld context with the boost time taken (R81). -/
def WeldCtx.boosted (c : WeldCtx) : WeldCtx := { c with boostTime := some c.phaseTimer }

theorem State.endBoost_eq {c : WeldCtx} (hc : s.ctx = some c) :
    s.endBoost = (s.onCtx WeldCtx.boosted).enterUpset c.nextIndex := by
  have ctx : (s.onCtx WeldCtx.boosted).ctx = some c.boosted := by
    rw [State.onCtx_ctx, hc]
    rfl
  show (match (s.onCtx WeldCtx.boosted).ctx with
    | none => s.onCtx WeldCtx.boosted
    | some c => (s.onCtx WeldCtx.boosted).enterUpset c.nextIndex) = _
  rw [ctx]
  rfl

/-- BOOST ends in the stroke of the UPSET record that follows (R81, R85). -/
theorem State.endBoost_stroke {c : WeldCtx} {r : UpsetRec} (hc : s.ctx = some c)
    (hn : c.prog.body c.nextIndex = some (.upset r)) (h : 0 < r.tuc) :
    s.endBoost.engine = .upset
      ∧ s.endBoost.ctx = some (c.boosted.stroke c.nextIndex s.mode s.yielded s.meas.intervalPos s.meas.fm)
      ∧ s.endBoost.upset = { s.upset with currentTimer := ⟨true, 0⟩, stall := 0 }
      ∧ s.endBoost.out = { s.out with velocity := r.speed, force := r.fu * 10 } := by
  have ctx : (s.onCtx WeldCtx.boosted).ctx = some c.boosted := by
    rw [State.onCtx_ctx, hc]
    rfl
  obtain ⟨engine, out, -, upset, -, -⟩ := State.strokeBegun_fields (s.onCtx WeldCtx.boosted) c.nextIndex
  rw [State.endBoost_eq hc, State.enterUpset_stroke ctx hn h]
  simp only [State.setForce_engine, State.setVelocity_engine, State.setForce_ctx, State.setVelocity_ctx,
    State.setForce_upset, State.setVelocity_upset, State.setForce_out, State.setVelocity_out, engine, upset, out,
    State.strokeBegun_ctx ctx]
  exact ⟨trivial, rfl, rfl, rfl⟩

/-- Settles O46: the boost time enters the stroke, and CURRENT OFF is the upset-current timer's end. -/
theorem boostAndCurrentEnd : Obligations.BoostAndCurrentEnd := by
  constructor
  · intro s c b r he hc hb time hn current
    have due : s.boostTimeDue = true := by
      rw [State.boostTimeDue, State.recordHas_of hc (WeldCtx.body_of_boost hb), State.phaseTimer_of hc]
      simp [he, RecBody.asBoost, time]
    obtain ⟨engine, ctx, upset, out⟩ := State.endBoost_stroke hc hn current
    refine ⟨s.boostEvent, c.boosted.stroke c.nextIndex s.mode s.yielded s.meas.intervalPos s.meas.fm, rfl, ?_⟩
    rw [State.boostEvent, State.event_of_due s due, State.declare_engine, State.declare_ctx, State.declare_upset,
      State.declare_out]
    exact ⟨engine, ctx, rfl, rfl, rfl, rfl, rfl, rfl, rfl, upset, out⟩
  · intro s c r he hc hb off time
    have due : s.currentOffDue = true := by
      rw [State.currentOffDue, State.recordHas_of hc (WeldCtx.body_of_upset hb)]
      simp [he, hc, off, RecBody.asUpset, time]
    obtain ⟨engine, out, upset, -, image, share, -⟩ := State.takeCurrentOff_fields (s := s)
    have ctx := State.takeCurrentOff_ctx hc
    have present : s.takeCurrentOff.declare.share.decl.present = s.openContactor.share.hold.getD s.image.standby := by
      have load : s.takeCurrentOff.tableLoad = s.image.standby := by
        rw [State.tableLoad, ctx, engine, he, image]
        rfl
      rw [State.declare_decl]
      show s.takeCurrentOff.presentLoad = _
      rw [State.presentLoad, share, load]
    refine ⟨s.currentOffEvent, c.currentOff s.upset.currentTimer.ms s.meas.intervalPos, rfl, ?_⟩
    rw [State.currentOffEvent, State.event_of_due s due, present, State.declare_engine, State.declare_ctx,
      State.declare_upset, State.declare_out]
    refine ⟨engine.trans he, out, ctx, rfl, rfl, rfl, rfl, rfl, upset, fun held => ?_, fun open' free => ?_⟩
    · simp [State.openContactor, held]
    · simp [State.openContactor, open', free]

/-! ### The entry to HOLD (R88, R91) -/

theorem State.enterHold_fields {c : WeldCtx} {i f n : Nat} (hc : s.ctx = some c) (hb : c.prog.body i = some (.hold f n)) :
    (s.enterHold i).engine = .hold ∧ (s.enterHold i).ctx = some (c.entered .hold i s.yielded)
      ∧ (s.enterHold i).out = { s.out with velocity := (min s.image.creep s.image.vMax : Nat), force := f * 10 } := by
  have ctx := State.enterRecord_entered hc .hold i
  have record : (s.enterRecord .hold i).ctx.bind WeldCtx.body = some (.hold f n) := by
    rw [ctx]
    show (some i).bind c.prog.body = _
    rw [Option.bind_some, hb]
  unfold State.enterHold
  dsimp only
  rw [record]
  simp [ctx]

/-- The state in which the stroke ends, the current off (R88). -/
def State.strokeOff (s : State) : State :=
  if (s.ctx.bind fun c => c.curTime).isSome then s else s.takeCurrentOff

/-- A weld context at the end of the stroke (R88). -/
def WeldCtx.struck (c : WeldCtx) (p : Int) (fm : Nat) : WeldCtx :=
  { c with distance := some (c.upsetAdvance p), peak := some (max (c.peak.getD 0) fm) }

theorem State.endUpset_eq {c : WeldCtx} (hc : s.strokeOff.ctx = some c) :
    s.endUpset = ((s.strokeOff.onCtx fun c => c.struck s.strokeOff.meas.intervalPos s.strokeOff.meas.fm).latch .upsetEnd
        s.strokeOff.meas.intervalPos).enterHold c.nextIndex := by
  have ctx := State.latch_milestone (k := .upsetEnd)
    (s := s.strokeOff.onCtx fun c => c.struck s.strokeOff.meas.intervalPos s.strokeOff.meas.fm)
    (c := c.struck s.strokeOff.meas.intervalPos s.strokeOff.meas.fm)
    (by rw [State.onCtx_ctx, hc]; rfl) rfl s.strokeOff.meas.intervalPos
  unfold State.endUpset
  extract_lets s1 s2 s3
  have latched : s3.ctx = _ := ctx
  rw [latched]
  rfl

/-- The current is off at the end of the stroke: at the value it had, or at the timer's now (R88). -/
theorem State.strokeOff_spec {c : WeldCtx} (hc : s.ctx = some c) :
    ∃ d, s.strokeOff.ctx = some d ∧ d.curTime = some (c.curTime.getD s.upset.currentTimer.ms) ∧ d.upStart = c.upStart
      ∧ d.peak = c.peak ∧ d.weldTime = c.weldTime ∧ d.prog = c.prog ∧ d.phase = c.phase
      ∧ s.strokeOff.meas = s.meas ∧ s.strokeOff.image = s.image
      ∧ s.strokeOff.out = { s.out with contactor := if c.curTime = none then false else s.out.contactor } := by
  cases h : c.curTime with
  | none =>
    have off : s.strokeOff = s.takeCurrentOff := by simp [State.strokeOff, hc, h]
    obtain ⟨-, out, -, meas, image, -, -⟩ := State.takeCurrentOff_fields (s := s)
    rw [off]
    exact ⟨_, State.takeCurrentOff_ctx hc, rfl, rfl, rfl, rfl, rfl, rfl, meas, image, out⟩
  | some n =>
    have off : s.strokeOff = s := by simp [State.strokeOff, hc, h]
    rw [off]
    exact ⟨c, hc, h, rfl, rfl, rfl, rfl, rfl, rfl, rfl, rfl⟩

/-- UPSET ends in the HOLD record that follows (R88, R91). -/
theorem State.endUpset_hold {c : WeldCtx} {f n : Nat} (hc : s.ctx = some c)
    (hn : c.prog.body c.nextIndex = some (.hold f n)) :
    ∃ c', s.endUpset.engine = .hold ∧ s.endUpset.ctx = some c' ∧ c'.phase = some c.nextIndex ∧ c'.phaseTimer = 0
      ∧ c'.curTime = some (c.curTime.getD s.upset.currentTimer.ms)
      ∧ c'.distance = some (s.meas.intervalPos - c.upStart.getD s.meas.intervalPos).toNat
      ∧ c'.peak = some (max (c.peak.getD 0) s.meas.fm)
      ∧ c'.latches.getLast? = some ⟨.upsetEnd, s.meas.intervalPos, c.weldTime⟩
      ∧ s.endUpset.out = { s.out with
          contactor := if c.curTime = none then false else s.out.contactor
          velocity := (min s.image.creep s.image.vMax : Nat), force := f * 10 } := by
  obtain ⟨d, ctx, time, start, peak, weld, prog, phase, meas, image, out⟩ := State.strokeOff_spec hc
  have next : d.nextIndex = c.nextIndex := by rw [WeldCtx.nextIndex, WeldCtx.nextIndex, phase]
  obtain ⟨v, hv⟩ : ∃ v, v = (s.strokeOff.onCtx fun c => c.struck s.meas.intervalPos s.meas.fm).latch .upsetEnd
      s.meas.intervalPos := ⟨_, rfl⟩
  have struck : v.ctx = some ((d.struck s.meas.intervalPos s.meas.fm).latched .upsetEnd s.meas.intervalPos) := by
    rw [hv]
    exact State.latch_milestone (by rw [State.onCtx_ctx, ctx]; rfl) rfl _
  have lines : v.out = s.strokeOff.out := hv ▸ State.latch_out _ _ _
  have limits : v.image = s.image := hv ▸ (State.latch_image _ _ _).trans image
  have ended : s.endUpset = v.enterHold c.nextIndex := by rw [State.endUpset_eq ctx, meas, next, hv]
  have record : (WeldCtx.latched (d.struck s.meas.intervalPos s.meas.fm) .upsetEnd s.meas.intervalPos).prog.body c.nextIndex
      = some (.hold f n) := by
    show d.prog.body c.nextIndex = _
    rw [prog, hn]
  obtain ⟨engine, ctx', out'⟩ := State.enterHold_fields struck record
  rw [ended]
  refine ⟨_, engine, ctx', rfl, rfl, time, ?_, ?_, ?_, ?_⟩
  · show some ((s.meas.intervalPos - d.upStart.getD s.meas.intervalPos).toNat) = _
    rw [start]
  · show some (max (d.peak.getD 0) s.meas.fm) = _
    rw [peak]
  · rw [← weld]
    exact List.getLast?_concat
  · rw [out', lines, limits, out]

/-- Settles O47: stall and timeout end UPSET alike. -/
theorem upsetEnds : Obligations.UpsetEnds := by
  intro s c u f n i he hc hu hn hi
  obtain ⟨c', engine, ctx, phase, timer, time, distance, peak, latch, out⟩ := State.endUpset_hold hc hn
  have taken : exec i s = .next s.endUpset.declare := by
    rcases hi with ⟨rfl, stall⟩ | ⟨rfl, timeout⟩
    · have stalled : decide (Config.upsetStallMs ≤ s.upset.stall) = true := decide_eq_true stall
      have due : s.upsetStallDue = true := by simp [State.upsetStallDue, he, stalled]
      exact congrArg Host.Outcome.next (State.event_of_due s due _)
    · have due : s.upsetTimeoutDue = true := by
        rw [State.upsetTimeoutDue, State.recordHas_of hc (WeldCtx.body_of_upset hu), State.phaseTimer_of hc]
        simp [he, RecBody.asUpset, timeout]
      exact congrArg Host.Outcome.next (State.event_of_due s due _)
  refine ⟨s.endUpset.declare, c', taken, ?_⟩
  rw [State.declare_engine, State.declare_ctx, State.declare_out, out]
  refine ⟨engine, ctx, phase, timer, time, distance, peak, latch, rfl, rfl, fun off => ?_⟩
  exact if_pos off

end
end Sys2Proof.Machine

/-! PROOFS. The end of PULL and the entry to ADMITTING (R6, R51, R52, R115): O41. -/

namespace Sys2Proof.Machine

section
variable {s t u : State}

theorem WeldCtx.body_of_pull {c : WeldCtx} {r : PullRec} (h : c.pull? = some r) : c.body = some (.pull r) := by
  unfold WeldCtx.pull? at h
  cases hb : c.body with
  | none => simp [hb] at h
  | some b => cases b <;> simp_all [RecBody.asPull]

/-! ### A rise asked (R115) -/

theorem State.outranked_congr (peers : t.share.peers = s.share.peers) (station : t.station = s.station) (cls : Nat) :
    t.outranked cls = s.outranked cls := by
  rw [State.outranked, State.outranked, peers, station]

/-- A rise of the Sequencer: SETTLING, or WITHDRAWN behind a higher-ranked one, with the admission wait started (R115). -/
theorem State.raise_rise (claim cls : Nat) :
    (s.raise .sequencer claim cls).share.rise =
      { state := if s.outranked cls then .withdrawn else .settling
        ask := some ⟨.sequencer, claim, cls⟩
        settle := ⟨!s.outranked cls, 0⟩
        admitWait := ⟨true, 0⟩ } := by
  unfold State.raise
  rw [State.placeDemand_share_rise]
  cases s.outranked cls
  · rfl
  · rfl

/-- A rise asked leaves what a weld writes besides. -/
theorem State.raise_fields (source : RiseSource) (claim cls : Nat) :
    (s.raise source claim cls).engine = s.engine ∧ (s.raise source claim cls).ctx = s.ctx
      ∧ (s.raise source claim cls).awaiting = s.awaiting ∧ (s.raise source claim cls).yielded = s.yielded
      ∧ (s.raise source claim cls).out = s.out ∧ (s.raise source claim cls).mode = s.mode
      ∧ (s.raise source claim cls).meas = s.meas ∧ (s.raise source claim cls).records = s.records
      ∧ (s.raise source claim cls).image = s.image := by
  simp [State.raise]

/-! ### The entry to ADMITTING (R6) -/

/-- A weld context with no record in force, as ADMITTING has it (R6). -/
def WeldCtx.admitting (c : WeldCtx) : WeldCtx :=
  { c with phase := none, phaseTimer := 0, exitMet := false, moveDue := false }

/-- The state in which ADMITTING asks its rise. -/
def State.admittingBegun (s : State) : State :=
  ({ s.onCtx WeldCtx.admitting with engine := .admitting, awaiting := true }.setVelocity 0).setForce 0

theorem State.enterAdmitting_eq {c : WeldCtx} (hc : s.ctx = some c) :
    s.enterAdmitting = match c.prog.firstCurrent.bind c.prog.body with
      | some (.preheat r) => s.admittingBegun.raise .sequencer r.load 2
      | some (.flash r) => s.admittingBegun.raise .sequencer r.load 1
      | _ => s.admittingBegun := by
  have ctx : s.admittingBegun.ctx = some c.admitting := by
    show s.ctx.map _ = _
    rw [hc]
    rfl
  show (match s.admittingBegun.ctx with
    | none => s.admittingBegun
    | some c => match c.prog.firstCurrent.bind c.prog.body with
      | some (.preheat r) => s.admittingBegun.raise .sequencer r.load 2
      | some (.flash r) => s.admittingBegun.raise .sequencer r.load 1
      | _ => s.admittingBegun) = _
  rw [ctx]
  rfl

theorem State.enterAdmitting_fields {c : WeldCtx} (hc : s.ctx = some c) :
    s.enterAdmitting.engine = .admitting ∧ s.enterAdmitting.awaiting = true
      ∧ s.enterAdmitting.ctx = some c.admitting ∧ s.enterAdmitting.out = { s.out with velocity := 0, force := 0 }
      ∧ s.enterAdmitting.meas = s.meas ∧ s.enterAdmitting.records = s.records := by
  have ctx : s.admittingBegun.ctx = some c.admitting := by
    show s.ctx.map _ = _
    rw [hc]
    rfl
  have raised : ∀ claim cls, (s.admittingBegun.raise .sequencer claim cls).engine = .admitting
      ∧ (s.admittingBegun.raise .sequencer claim cls).awaiting = true
      ∧ (s.admittingBegun.raise .sequencer claim cls).ctx = some c.admitting
      ∧ (s.admittingBegun.raise .sequencer claim cls).out = { s.out with velocity := 0, force := 0 }
      ∧ (s.admittingBegun.raise .sequencer claim cls).meas = s.meas
      ∧ (s.admittingBegun.raise .sequencer claim cls).records = s.records := by
    intro claim cls
    obtain ⟨engine, ctx', awaiting, -, out, -, meas, records, -⟩ :=
      State.raise_fields (s := s.admittingBegun) .sequencer claim cls
    rw [engine, ctx', awaiting, out, meas, records]
    exact ⟨rfl, rfl, ctx, rfl, rfl, rfl⟩
  rw [State.enterAdmitting_eq hc]
  split
  · exact raised _ _
  · exact raised _ _
  · exact ⟨rfl, rfl, ctx, rfl, rfl, rfl⟩

theorem State.enterAdmitting_preheat {c : WeldCtx} {k : Nat} {r : PreheatRec} (hc : s.ctx = some c)
    (hk : c.prog.firstCurrent = some k) (hb : c.prog.body k = some (.preheat r)) :
    s.enterAdmitting = s.admittingBegun.raise .sequencer r.load 2 := by
  rw [State.enterAdmitting_eq hc, hk, Option.bind_some, hb]

theorem State.enterAdmitting_flash {c : WeldCtx} {k : Nat} {r : FlashRec} (hc : s.ctx = some c)
    (hk : c.prog.firstCurrent = some k) (hb : c.prog.body k = some (.flash r)) :
    s.enterAdmitting = s.admittingBegun.raise .sequencer r.load 1 := by
  rw [State.enterAdmitting_eq hc, hk, Option.bind_some, hb]

/-! ### The end of PULL (R51, R52) -/

/-- A weld context at the end of PULL, at a position and a mean force (R51). -/
def WeldCtx.pullEnded (c : WeldCtx) (r : PullRec) (p : Int) (hold : Nat) : WeldCtx :=
  let c1 := { c.latched .pullEnd p with pullAchieved := some (c.pulled p), forceHold := some hold }
  if c.pulled p + r.tolerance < c.pReq then c1.addReason .pullShort else c1

theorem State.endPull_eq {c : WeldCtx} {r : PullRec} (hc : s.ctx = some c) (hr : c.pull? = some r) :
    s.endPull = State.enterAdmitting { s.latch .pullEnd s.meas.position with
      ctx := some (c.pullEnded r s.meas.position (min s.meas.fm (s.image.fMax * 10))) } := by
  have ctx := State.latch_milestone (k := .pullEnd) hc rfl s.meas.position
  have pull : (c.latched .pullEnd s.meas.position).pull? = some r := hr
  unfold State.endPull
  extract_lets s1
  have ctx : s1.ctx = some (c.latched .pullEnd s.meas.position) := ctx
  have meas : s1.meas = s.meas := State.latch_meas _ _ _
  have image : s1.image = s.image := State.latch_image _ _ _
  rw [ctx]
  dsimp only
  rw [meas, image, pull]
  rfl

theorem WeldCtx.pullEnded_reasons (c : WeldCtx) (r : PullRec) (p : Int) (hold : Nat) :
    (c.pullEnded r p hold).reasons =
      if c.pulled p + r.tolerance < c.pReq then (c.addReason .pullShort).reasons else c.reasons := by
  unfold WeldCtx.pullEnded
  dsimp only
  split
  · rw [WeldCtx.addReason_reasons, WeldCtx.addReason_reasons]
    rfl
  · rfl

theorem WeldCtx.pullEnded_eq (c : WeldCtx) (r : PullRec) (p : Int) (hold : Nat) :
    c.pullEnded r p hold = { c.latched .pullEnd p with
      pullAchieved := some (c.pulled p), forceHold := some hold, reasons := (c.pullEnded r p hold).reasons } := by
  unfold WeldCtx.pullEnded
  dsimp only
  split
  · exact WeldCtx.addReason_eq _ _
  · rfl

/-- The state in which the end of PULL enters ADMITTING. -/
def State.pullLeft (s : State) (c : WeldCtx) (r : PullRec) : State :=
  { s.latch .pullEnd s.meas.position with
    ctx := some (c.pullEnded r s.meas.position (min s.meas.fm (s.image.fMax * 10))) }

/-- What the end of PULL leaves, by whatever it ends (R51, R52). -/
theorem State.endPull_fields {c : WeldCtx} {r : PullRec} (hc : s.ctx = some c) (hr : c.pull? = some r) :
    ∃ c', s.endPull.engine = .admitting ∧ s.endPull.awaiting = true ∧ s.endPull.ctx = some c' ∧ c'.phase = none
      ∧ c'.phaseTimer = 0 ∧ c'.pullAchieved = some (s.meas.position - c.pullStart.getD s.meas.position).toNat
      ∧ c'.forceHold = some (min s.meas.fm (s.image.fMax * 10))
      ∧ c'.latches = c.latches ++ [⟨.pullEnd, s.meas.position, c.weldTime⟩]
      ∧ c'.reasons = (if (s.meas.position - c.pullStart.getD s.meas.position).toNat + r.tolerance < c.pReq
          then (c.addReason .pullShort).reasons else c.reasons)
      ∧ s.endPull.out = { s.out with velocity := 0, force := 0 } ∧ s.endPull.meas = s.meas
      ∧ s.endPull.records = s.records := by
  have ended : s.endPull = (s.pullLeft c r).enterAdmitting := State.endPull_eq hc hr
  obtain ⟨engine, awaiting, ctx, out, meas, records⟩ := State.enterAdmitting_fields (s := s.pullLeft c r) rfl
  have lines : (s.pullLeft c r).out = s.out := State.latch_out _ _ _
  have measured : (s.pullLeft c r).meas = s.meas := State.latch_meas _ _ _
  have kept : (s.pullLeft c r).records = s.records := State.latch_records _ _ _
  rw [ended]
  refine ⟨_, engine, awaiting, ctx, rfl, rfl, ?_, ?_, ?_, ?_, out.trans (by rw [lines]), meas.trans measured,
    records.trans kept⟩
  · show (c.pullEnded r _ _).pullAchieved = _
    rw [WeldCtx.pullEnded_eq]
    rfl
  · show (c.pullEnded r _ _).forceHold = _
    rw [WeldCtx.pullEnded_eq]
  · show (c.pullEnded r _ _).latches = _
    rw [WeldCtx.pullEnded_eq]
    rfl
  · exact c.pullEnded_reasons _ _ _

/-- Settles O41: PULL ends alike by stall and by timeout, and ADMITTING asks the rise of the first current phase. -/
theorem pullEnds : Obligations.PullEnds := by
  intro s c r i he hc hr hi
  have taken : exec i s = .next s.endPull.declare := by
    rcases hi with ⟨rfl, stall⟩ | ⟨rfl, timeout⟩
    · have stalled : decide (Config.pullStallMs ≤ s.stress.pullStall) = true := decide_eq_true stall
      have due : s.pullStallDue = true := by simp [State.pullStallDue, he, stalled]
      exact congrArg Host.Outcome.next (State.event_of_due s due _)
    · have due : s.pullTimeoutDue = true := by
        rw [State.pullTimeoutDue, State.recordHas_of hc (WeldCtx.body_of_pull hr), State.phaseTimer_of hc]
        simp [he, RecBody.asPull, timeout]
      exact congrArg Host.Outcome.next (State.event_of_due s due _)
  obtain ⟨c', engine, awaiting, ctx, phase, timer, achieved, hold, latches, reasons, out, meas, records⟩ :=
    State.endPull_fields hc hr
  refine ⟨s.endPull.declare, c', taken, ?_⟩
  rw [State.declare_engine, State.declare_awaiting, State.declare_ctx, State.declare_out, State.declare_meas,
    State.declare_records, State.declare_share_rise]
  refine ⟨engine, awaiting, ctx, phase, timer, achieved, hold, latches, reasons, out, meas, records, ?_, ?_⟩
  all_goals
    intro k q hk hb
    have prog : (c.pullEnded r s.meas.position (min s.meas.fm (s.image.fMax * 10))).prog = c.prog := by
      rw [WeldCtx.pullEnded_eq]
      rfl
    have asked : ∀ cls, (s.pullLeft c r).admittingBegun.outranked cls = s.outranked cls :=
      State.outranked_congr (congrArg Share.peers (State.latch_share _ _ _)) (State.latch_station _ _ _)
    have ended : s.endPull = (s.pullLeft c r).enterAdmitting := State.endPull_eq hc hr
    rw [ended]
  · rw [State.enterAdmitting_preheat (s := s.pullLeft c r) rfl (by rw [prog, hk]) (by rw [prog, hb]), State.raise_rise, asked]
    exact ⟨rfl, rfl, rfl, rfl⟩
  · rw [State.enterAdmitting_flash (s := s.pullLeft c r) rfl (by rw [prog, hk]) (by rw [prog, hb]), State.raise_rise, asked]
    exact ⟨rfl, rfl, rfl, rfl⟩

end
end Sys2Proof.Machine

/-! PROOFS. The Measurement Unit (R143 to R147, R154): the 10 ms sample, the encoder, the contactor comparison, and the stops
they report in HOLD (O29, O31, O34). -/

namespace Sys2Proof.Machine

section
variable {s t u : State}

/-! ### A stop in HOLD (R12, R21) -/

theorem State.unitsAtStop_hold (he : s.engine = .hold) :
    s.unitsAtStop.ctx = s.ctx.map fun c =>
      { c.left s.mode with energyStopped := true, winSum := 0, winCount := 0, pMeas := 0 } := by
  unfold State.unitsAtStop State.leavePull State.stopPower
  simp only [he, reduceCtorEq, if_false, State.onCtx_ctx, State.leaveRegulator_ctx, Option.map_map]
  rfl

/-- After UPSET START a stop fixes the outcome REJECT, with its cause among the reasons (R21). -/
theorem State.stopHead_rejected {c : WeldCtx} (hc : s.commandStop.unitsAtStop.ctx = some c) (ho : c.outcome = none)
    (hu : c.upsetBegun = true) (x : StopCause) :
    (s.stopHead x).ctx = some { WeldCtx.addReason { c with faults := appendFault c.faults x, phase := none } x.reason with
      outcome := some .reject } := by
  rw [State.stopHead_eq, State.settleAtStop]
  simp [hc, ho, hu, State.settle_ctx]

theorem State.stopHead_hold {c : WeldCtx} (he : s.engine = .hold) (hc : s.ctx = some c) (ho : c.outcome = none)
    (hu : c.upsetBegun = true) (x : StopCause) :
    ∃ c', (s.stopHead x).ctx = some c' ∧ c'.outcome = some .reject ∧ c'.faults = appendFault c.faults x
      ∧ x.reason ∈ c'.reasons ∧ c'.phase = none := by
  have units := State.unitsAtStop_hold (s := s.commandStop) (by simp [State.commandStop, he])
  rw [State.commandStop_ctx, hc] at units
  refine ⟨_, State.stopHead_rejected units ho hu x, rfl, ?_, WeldCtx.mem_addReason _ _, ?_⟩
  · rw [WeldCtx.addReason_eq]
    rfl
  · rw [WeldCtx.addReason_eq]

/-- A stop-class cause changes nothing where no weld is in flight (R12). -/
theorem State.stopCause_ready (he : s.engine = .ready) (x : StopCause) : s.stopCause x = s := by
  rw [State.stopCause, he]

theorem State.stopCause_hold (he : s.engine = .hold) (x : StopCause) : s.stopCause x = s.stopHead x := by
  rw [State.stopCause, he]

theorem mem_appendFault (l : List StopCause) (x : StopCause) : x ∈ appendFault l x ∨ 4 ≤ l.length := by
  unfold appendFault
  split
  · exact .inl (by simp)
  · exact .inr (by omega)

/-! ### The 10 ms sample -/

theorem State.handSample_eq (s : State) (p : Int) (i v f : Nat) (b : Bool) :
    s.handSample p i v f b = { s with trace := (s.handSample p i v f b).trace } := by
  unfold State.handSample
  split
  · rfl
  · extract_lets
    split
    · rfl
    · rfl

theorem State.takeSample_eq (s : State) :
    s.takeSample = { s with
      trace := s.takeSample.trace
      meas := { s.meas with
        velocity := s.meas.nextVelocity
        prevSample := some s.meas.intervalPos
        homedInSample := s.meas.homedNext
        homedNext := false
        sumI := 0
        sumU := 0
        sumF := 0
        sampleIntervals := 0
        sampleNo := (s.meas.sampleNo + 1) % 10 } } :=
  State.handSample_eq _ _ _ _ _ _

theorem State.sampleEvent_due (h : 5 ≤ s.meas.sampleIntervals) : s.sampleEvent = s.takeSample.declare :=
  State.event_of_due s (decide_eq_true h) _

/-- Settles O29: the sample writes its own sums and the traces. -/
theorem tenMsSampleSetsTheVelocity : Obligations.TenMsSampleSetsTheVelocity := by
  intro s h
  refine ⟨s.sampleEvent, rfl, ?_⟩
  rw [State.sampleEvent_due h, State.takeSample_eq]
  simp only [State.declare_meas, State.declare_ctx, State.declare_engine, State.declare_out, State.declare_slots,
    State.declare_records, and_self, and_true]
  refine ⟨fun p homed before => ?_, fun none => ?_⟩
  · rw [Meas.nextVelocity, homed, before]
    rfl
  · rcases none with homed | first
    · rw [Meas.nextVelocity, if_pos homed]
    · rw [Meas.nextVelocity, first]
      exact ite_self _

/-! ### The encoder -/

theorem State.ifDecoding_good (h : s.loader = .good) (f : State → State) : s.ifDecoding f = (f s).declare := if_pos h

/-- The state after a quadrature error, before POSITION is reported (R147). -/
def State.unhomed (s : State) : State := { s with meas := { s.meas with homed := false, positionError := true } }

theorem State.quadratureError_eq (s : State) :
    s.quadratureError = if s.meas.positionError then s.unhomed else s.unhomed.stopCause .position := rfl

/-- Settles O31: each row of the encoder, and POSITION where no position error stood. -/
theorem encoderCommandsAct : Obligations.EncoderCommandsAct := by
  constructor
  · intro s good
    refine ⟨fun b p hp low high => ?_, fun unhomed => ?_, fun homed near => ?_⟩
    · have counted : s.countEdge b = { s with meas := { s.meas with position := p } } := by
        unfold State.countEdge
        extract_lets q
        have position : q = p := hp.symm
        rw [position]
        exact if_pos (by simp [inRange32, low, high])
      refine ⟨(s.countEdge b).declare, congrArg Host.Outcome.next (State.ifDecoding_good good _), ?_⟩
      rw [counted]
      exact State.declare_declaredAs _
    · refine ⟨s.passMark.declare, congrArg Host.Outcome.next (State.ifDecoding_good good _), ?_⟩
      have homed : s.passMark = { s with meas :=
          { s.meas with
            position := s.image.refPosition
            homed := true
            positionError := false
            homedInSample := if s.meas.sampleIntervals < 5 then true else s.meas.homedInSample
            homedNext := if s.meas.sampleIntervals < 5 then s.meas.homedNext else true } } := by
        rw [State.passMark, if_neg (by rw [unhomed]; decide)]
        by_cases h : s.meas.sampleIntervals < 5
        · have h' : ¬ 5 ≤ s.meas.sampleIntervals := by omega
          simp [h, h']
        · have h' : 5 ≤ s.meas.sampleIntervals := by omega
          simp [h, h']
      rw [homed]
      exact State.declare_declaredAs _
    · refine ⟨s.passMark.declare, congrArg Host.Outcome.next (State.ifDecoding_good good _), ?_⟩
      have same : s.passMark = s := by
        rw [State.passMark, if_pos homed, if_neg (by omega)]
      rw [same]
      exact State.declare_declaredAs _
  · intro s e good
    have row : exec (.quadratureError e) s = .next s.quadratureError.declare := by
      cases e
      · exact congrArg Host.Outcome.next (State.ifDecoding_good good _)
      · exact congrArg Host.Outcome.next (State.ifDecoding_good good _)
    constructor
    · intro quiet
      have taken : s.quadratureError = s.unhomed := by
        rw [State.quadratureError_eq]
        rcases quiet with ready | stood
        · rw [State.stopCause_ready (s := s.unhomed) ready, ite_self]
        · rw [if_pos stood]
      refine ⟨_, row, ?_⟩
      rw [taken]
      exact State.declare_declaredAs _
    · intro c he first hc ho hu
      have taken : s.quadratureError = s.unhomed.stopHead .position := by
        rw [State.quadratureError_eq, if_neg (by rw [first]; decide), State.stopCause_hold (s := s.unhomed) he]
      obtain ⟨c', ctx, outcome, faults, -, -⟩ := State.stopHead_hold (s := s.unhomed) he hc ho hu .position
      refine ⟨_, c', row, ?_⟩
      rw [taken, State.declare_engine, State.declare_meas, State.declare_ctx, State.stopHead_engine, State.stopHead_meas]
      exact ⟨rfl, rfl, rfl, ctx, outcome, faults ▸ mem_appendFault _ _⟩

/-! ### The contactor comparison (R154) -/

theorem State.contactorEvent_due (he : s.engine ≠ .configFault) (time : s.image.fbTime < s.meas.fbTimer)
    (h : s.meas.fbReported = false) : s.contactorEvent = s.contactorFault.declare :=
  State.event_of_due s (by simp [State.contactorDue, he, time, h]) _

/-- Settles O34: the comparison reads the level the interval accepts, and the report is made once. -/
theorem contactorFeedbackIsReported : Obligations.ContactorFeedbackIsReported := by
  constructor
  · intro s b he hb
    have compared : s.compareContactor = if s.out.contactor == b then
        { s with meas := { s.meas with fbTimer := 0, fbReported := false } }
        else { s with meas := { s.meas with fbTimer := s.meas.fbTimer + 2 } } := by
      rw [State.compareContactor, if_neg he, State.contactorAgrees, hb]
      rfl
    rw [compared]
    exact ⟨fun h => if_pos (by simp [h]), fun h => if_neg (by simpa using fun g => h g.symm)⟩
  · intro s he time
    refine ⟨fun ready first => ?_, fun reported => ?_, fun c hold first hc ho hu => ?_⟩
    · refine ⟨s.contactorEvent, rfl, ?_⟩
      rw [State.contactorEvent_due he time first, State.contactorFault,
        State.stopCause_ready (s := { s with meas := { s.meas with fbReported := true } }) ready]
      exact State.declare_declaredAs _
    · have quiet : s.contactorDue = false := by simp [State.contactorDue, reported]
      exact congrArg Host.Outcome.next (if_neg (by rw [quiet]; decide))
    · obtain ⟨v, hv⟩ : ∃ v : State, v = { s with meas := { s.meas with fbReported := true } } := ⟨_, rfl⟩
      have engine : v.engine = .hold := hv ▸ hold
      have ctx : v.ctx = some c := hv ▸ hc
      obtain ⟨c', ctx', outcome, faults, reason, phase⟩ := State.stopHead_hold engine ctx ho hu .contactor
      refine ⟨s.contactorEvent, c', rfl, ?_⟩
      rw [State.contactorEvent_due he time first, State.contactorFault, ← hv, State.stopCause_hold engine,
        State.declare_engine, State.declare_ctx, State.declare_meas, State.declare_out, State.stopHead_engine,
        State.stopHead_meas, State.stopHead_out, hv]
      exact ⟨rfl, hv ▸ ctx', outcome, faults, reason, phase, rfl, rfl⟩

end
end Sys2Proof.Machine

/-! PROOFS. Accepted input levels (R44, R150, R151, R153): what every input leaves, the CLAMP exit, and CLAMP LOST (O32). -/

namespace Sys2Proof.Machine

section
variable {s t u : State}

/-! ### What an accepted level leaves (R150, R151) -/

/-- The blocks that read an input leave every filter. -/
theorem State.inputMoved_inputs (i : Input) : (s.inputMoved i).meas.inputs = s.meas.inputs := by
  unfold State.inputMoved
  split
  · rfl
  · split
    · simp [State.testEmergency]
    · simp [State.testTrain]
    · simp [State.testClampNow, State.testClamp]
    · simp [State.testClampNow, State.testClamp]
    · simp
    · simp
    · simp
    · rfl

theorem State.takeLevel_inputs (i : Input) :
    (s.takeLevel i).meas.inputs = (s.acceptLevel i).meas.inputs
      ∧ (s.takeLevel i).meas.capture = (s.acceptLevel i).meas.capture :=
  ⟨State.inputMoved_inputs i, State.inputMoved_capture _ i⟩

/-- The filter of the accepted input, and those of the others. -/
theorem State.acceptLevel_get (i j : Input) : (s.acceptLevel i).meas.inputs.get j =
    if j = i then { s.meas.inputs.get i with established := true, level := (s.meas.inputs.get i).sample }
    else s.meas.inputs.get j := by
  rw [State.acceptLevel, PerInput.set_get]

theorem State.acceptLevel_capture (i j : Input) : (s.acceptLevel i).meas.capture.get j =
    if j = i then s.meas.capture.get i
      || ((s.meas.inputs.get i).established && (s.senseInForce i).hits (s.meas.inputs.get i).sample)
    else s.meas.capture.get j := by
  rw [State.acceptLevel, PerInput.set_get]

theorem State.level_of_inputs (h : t.meas.inputs = s.meas.inputs) (i : Input) : t.level i = s.level i := by
  rw [State.level, State.level, h]

/-- Each accepted level, of whatever input. -/
theorem levelAccepted (s : State) (i : Input) (due : s.inputDue i = true) :
    ∃ t, exec (.inputLevelChange i) s = .next t ∧ t.level i = (s.meas.inputs.get i).sample
      ∧ t.meas.capture.get i = (s.meas.capture.get i
          || ((s.meas.inputs.get i).established && (s.senseInForce i).hits (s.meas.inputs.get i).sample))
      ∧ (∀ j : Input, j ≠ i → t.meas.inputs.get j = s.meas.inputs.get j
          ∧ t.meas.capture.get j = s.meas.capture.get j) := by
  obtain ⟨inputs, capture⟩ := State.takeLevel_inputs (s := s) i
  refine ⟨s.inputEvent i, rfl, ?_⟩
  rw [State.inputEvent_due due, State.declare_meas, capture]
  refine ⟨?_, (State.acceptLevel_capture i i).trans (if_pos rfl), fun j hj => ⟨?_, ?_⟩⟩
  · rw [State.level_of_inputs (s := s.acceptLevel i) ((congrArg Meas.inputs (State.declare_meas _)).trans inputs)]
    exact State.acceptLevel_level i
  · rw [inputs, State.acceptLevel_get, if_neg hj]
  · rw [State.acceptLevel_capture, if_neg hj]

/-! ### A clamp input (R44, R153) -/

/-- The two clamp inputs. -/
def clampPair (i j : Input) : Prop := i = .clampF ∧ j = .clampM ∨ i = .clampM ∧ j = .clampF

/-- The state in which a clamp level is accepted and CLAMP LOST is as it then stands. -/
def State.clampTaken (s : State) (i : Input) (lost : Bool) : State :=
  { s.acceptLevel i with meas := { (s.acceptLevel i).meas with condClamp := lost } }

/-- Accepting a level leaves whether another input is due. -/
theorem State.acceptLevel_due_other {i j : Input} (h : j ≠ i) : (s.acceptLevel i).inputDue j = s.inputDue j := by
  simp only [State.inputDue, State.acceptLevel_get, if_neg h]
  rfl

theorem State.acceptLevel_level_other {i j : Input} (h : j ≠ i) : (s.acceptLevel i).level j = s.level j := by
  rw [State.level, State.acceptLevel_get, if_neg h]
  rfl

theorem State.acceptLevel_levelNow_other {i j : Input} (h : j ≠ i) : (s.acceptLevel i).levelNow j = s.levelNow j := by
  rw [State.levelNow, State.acceptLevel_due_other h, State.acceptLevel_level_other h, State.acceptLevel_get, if_neg h,
    State.levelNow]

/-- Both clamps, as the interval leaves them once one of them is accepted. -/
theorem State.acceptLevel_clampsNow {i j : Input} (hij : clampPair i j) :
    ((s.acceptLevel i).levelNow .clampF && (s.acceptLevel i).levelNow .clampM)
      = ((s.meas.inputs.get i).sample && s.levelNow j) := by
  rcases hij with ⟨rfl, rfl⟩ | ⟨rfl, rfl⟩
  · rw [State.acceptLevel_levelNow, State.acceptLevel_levelNow_other (by decide)]
  · rw [State.acceptLevel_levelNow, State.acceptLevel_levelNow_other (by decide), Bool.and_comm]

theorem State.clampTaken_closed {i j : Input} (hij : clampPair i j) (lost : Bool) :
    (s.clampTaken i lost).clampsClosed = ((s.meas.inputs.get i).sample && s.level j && s.levelNow j) := by
  have now : ((s.clampTaken i lost).levelNow .clampF && (s.clampTaken i lost).levelNow .clampM)
      = ((s.meas.inputs.get i).sample && s.levelNow j) := State.acceptLevel_clampsNow (s := s) hij
  have both : (s.clampTaken i lost).bothClosed = ((s.meas.inputs.get i).sample && s.level j) := by
    show ((s.acceptLevel i).level .clampF && (s.acceptLevel i).level .clampM) = _
    rcases hij with ⟨rfl, rfl⟩ | ⟨rfl, rfl⟩
    · rw [State.acceptLevel_level, State.acceptLevel_level_other (by decide)]
    · rw [State.acceptLevel_level, State.acceptLevel_level_other (by decide), Bool.and_comm]
  rw [State.clampsClosed, Bool.and_assoc, now, both]
  cases (s.meas.inputs.get i).sample <;> cases s.level j <;> rfl

/-- A clamp level is taken by the test of CLAMP LOST first, and then by the Stress Unit. -/
theorem State.takeLevel_clamp {i j : Input} (hij : clampPair i j) (he : s.engine ≠ .configFault) {lost : Bool}
    (hl : (s.acceptLevel i).clampLost ((s.meas.inputs.get i).sample && s.levelNow j) = lost) :
    s.takeLevel i = ((s.clampTaken i lost).testCondition lost s.meas.condClamp .clampLost).clampMoved := by
  have tested : (s.acceptLevel i).testClampNow
      = (s.clampTaken i lost).testCondition lost s.meas.condClamp .clampLost := by
    rw [State.testClampNow, State.acceptLevel_clampsNow hij, State.testClamp, hl]
    rfl
  rcases hij with ⟨rfl, rfl⟩ | ⟨rfl, rfl⟩
  · exact (if_neg he).trans (congrArg State.clampMoved tested)
  · exact (if_neg he).trans (congrArg State.clampMoved tested)

/-! ### The CLAMP exit (R44) -/

/-- The state in which the CLAMP record is left. -/
def State.clampLeft (s : State) (c : WeldCtx) : State :=
  { s with
    ctx := some { c with clampDone := true }
    stress := { s.stress with clampTimer := s.stress.clampTimer.stop } }

theorem State.clampExit_eq {c : WeldCtx} (hc : s.ctx = some c) :
    s.clampExit = if c.prog.kindAt c.nextIndex = some .pull then (s.clampLeft c).enterPull c.nextIndex
      else (s.clampLeft c).enterAdmitting := by
  have left : { s.onCtx (fun c => { c with clampDone := true }) with
      stress := { s.stress with clampTimer := s.stress.clampTimer.stop } } = s.clampLeft c := by
    simp only [State.onCtx, hc, Option.map_some]
    rfl
  unfold State.clampExit
  rw [left]
  rfl

/-- The state in which PULL begins. -/
def State.pullBegun (s : State) (r : PullRec) (i : Nat) : State :=
  ({ (s.enterRecord .pulling i).onCtx (fun c => { c with pullStart := some (s.enterRecord .pulling i).meas.position }) with
    stress := { (s.enterRecord .pulling i).stress with pullStall := 0 } }.setVelocity r.speed).setForce (r.forceLimit * 10)

/-- A weld context at the start of PULL, at a position (R49). -/
def WeldCtx.pulling (c : WeldCtx) (i : Nat) (yielded : Bool) (p : Int) : WeldCtx :=
  { c.entered .pulling i yielded with pullStart := some p }

theorem State.pullBegun_ctx {c : WeldCtx} (hc : s.ctx = some c) (r : PullRec) (i : Nat) :
    (s.pullBegun r i).ctx = some (c.pulling i s.yielded s.meas.position) := by
  show (s.enterRecord .pulling i).ctx.map _ = _
  rw [State.enterRecord_entered hc, State.enterRecord_meas]
  rfl

theorem State.pullBegun_fields (r : PullRec) (i : Nat) :
    (s.pullBegun r i).engine = .pulling ∧ (s.pullBegun r i).stress = { s.stress with pullStall := 0 }
      ∧ (s.pullBegun r i).meas = s.meas
      ∧ (s.pullBegun r i).out = { s.out with velocity := r.speed, force := r.forceLimit * 10 } := by
  simp [State.pullBegun]

theorem State.enterPull_eq {c : WeldCtx} {r : PullRec} {i : Nat} (hc : s.ctx = some c)
    (hb : c.prog.body i = some (.pull r)) :
    s.enterPull i = if c.pReq = 0 then (s.pullBegun r i).endPull else s.pullBegun r i := by
  have pull : (s.enterRecord .pulling i).ctx.bind WeldCtx.pull? = some r := by
    rw [State.enterRecord_entered hc]
    simp [WeldCtx.pull?, WeldCtx.body, WeldCtx.entered, hb, RecBody.asPull]
  have ctx := State.pullBegun_ctx hc r i
  show (match (s.enterRecord .pulling i).ctx.bind WeldCtx.pull? with
    | none => s.enterRecord .pulling i
    | some r => if (((s.pullBegun r i).ctx.map fun c : WeldCtx => decide (c.pReq = 0))).getD false
        then (s.pullBegun r i).endPull else s.pullBegun r i) = _
  rw [pull]
  have pReq : (((s.pullBegun r i).ctx.map fun c : WeldCtx => decide (c.pReq = 0))).getD false = decide (c.pReq = 0) := by
    rw [ctx]
    rfl
  dsimp only
  rw [pReq]
  simp only [decide_eq_true_eq]

theorem State.endPull_ctx {c : WeldCtx} {r : PullRec} (hc : s.ctx = some c) (hr : c.pull? = some r) :
    s.endPull.ctx = some (c.pullEnded r s.meas.position (min s.meas.fm (s.image.fMax * 10))).admitting := by
  have ended : s.endPull = (s.pullLeft c r).enterAdmitting := State.endPull_eq hc hr
  rw [ended]
  exact (State.enterAdmitting_fields (s := s.pullLeft c r) rfl).2.2.1

/-- The second clamp completes CLAMPING: PULL, ended at once where P_req is 0, or ADMITTING (R6, R44, R49, R51). -/
theorem clampingCompletes {c : WeldCtx} (hc : s.ctx = some c) :
    (∀ r, c.prog.body c.nextIndex = some (.pull r) →
      (0 < c.pReq → ∃ c', s.clampExit.engine = .pulling ∧ s.clampExit.ctx = some c'
        ∧ c'.clampDone = true ∧ c'.phase = some c.nextIndex ∧ c'.phaseTimer = 0
        ∧ c'.pullStart = some s.meas.position ∧ s.clampExit.stress.clampTimer = ⟨false, s.stress.clampTimer.ms⟩
        ∧ s.clampExit.stress.pullStall = 0
        ∧ s.clampExit.out = { s.out with velocity := r.speed, force := r.forceLimit * 10 })
      ∧ (c.pReq = 0 → ∃ c', s.clampExit.engine = .admitting ∧ s.clampExit.awaiting = true
        ∧ s.clampExit.ctx = some c' ∧ c'.clampDone = true ∧ c'.phase = none ∧ c'.pullAchieved = some 0
        ∧ c'.latches = c.latches ++ [⟨.pullEnd, s.meas.position, c.weldTime⟩] ∧ c'.reasons = c.reasons
        ∧ s.clampExit.out = { s.out with velocity := 0, force := 0 }))
    ∧ (∀ n k q, c.prog.body c.nextIndex = some n → n.kind ≠ .pull → c.prog.firstCurrent = some k →
        c.prog.body k = some (.flash q) → ∃ c', s.clampExit.engine = .admitting
          ∧ s.clampExit.awaiting = true ∧ s.clampExit.ctx = some c' ∧ c'.clampDone = true ∧ c'.phase = none
          ∧ c'.pullAchieved = c.pullAchieved ∧ c'.latches = c.latches
          ∧ s.clampExit.share.rise.ask = some ⟨.sequencer, q.load, 1⟩
          ∧ s.clampExit.out = { s.out with velocity := 0, force := 0 }) := by
  have left : (s.clampLeft c).ctx = some { c with clampDone := true } := rfl
  refine ⟨fun r hb => ?_, fun n k q hn kind hk hq => ?_⟩
  · have begun := State.pullBegun_ctx left r c.nextIndex
    have pull : (s.clampLeft c).enterPull c.nextIndex = if c.pReq = 0
        then ((s.clampLeft c).pullBegun r c.nextIndex).endPull else (s.clampLeft c).pullBegun r c.nextIndex :=
      State.enterPull_eq (c := { c with clampDone := true }) left hb
    have exits : s.clampExit = (s.clampLeft c).enterPull c.nextIndex := by
      rw [State.clampExit_eq hc, Programme.kindAt_of_body hb]
      rfl
    obtain ⟨engine, stress, meas, out⟩ := State.pullBegun_fields (s := s.clampLeft c) r c.nextIndex
    refine ⟨fun pos => ?_, fun zero => ?_⟩
    · rw [exits, pull, if_neg (by omega)]
      exact ⟨_, engine, begun, rfl, rfl, rfl, rfl, by rw [stress]; rfl, by rw [stress], out⟩
    · have body : ((s.clampLeft c).pullBegun r c.nextIndex).ctx.bind WeldCtx.pull? = some r := by
        rw [begun]
        exact (congrArg (fun b => Option.bind b RecBody.asPull) hb)
      have hr : (({ c with clampDone := true } : WeldCtx).pulling c.nextIndex (s.clampLeft c).yielded
          (s.clampLeft c).meas.position).pull? = some r := by
        rw [begun] at body
        exact body
      have pulled : (({ c with clampDone := true } : WeldCtx).pulling c.nextIndex (s.clampLeft c).yielded
          (s.clampLeft c).meas.position).pulled ((s.clampLeft c).pullBegun r c.nextIndex).meas.position = 0 := by
        rw [meas]
        exact Int.toNat_eq_zero.mpr (Int.sub_self _).le
      obtain ⟨c', engine', awaiting, ctx, phase, -, achieved, -, latches, reasons, out', -, -⟩ :=
        State.endPull_fields begun hr
      have same : c' = _ := Option.some_injective _ (ctx.symm.trans (State.endPull_ctx begun hr))
      rw [exits, pull, if_pos zero]
      refine ⟨c', engine', awaiting, ctx, ?_, phase, ?_, ?_, ?_, ?_⟩
      · rw [same]
        show (WeldCtx.pullEnded _ _ _ _).clampDone = true
        rw [WeldCtx.pullEnded_eq]
        rfl
      · exact achieved.trans (congrArg some pulled)
      · rw [latches, meas]
        rfl
      · rw [reasons]
        exact if_neg (by show ¬ (_ + _ < c.pReq); omega)
      · rw [out', out]
        rfl
  · have exits : s.clampExit = (s.clampLeft c).enterAdmitting := by
      rw [State.clampExit_eq hc, Programme.kindAt_of_body hn]
      exact if_neg (fun h => kind (Option.some_injective _ h))
    obtain ⟨engine, awaiting, ctx, out, -, -⟩ := State.enterAdmitting_fields left
    rw [exits]
    refine ⟨_, engine, awaiting, ctx, rfl, rfl, rfl, rfl, ?_, out⟩
    rw [State.enterAdmitting_flash left hk hq, State.raise_rise]

theorem State.levelNow_of_level {j : Input} (h : s.inputDue j = false ∧ s.level j = false
    ∨ s.inputDue j = true ∧ (s.meas.inputs.get j).sample = false) : s.levelNow j = false := by
  rcases h with ⟨due, level⟩ | ⟨due, sample⟩
  · rw [State.levelNow_of_not_due _ due, level]
  · rw [State.levelNow_of_due _ due, sample]

/-- A clamp level taken in CLAMPING: both clamps complete it, and one alone does not (R44). -/
theorem State.takeLevel_clamping {c : WeldCtx} {i j : Input} (he : s.engine = .clamping) (hc : s.ctx = some c)
    (hd : c.clampDone = false) (hij : clampPair i j) :
    s.takeLevel i = if (s.meas.inputs.get i).sample && s.level j && s.levelNow j
      then (s.clampTaken i false).clampExit else s.clampTaken i false := by
  have lost : (s.acceptLevel i).clampLost ((s.meas.inputs.get i).sample && s.levelNow j) = false := by
    have ctx : (s.acceptLevel i).ctx = some c := hc
    rw [State.clampLost, ctx]
    simp [hd]
  have clamping : (s.clampTaken i false).engine = .clamping := he
  rw [State.takeLevel_clamp hij (by rw [he]; decide) lost, State.testCondition, Bool.false_and,
    if_neg (by decide : ¬ false = true), State.clampMoved, clamping, ← State.clampTaken_closed hij false]

/-- A clamp level taken in HOLD (R12, R153). -/
theorem State.takeLevel_clampInHold {c : WeldCtx} {i j : Input} (he : s.engine = .hold) (hc : s.ctx = some c)
    (hd : c.clampDone = true) (hr : c.releasingEntered = false) (hij : clampPair i j) (lost : Bool)
    (hl : (!((s.meas.inputs.get i).sample && s.levelNow j)) = lost) :
    s.takeLevel i = if lost && !s.meas.condClamp then (s.clampTaken i lost).stopHead .clampLost
      else s.clampTaken i lost := by
  have lost' : (s.acceptLevel i).clampLost ((s.meas.inputs.get i).sample && s.levelNow j) = lost := by
    have ctx : (s.acceptLevel i).ctx = some c := hc
    rw [State.clampLost, ctx, ← hl]
    simp [hd, hr]
  have hold : (s.clampTaken i lost).engine = .hold := he
  rw [State.takeLevel_clamp hij (by rw [he]; decide) lost', State.testCondition, State.stopCause_hold hold]
  split
  · rw [State.clampMoved, State.stopHead_engine]
  · rw [State.clampMoved, hold]

/-- Settles O32: each block takes the accepted level, the Stress Unit and the test of CLAMP LOST by both clamps as the interval
leaves them. -/
theorem inputLevelIsAccepted : Obligations.InputLevelIsAccepted := by
  refine ⟨levelAccepted, ?_, ?_, ?_⟩
  · intro s c i j he hc hd hij due asserted
    have taken := State.takeLevel_clamping he hc hd hij
    have event := State.inputEvent_due due
    have ctx : (s.clampTaken i false).ctx = some c := hc
    constructor
    · intro dueJ levelJ
      have completes : s.takeLevel i = (s.clampTaken i false).clampExit := by
        rw [taken, asserted, levelJ, State.levelNow_of_not_due _ dueJ, levelJ]
        rfl
      obtain ⟨pull, asks⟩ := clampingCompletes ctx
      refine ⟨fun r hb => ⟨fun pos => ?_, fun zero => ?_⟩, fun n k q hn kind hk hq => ?_⟩
      · obtain ⟨c', engine, ctx', done, phase, timer, start, stopped, stall, out⟩ := (pull r hb).1 pos
        refine ⟨s.inputEvent i, c', rfl, ?_⟩
        rw [event, completes, State.declare_engine, State.declare_ctx, State.declare_stress, State.declare_out]
        exact ⟨engine, ctx', done, phase, timer, start, stopped, stall, out⟩
      · obtain ⟨c', engine, awaiting, ctx', done, phase, achieved, latches, reasons, out⟩ := (pull r hb).2 zero
        refine ⟨s.inputEvent i, c', rfl, ?_⟩
        rw [event, completes, State.declare_engine, State.declare_ctx, State.declare_awaiting, State.declare_out]
        exact ⟨engine, awaiting, ctx', done, phase, achieved, latches, reasons, out⟩
      · obtain ⟨c', engine, awaiting, ctx', done, phase, achieved, latches, ask, out⟩ := asks n k q hn kind hk hq
        refine ⟨s.inputEvent i, c', rfl, ?_⟩
        rw [event, completes, State.declare_engine, State.declare_ctx, State.declare_awaiting, State.declare_out,
          State.declare_share_rise]
        exact ⟨engine, awaiting, ctx', done, phase, achieved, latches, ask, out⟩
    · intro apart
      have stays : s.takeLevel i = s.clampTaken i false := by
        rw [taken, State.levelNow_of_level apart, Bool.and_false]
        rfl
      refine ⟨s.inputEvent i, rfl, ?_⟩
      rw [event, stays, State.declare_engine, State.declare_ctx, State.declare_out, State.declare_stress]
      exact ⟨he, rfl, rfl, rfl⟩
  · intro s c i j he hc hd hr hij due
    have event := State.inputEvent_due due
    constructor
    · intro before open' ho hu
      have stops : s.takeLevel i = (s.clampTaken i true).stopHead .clampLost := by
        rw [State.takeLevel_clampInHold he hc hd hr hij true (by rw [open']; rfl), before]
        rfl
      obtain ⟨c', ctx, outcome, faults, reasons, -⟩ :=
        State.stopHead_hold (s := s.clampTaken i true) he hc ho hu .clampLost
      refine ⟨s.inputEvent i, c', rfl, ?_⟩
      rw [event, stops, State.declare_engine, State.declare_meas, State.declare_ctx, State.stopHead_engine,
        State.stopHead_meas]
      exact ⟨rfl, rfl, ctx, outcome, faults, reasons⟩
    · intro before dueJ differ
      have opens : (!((s.meas.inputs.get i).sample && s.levelNow j)) = true := by
        rw [State.levelNow_of_due _ dueJ]
        revert differ
        cases (s.meas.inputs.get i).sample <;> cases (s.meas.inputs.get j).sample <;> simp
      have stays : s.takeLevel i = s.clampTaken i true := by
        rw [State.takeLevel_clampInHold he hc hd hr hij true opens, before]
        rfl
      refine ⟨s.inputEvent i, rfl, ?_⟩
      rw [event, stays, State.declare_engine, State.declare_meas, State.declare_ctx, State.declare_out,
        State.declare_link_notices]
      exact ⟨he, rfl, rfl, rfl, rfl⟩
  · intro s due
    have stays : s.takeLevel .pressOk = s.acceptLevel .pressOk := by
      unfold State.takeLevel State.inputMoved
      split
      · rfl
      · rfl
    have taken : s.inputEvent .pressOk = (s.acceptLevel .pressOk).declare := by
      rw [State.inputEvent_due due, stays]
    refine ⟨s.inputEvent .pressOk, rfl, ?_, ?_⟩
    · rw [taken, State.level_congr (State.declare_meas _), State.acceptLevel_level]
      rfl
    · rw [taken]
      exact State.declare_declaredAs _

end
end Sys2Proof.Machine

/-! PROOFS. End-class causes (R16 to R20, R121, R132, R135 to R137): the abort retract, the forced upset, and the timed causes
(O15, O36, O39). -/

namespace Sys2Proof.Machine

section
variable {s t u : State}

/-! ### The abort retract (R18, R83) -/

/-- A weld context at the start of the abort retract, from the regulator's mode and the yielded flag before it. -/
def WeldCtx.retreating (c : WeldCtx) (x : EndCause) (mode : Mode) (yielded : Bool) (target : Int) (due : Bool) : WeldCtx :=
  { (WeldCtx.addReason { c with pause := none, guard := if yielded then none else c.guard } x.reason).left mode with
    abortTarget := some target
    abortStill := 0
    contactPending := false
    restartDue := due
    moveDue := false }

/-- The state in which the regulator is left for the abort retract. -/
def State.abortLeft (s : State) (x : EndCause) : State :=
  (State.onCtx { s.openContactor.cancelRise.clearYield with awaiting := false } fun c =>
    c.addReason x.reason).leaveRegulator

theorem State.startAbort_eq (s : State) (x : EndCause) :
    s.startAbort x = { ((s.abortLeft x).onCtx fun c =>
        { c with
          abortTarget := some ((s.abortLeft x).meas.position - (s.abortLeft x).image.abortDistance)
          abortStill := 0
          contactPending := false
          restartDue := s.pauseDue
          moveDue := false }).setVelocity (-((s.abortLeft x).image.vRetractMax : Int)) with
      mode := .retracting } := rfl

theorem State.abortLeft_ctx {c : WeldCtx} (hc : s.ctx = some c) (x : EndCause) :
    (s.abortLeft x).ctx = some ((WeldCtx.addReason { c with pause := none, guard := if s.yielded then none else c.guard }
      x.reason).left s.mode) := by
  refine State.leaveRegulator_left ?_
  show ((s.ctx.map fun c => _).map _) = _
  rw [hc]
  rfl

theorem State.startAbort_ctx {c : WeldCtx} (hc : s.ctx = some c) (x : EndCause) :
    (s.startAbort x).ctx
      = some (c.retreating x s.mode s.yielded (s.meas.position - s.image.abortDistance) s.pauseDue) := by
  have meas : (s.abortLeft x).meas = s.meas := State.leaveRegulator_meas _
  have image : (s.abortLeft x).image = s.image := State.leaveRegulator_image _
  rw [State.startAbort_eq]
  show ((s.abortLeft x).ctx.map fun c => _) = _
  rw [State.abortLeft_ctx hc, meas, image]
  rfl

theorem State.startAbort_fields (x : EndCause) :
    (s.startAbort x).engine = s.engine ∧ (s.startAbort x).mode = .retracting ∧ (s.startAbort x).awaiting = false
      ∧ (s.startAbort x).yielded = false ∧ (s.startAbort x).share.rise = s.share.rise.ended
      ∧ (s.startAbort x).out = { s.out with contactor := false, velocity := -(s.image.vRetractMax : Int) } := by
  simp [State.startAbort, State.openContactor, State.cancelRise]

/-- The state in which a cause is stored and told (R16). -/
def State.told (s : State) (x : EndCause) (tag : Option Nat) : State :=
  (s.onCtx fun c => c.storeEnding x tag).noticeFault x.reason tag

theorem State.told_ctx {c : WeldCtx} (hc : s.ctx = some c) (x : EndCause) (tag : Option Nat) :
    (s.told x tag).ctx = some (c.storeEnding x tag) := by
  simp [State.told, hc]

theorem State.told_fields (x : EndCause) (tag : Option Nat) :
    (s.told x tag).engine = s.engine ∧ (s.told x tag).mode = s.mode ∧ (s.told x tag).yielded = s.yielded
      ∧ (s.told x tag).out = s.out ∧ (s.told x tag).meas = s.meas ∧ (s.told x tag).image = s.image
      ∧ (s.told x tag).share = s.share := by
  simp [State.told]

theorem WeldCtx.storeEnding_eq (c : WeldCtx) (x : EndCause) (tag : Option Nat) :
    c.storeEnding x tag = { c with ending := some (c.ending.getD x), abortTag := (c.storeEnding x tag).abortTag } := by
  unfold WeldCtx.storeEnding
  split
  · next stored =>
    have same : some (c.ending.getD x) = c.ending := by
      obtain ⟨y, hy⟩ := Option.isSome_iff_exists.mp stored
      rw [hy]
      rfl
    rw [same]
  · next none_ =>
    have first : c.ending.getD x = x := by
      rw [Option.not_isSome_iff_eq_none.mp none_]
      rfl
    rw [first]

/-- A cause other than an ABORT leaves the tag. -/
theorem WeldCtx.storeEnding_untagged (c : WeldCtx) {x : EndCause} (hx : x ≠ .consoleAbort) :
    c.storeEnding x none = { c with ending := some (c.ending.getD x) } := by
  have tag : (c.storeEnding x none).abortTag = c.abortTag := by
    cases h : c.ending
    · simp [WeldCtx.storeEnding, h, hx]
    · simp [WeldCtx.storeEnding, h]
  rw [WeldCtx.storeEnding_eq, tag]

theorem State.noticeFault_of_room {c : WeldCtx} (hc : s.ctx = some c) (room : s.link.notices.length < 8) (x : Reason)
    (tag : Option Nat) : s.noticeFault x tag = { s with link :=
      { s.link with notices := s.link.notices ++ [.fault c.serial x c.weldTime tag] } } := by
  have told : s.noticeFault x tag = s.notice (.fault c.serial x c.weldTime tag) := by rw [State.noticeFault, hc]
  rw [told]
  exact State.notice_of_room s _ room

/-- The tag of an ABORT is stored with the cause where none is stored (R16). -/
theorem WeldCtx.storeEnding_tag {c : WeldCtx} (h : c.ending = none) (tag : Option Nat) :
    (c.storeEnding .consoleAbort tag).abortTag = tag := by
  simp [WeldCtx.storeEnding, h]

/-- The reasons depend on the reasons before alone. -/
theorem WeldCtx.addReason_reasons_congr {c c' : WeldCtx} (h : c'.reasons = c.reasons) (x : Reason) :
    (c'.addReason x).reasons = (c.addReason x).reasons := by
  rw [WeldCtx.addReason_reasons, WeldCtx.addReason_reasons, h]

/-- What the start of an abort retract by a cause writes into the context, and the rest of it. -/
theorem WeldCtx.retreating_eq (c : WeldCtx) (x : EndCause) (tag : Option Nat) (mode : Mode) (yielded : Bool)
    (target : Int) (due : Bool) :
    (c.storeEnding x tag).retreating x mode yielded target due = { c.left mode with
      ending := some (c.ending.getD x)
      abortTag := (c.storeEnding x tag).abortTag
      reasons := (c.addReason x.reason).reasons
      pause := none
      abortTarget := some target
      contactPending := false
      restartDue := due
      moveDue := false } := by
  have reasons : (WeldCtx.addReason { c.storeEnding x tag with
      pause := none, guard := if yielded then none else (c.storeEnding x tag).guard } x.reason).reasons
        = (c.addReason x.reason).reasons :=
    WeldCtx.addReason_reasons_congr (c := c) (c' := { c.storeEnding x tag with
      pause := none, guard := if yielded then none else (c.storeEnding x tag).guard }) (c.storeEnding_reasons x tag) _
  unfold WeldCtx.retreating
  rw [WeldCtx.addReason_eq, reasons, WeldCtx.storeEnding_eq]
  rfl

/-- A cause in PREHEAT or FLASH, with no abort retract in progress, starts one (R18). -/
theorem State.endCause_retreats {c : WeldCtx} (he : s.engine = .preheat ∨ s.engine = .flash) (hc : s.ctx = some c)
    (ha : c.abortTarget = none) (x : EndCause) (tag : Option Nat) :
    s.endCause x tag = (s.told x tag).startAbort x := by
  have still : s.aborting = false := by simp [State.aborting, hc, WeldCtx.aborting, ha]
  unfold State.endCause
  rcases he with h | h
  all_goals
    rw [h]
    exact if_neg (by rw [still]; decide)

/-- A cause in an abort retract is added to the reasons (R18). -/
theorem State.endCause_retreating {c : WeldCtx} (he : s.engine = .preheat ∨ s.engine = .flash) (hc : s.ctx = some c)
    (ha : c.abortTarget.isSome = true) (x : EndCause) (tag : Option Nat) :
    s.endCause x tag = (s.told x tag).onCtx fun c => c.addReason x.reason := by
  have begun : s.aborting = true := by simp [State.aborting, hc, WeldCtx.aborting, ha]
  unfold State.endCause
  rcases he with h | h
  all_goals
    rw [h]
    exact if_pos begun

/-- What the start of the abort retract by a cause leaves. -/
theorem State.endCause_retract {c : WeldCtx} (he : s.engine = .preheat ∨ s.engine = .flash) (hc : s.ctx = some c)
    (ha : c.abortTarget = none) (x : EndCause) (tag : Option Nat) :
    (s.endCause x tag).ctx = some ((c.storeEnding x tag).retreating x s.mode s.yielded
        (s.meas.position - s.image.abortDistance) (s.told x tag).pauseDue)
      ∧ (s.endCause x tag).engine = s.engine ∧ (s.endCause x tag).mode = .retracting
      ∧ (s.endCause x tag).awaiting = false ∧ (s.endCause x tag).yielded = false
      ∧ (s.endCause x tag).share.rise = s.share.rise.ended
      ∧ (s.endCause x tag).out = { s.out with contactor := false, velocity := -(s.image.vRetractMax : Int) } := by
  obtain ⟨engine, mode, yielded, out, meas, image, share⟩ := State.told_fields (s := s) x tag
  obtain ⟨engine', mode', awaiting', yielded', rise', out'⟩ := State.startAbort_fields (s := s.told x tag) x
  rw [State.endCause_retreats he hc ha, State.startAbort_ctx (State.told_ctx hc x tag), mode, yielded, meas, image]
  refine ⟨rfl, engine'.trans engine, mode', awaiting', yielded', rise'.trans ?_, out'.trans ?_⟩
  · rw [share]
  · rw [out, image]

/-! ### The forced upset (R19, R90) -/

/-- What a forced upset fixes: the cause and its tag, the reasons, the upset begun, and the boost time. -/
def WeldCtx.forced (c : WeldCtx) : Option EndCause × Option Nat × List Reason × Bool × Option Nat :=
  (c.ending, c.abortTag, c.reasons, c.upsetBegun, c.boostTime)

theorem WeldCtx.currentOff_forced (c : WeldCtx) (time : Nat) (p : Int) : (c.currentOff time p).forced = c.forced := rfl

theorem WeldCtx.stroke_forced (c : WeldCtx) (i : Nat) (mode : Mode) (yielded : Bool) (p : Int) (fm : Nat) :
    (c.stroke i mode yielded p fm).forced = (c.ending, c.abortTag, c.reasons, true, c.boostTime) := rfl

/-- The entry to UPSET keeps what the weld has fixed and begins its upset, whatever record follows (R85). -/
theorem State.enterUpset_forced {c : WeldCtx} (hc : s.ctx = some c) (i : Nat) :
    (s.enterUpset i).engine = .upset ∧ ∃ c', (s.enterUpset i).ctx = some c'
      ∧ c'.forced = (c.ending, c.abortTag, c.reasons, true, c.boostTime) := by
  have ctx := State.strokeBegun_ctx hc i
  obtain ⟨engine, -⟩ := State.strokeBegun_fields s i
  have struck := c.stroke_forced i s.mode s.yielded s.meas.intervalPos s.meas.fm
  rw [State.enterUpset_eq]
  split
  · exact ⟨engine, _, ctx, struck⟩
  · next r _ =>
    obtain ⟨u, hu⟩ : ∃ u, u = ((s.strokeBegun i).setVelocity r.speed).setForce (r.fu * 10) := ⟨_, rfl⟩
    have engine : u.engine = .upset := hu ▸ engine
    have ctx : u.ctx = some (c.stroke i s.mode s.yielded s.meas.intervalPos s.meas.fm) := by
      rw [hu]
      exact ctx
    rw [← hu]
    split
    · obtain ⟨engine', -⟩ := State.takeCurrentOff_fields (s := u)
      exact ⟨engine'.trans engine, _, State.takeCurrentOff_ctx ctx, (WeldCtx.currentOff_forced _ _ _).trans struck⟩
    · exact ⟨engine, _, ctx, struck⟩

theorem State.endCause_boost {c : WeldCtx} (he : s.engine = .boost) (hc : s.ctx = some c) (x : EndCause)
    (tag : Option Nat) : (s.endCause x tag).engine = .upset ∧ ∃ c', (s.endCause x tag).ctx = some c'
      ∧ c'.forced = (some (c.ending.getD x), (c.storeEnding x tag).abortTag,
        ((c.addReason x.reason).addReason .forcedUpset).reasons, true, some c.phaseTimer) := by
  have forced : ((s.told x tag).onCtx fun c => (c.addReason x.reason).addReason .forcedUpset).ctx
      = some (((c.storeEnding x tag).addReason x.reason).addReason .forcedUpset) := by
    rw [State.onCtx_ctx, State.told_ctx hc]
    rfl
  have taken : s.endCause x tag = (s.told x tag).forceUpset x := by
    unfold State.endCause
    rw [he]
    exact rfl
  have reasons : (((c.storeEnding x tag).addReason x.reason).addReason .forcedUpset).reasons
      = ((c.addReason x.reason).addReason .forcedUpset).reasons :=
    WeldCtx.addReason_reasons_congr (WeldCtx.addReason_storeEnding _ _ _ _) _
  have boosted : (((s.told x tag).onCtx fun c => (c.addReason x.reason).addReason .forcedUpset).onCtx
      WeldCtx.boosted).ctx = some (((c.storeEnding x tag).addReason x.reason).addReason .forcedUpset).boosted := by
    rw [State.onCtx_ctx, forced]
    rfl
  obtain ⟨engine, c', ctx, struck⟩ := State.enterUpset_forced boosted
    (((c.storeEnding x tag).addReason x.reason).addReason .forcedUpset).nextIndex
  rw [taken, State.forceUpset, State.endBoost_eq forced]
  refine ⟨engine, c', ctx, struck.trans ?_⟩
  rw [← reasons, WeldCtx.addReason_eq, WeldCtx.addReason_eq (c.storeEnding x tag), WeldCtx.storeEnding_eq]
  rfl

/-! ### ABORT (R16 to R20) -/

theorem State.endCause_standing (he : s.engine = .starting ∨ s.engine = .configFault ∨ s.engine = .ready) (x : EndCause)
    (tag : Option Nat) : s.endCause x tag = s := by
  unfold State.endCause
  rcases he with h | h | h
  all_goals simp only [h]

/-- Settles O15: an ABORT is an end-class cause of each engine state. -/
theorem abortEndsTheWeld : Obligations.AbortEndsTheWeld := by
  intro s n tgt a b receives hn joined
  have received : exec (.abort n [tgt, a, b]) s = .next (s.takeAbort [tgt, a, b]) := by
    show Host.Outcome.next (s.onRx n fun t => t.ifJoined fun u => u.takeAbort [tgt, a, b]) = _
    rw [State.onRx_other receives hn, State.ifJoined_joined joined]
  have target : s.targeted [tgt, a, b] 3 = decide (tgt.toNat = s.station.val) := by
    rw [State.targeted, natAt_zero_one]
    rfl
  have tag : natAt [tgt, a, b] 1 2 = natAt [a, b] 0 2 := rfl
  have taken : tgt.toNat = s.station.val → exec (.abort n [tgt, a, b]) s
      = .next (s.endCause .consoleAbort (some (natAt [a, b] 0 2))).declare := fun h => by
    rw [received, State.takeAbort, if_pos (by rw [target, decide_eq_true h]), tag]
  refine ⟨fun other => ?_, fun h standing => ⟨_, taken h, ?_⟩, fun h c hc first => ⟨fun he => ?_, fun he => ?_, fun he ha => ?_⟩⟩
  · rw [received, State.takeAbort, if_neg (by rw [target, decide_eq_false other]; decide)]
  · rw [State.endCause_standing standing]
    exact State.declare_declaredAs _
  · obtain ⟨engine, c', ctx, forced⟩ := State.endCause_boost he hc .consoleAbort (some (natAt [a, b] 0 2))
    rw [first, WeldCtx.storeEnding_tag first] at forced
    obtain ⟨ending, tag', reasons, begun, time⟩ : c'.ending = _ ∧ c'.abortTag = _ ∧ c'.reasons = _ ∧ c'.upsetBegun = _
        ∧ c'.boostTime = _ := by
      simpa [WeldCtx.forced] using forced
    refine ⟨_, c', taken h, (State.declare_engine _).trans engine, (State.declare_ctx _).trans ctx, ending, tag', begun,
      time, ?_, ?_⟩
    · rw [reasons]
      exact WeldCtx.mem_addReason_of_mem (WeldCtx.mem_addReason _ _) _
    · rw [reasons]
      exact WeldCtx.mem_addReason _ _
  · obtain ⟨engine, -, -, out, -⟩ := State.told_fields (s := s) .consoleAbort (some (natAt [a, b] 0 2))
    have ctx := State.told_ctx hc .consoleAbort (some (natAt [a, b] 0 2))
    rw [taken h, State.endCause_hold he]
    refine ⟨_, ((c.storeEnding .consoleAbort (some (natAt [a, b] 0 2))).addReason .consoleAbort).addReason .lateAbort,
      rfl, (State.declare_engine _).trans (engine.trans he), (State.declare_out _).trans out, ?_, ?_, ?_, ?_⟩
    · rw [State.declare_ctx]
      show (s.told _ _).ctx.map _ = _
      rw [ctx]
      rfl
    · rw [WeldCtx.addReason_ending, WeldCtx.addReason_ending, WeldCtx.storeEnding_ending, first]
      rfl
    · rw [WeldCtx.addReason_eq, WeldCtx.addReason_eq (c.storeEnding _ _)]
      exact WeldCtx.storeEnding_tag first _
    · exact WeldCtx.addReason_reasons_congr (WeldCtx.addReason_storeEnding _ _ _ _) _
  · obtain ⟨ctx, engine, mode, awaiting, yielded, rise, out⟩ :=
      State.endCause_retract (.inr he) hc ha .consoleAbort (some (natAt [a, b] 0 2))
    rw [WeldCtx.retreating_eq] at ctx
    refine ⟨_, _, taken h, (State.declare_engine _).trans (engine.trans he), (State.declare_mode _).trans mode,
      (State.declare_awaiting _).trans awaiting, (State.declare_yielded _).trans yielded, ?_,
      (State.declare_out _).trans out, (State.declare_ctx _).trans ctx, rfl, rfl, rfl, rfl⟩
    rw [State.declare_share_rise, rise]
    rfl

/-! ### ADMIT TIMEOUT and YIELD LIMIT (R121, R132) -/

/-- No rise is pending once T_admit has expired (R121). -/
def State.riseEnded (s : State) : State :=
  State.placeDemand { s with share := { s.share with rise := s.share.rise.ended } }

theorem State.riseEnded_fields : s.riseEnded.engine = s.engine ∧ s.riseEnded.ctx = s.ctx ∧ s.riseEnded.out = s.out
    ∧ s.riseEnded.share.rise = s.share.rise.ended ∧ s.riseEnded.share.peers = s.share.peers := by
  simp [State.riseEnded]

theorem State.endsEarly_wire (x : EndCause) (tag : Option Nat) : (s.endsEarly x tag).wireForce = s.wireForce := by
  have hold : ∀ c : WeldCtx, ((c.storeEnding x tag).addReason x.reason).forceHold = c.forceHold := fun c => by
    rw [WeldCtx.addReason_eq, WeldCtx.storeEnding_eq]
  have engine : (s.endsEarly x tag).engine = s.engine := by simp [State.endsEarly]
  rw [State.wireForce, State.wireForce, engine, (State.endsEarly_fields x tag).1, State.endsEarly_ctx, Option.bind_map]
  simp only [Function.comp_def, hold]

theorem State.endsEarly_share (x : EndCause) (tag : Option Nat) :
    (s.endsEarly x tag).share = { s.share with rise := s.share.rise.ended, admitted := none } := by
  simp [State.endsEarly, State.cancelRise]

/-- ADMIT TIMEOUT takes a weld in ADMITTING to RELEASING (R17, R121). -/
theorem admitTimeoutReleases (s : State) (c : WeldCtx) (he : s.engine = .admitting) (hc : s.ctx = some c)
    (pending : s.share.rise.state ≠ .none) (running : s.share.rise.admitWait.running = true)
    (time : c.prog.tAdmit * 1000 ≤ s.share.rise.admitWait.ms) (wire : s.wireForce ≠ 0) :
    ∃ t c', exec .admitTimeout s = .next t ∧ t.engine = .releasing ∧ t.awaiting = false ∧ t.ctx = some c'
      ∧ t.share.rise = ⟨.none, none, ⟨false, s.share.rise.settle.ms⟩, ⟨false, s.share.rise.admitWait.ms⟩⟩
      ∧ c'.reasons = (c.addReason .admitTimeout).reasons
      ∧ c'.ending = some (c.ending.getD .admitTimeout) ∧ t.stress.rampStart = some s.wireForce
      ∧ t.share.peers = s.share.peers := by
  have due : s.admitTimeoutDue = true := by simp [State.admitTimeoutDue, running, pending, hc, time]
  obtain ⟨engine, ctx, out, rise, peers⟩ := State.riseEnded_fields (s := s)
  have wired : s.riseEnded.wireForce = s.wireForce := by rw [State.wireForce, engine, ctx, out, State.wireForce]
  have released : s.riseEnded.endCause .admitTimeout none = (s.riseEnded.endsEarly .admitTimeout none).ramping := by
    rw [State.endCause_early (.inr (engine.trans he)), State.enterReleasing_eq, State.endsEarly_wire, wired, if_neg wire]
  have awaiting : (s.riseEnded.endsEarly .admitTimeout none).ramping.awaiting = false := by
    simp [State.ramping, State.stopPower, State.endsEarly]
  have taken : s.admitTimeoutEvent = (s.riseEnded.endsEarly .admitTimeout none).ramping.declare :=
    (State.event_of_due s due _).trans (congrArg State.declare released)
  refine ⟨s.admitTimeoutEvent,
    ((c.storeEnding .admitTimeout none).addReason .admitTimeout).releasing
      (s.riseEnded.endsEarly .admitTimeout none).releaseIndex (s.riseEnded.endsEarly .admitTimeout none).mode, rfl, ?_⟩
  have shared : (s.riseEnded.endsEarly .admitTimeout none).ramping.declare.share.peers = s.share.peers := by
    rw [State.declare_share_peers, State.ramping_share, State.endsEarly_share]
    exact peers
  rw [taken, shared]
  simp only [State.declare_engine, State.declare_awaiting, State.declare_ctx, State.declare_share_rise,
    State.declare_stress, State.ramping_engine, State.ramping_ctx, State.ramping_stress, State.ramping_share, awaiting,
    State.endsEarly_ctx, State.endsEarly_share, State.endsEarly_wire, ctx, hc, rise, wired]
  exact ⟨trivial, trivial, rfl, rfl, WeldCtx.addReason_storeEnding _ _ _ _, (WeldCtx.addReason_ending _ _).trans
    (WeldCtx.storeEnding_ending _ _ _), trivial, trivial⟩

theorem State.yieldLimitDue_of {c : WeldCtx} (hc : s.ctx = some c) (first : c.limitReported = false)
    (set : c.prog.tYieldMax ≠ 0) (time : c.prog.tYieldMax * 1000 ≤ c.yieldTime) : s.yieldLimitDue = true := by
  simp [State.yieldLimitDue, WeldCtx.yieldLimitMs, hc, first, set, time]

/-- Yield Control's cancellation of a RESUME rise leaves all but the rise. -/
theorem State.cancelResume_eq (s : State) :
    s.cancelResume = { s with share := { s.share with rise := s.cancelResume.share.rise } } := by
  unfold State.cancelResume
  split
  · rfl
  · rfl

theorem State.cancelResume_idle (h : s.share.rise.ask = none) : s.cancelResume = s := by
  rw [State.cancelResume, h]

/-- A weld context whose YIELD LIMIT is reported (R132). -/
def WeldCtx.limited (c : WeldCtx) : WeldCtx := { c with limitReported := true }

/-- The state in which YIELD LIMIT is reported. -/
def State.limitStands (s : State) : State := s.cancelResume.onCtx WeldCtx.limited

theorem State.limitStands_fields : s.limitStands.engine = s.engine ∧ s.limitStands.meas = s.meas
    ∧ s.limitStands.image = s.image ∧ s.limitStands.out = s.out ∧ s.limitStands.mode = s.mode
    ∧ s.limitStands.yielded = s.yielded := by
  rw [State.limitStands, State.cancelResume_eq]
  exact ⟨rfl, rfl, rfl, rfl, rfl, rfl⟩

theorem State.limitStands_ctx {c : WeldCtx} (hc : s.ctx = some c) :
    s.limitStands.ctx = some c.limited := by
  rw [State.limitStands, State.onCtx_ctx, State.cancelResume_eq]
  show s.ctx.map _ = _
  rw [hc]
  rfl

/-- YIELD LIMIT in FLASH starts the abort retract (R18, R132). -/
theorem State.yieldLimited_retract {c : WeldCtx} (he : s.engine = .flash) (hc : s.ctx = some c)
    (ha : c.abortTarget = none) :
    ∃ c', s.yieldLimited.ctx = some c' ∧ s.yieldLimited.engine = .flash ∧ s.yieldLimited.mode = .retracting
      ∧ s.yieldLimited.yielded = false ∧ s.yieldLimited.share.rise.state = .none
      ∧ s.yieldLimited.out = { s.out with contactor := false, velocity := -(s.image.vRetractMax : Int) }
      ∧ c'.yieldTime = c.yieldTime ∧ c'.reasons = (c.addReason .yieldLimit).reasons
      ∧ c'.ending = some (c.ending.getD .yieldLimit) ∧ c'.limitReported = true ∧ c'.sinceResume = c.sinceResume := by
  obtain ⟨engine, meas, image, out, mode, yielded⟩ := State.limitStands_fields (s := s)
  obtain ⟨ctx, engine', mode', -, yielded', rise, out'⟩ := State.endCause_retract (.inr (engine.trans he))
    (State.limitStands_ctx hc) ha .yieldLimit none
  rw [WeldCtx.retreating_eq] at ctx
  refine ⟨_, ctx, engine'.trans (engine.trans he), mode', yielded', (congrArg Rise.state rise).trans rfl, ?_, rfl,
    WeldCtx.addReason_reasons_congr (c := c) (c' := c.limited) rfl _, rfl, rfl, rfl⟩
  exact out'.trans (by rw [out, image])

/-- Settles O36: ADMIT TIMEOUT in ADMITTING, and YIELD LIMIT in FLASH with and without an abort retract. -/
theorem timedCausesEndTheWeld : Obligations.TimedCausesEndTheWeld := by
  refine ⟨admitTimeoutReleases, fun s c he hc first set time => ⟨fun ha => ?_, fun ha ask room => ?_⟩⟩
  · have due := State.yieldLimitDue_of hc first set time
    obtain ⟨c', ctx, engine, mode, yielded, rise, out, time', reasons, ending, reported, -⟩ :=
      State.yieldLimited_retract he hc ha
    have taken : s.yieldLimitEvent = s.yieldLimited.declare := State.event_of_due s due _
    refine ⟨s.yieldLimitEvent, c', rfl, ?_⟩
    rw [taken, State.declare_engine, State.declare_mode, State.declare_yielded, State.declare_ctx,
      State.declare_share_rise, State.declare_out, out]
    exact ⟨engine, mode, yielded, ctx, time', reasons, ending, reported, rise, rfl, rfl⟩
  · have due := State.yieldLimitDue_of hc first set time
    have ctx := State.limitStands_ctx hc
    have idle : s.limitStands = { s with ctx := some c.limited } := by
      rw [State.limitStands, State.cancelResume_idle ask, State.onCtx, hc]
      rfl
    have engine : s.limitStands.engine = .flash := State.limitStands_fields.1.trans he
    have taken : s.yieldLimited = (s.limitStands.told .yieldLimit none).onCtx fun c => c.addReason .yieldLimit :=
      State.endCause_retreating (.inr engine) ctx ha .yieldLimit none
    refine ⟨s.yieldLimitEvent, rfl, State.event_declaredAs due ?_⟩
    have stored := WeldCtx.storeEnding_untagged c.limited (x := .yieldLimit) (by decide)
    have held : (s.limitStands.onCtx fun c => c.storeEnding .yieldLimit none)
        = { s with ctx := some (c.limited.storeEnding .yieldLimit none) } := by
      rw [idle]
      rfl
    have told : s.limitStands.told .yieldLimit none = { s with
        ctx := some (c.limited.storeEnding .yieldLimit none)
        link := { s.link with notices := s.link.notices ++ [.fault c.serial .yieldLimit c.weldTime none] } } := by
      rw [State.told, held, State.noticeFault_of_room (s := { s with ctx := some _ }) rfl room, stored]
      rfl
    have reasons : ((c.limited.storeEnding .yieldLimit none).addReason .yieldLimit).reasons
        = (c.addReason .yieldLimit).reasons := WeldCtx.addReason_reasons_congr (c := c) (c.limited.storeEnding_reasons _ _) _
    rw [taken, told, State.onCtx]
    dsimp only
    rw [Option.map_some, WeldCtx.addReason_eq, reasons, stored]
    rfl

/-! ### The bar of t_minrun, and the restarts of the pulse count (R135 to R137) -/

/-- A weld context whose pulse count is restarted (R136). -/
def WeldCtx.restarted (c : WeldCtx) : WeldCtx :=
  { c with pauseTaken := true, restartDue := false, counted := 0, restarts := c.restarts + 1 }

theorem State.pauseRestarts_eq {c : WeldCtx} (hc : s.ctx = some c) :
    s.pauseRestarts = if 3 ≤ c.restarts + 1 then
        (State.cancelResume { s with ctx := some c.restarted }).endCause .preheatLost none
      else { s with ctx := some c.restarted } := by
  have restarted : (s.onCtx fun c =>
      { c with pauseTaken := true, restartDue := false, counted := 0, restarts := c.restarts + 1 })
        = { s with ctx := some c.restarted } := by
    rw [State.onCtx, hc]
    rfl
  unfold State.pauseRestarts
  rw [restarted]
  simp [WeldCtx.restarted]

/-- The state in which PREHEAT LOST is reported (R137). -/
def State.restartStands (s : State) : State := State.cancelResume { s with ctx := s.ctx.map WeldCtx.restarted }

theorem State.restartStands_ctx {c : WeldCtx} (hc : s.ctx = some c) : s.restartStands.ctx = some c.restarted := by
  rw [State.restartStands, State.cancelResume_eq]
  exact congrArg (Option.map WeldCtx.restarted) hc

theorem State.pauseRestarts_third {c : WeldCtx} (hc : s.ctx = some c) (h : c.restarts = 2) :
    s.pauseRestarts = s.restartStands.endCause .preheatLost none := by
  rw [State.pauseRestarts_eq hc, if_pos (by omega), State.restartStands, hc]
  rfl

/-- With no rise pending in the table a head does not yield to one (R129). -/
theorem State.yieldEval_calm (hy : s.yielded = false) (hr : s.highestRise = none) : s.yieldEval false = s := by
  have calm : ∀ cls, s.riseShortfall cls = false := fun cls => by rw [State.riseShortfall, hr]
  unfold State.yieldEval
  rw [hy]
  repeat' split
  all_goals simp_all

/-- Settles O39: the bar of t_minrun, the third restart in an abort retract, and the restarts of a pause. -/
theorem yieldTimersAct : Obligations.YieldTimersAct := by
  refine ⟨?_, ?_, ?_⟩
  · intro s c n hc bar since time hy hr
    have due : s.minrunDue = true := by simp [State.minrunDue, hc, bar, since, time]
    have lifted : (s.onCtx fun c => { c with minrunBar := false }) = { s with ctx := some { c with minrunBar := false } } := by
      rw [State.onCtx, hc]
      rfl
    refine ⟨s.minrunEvent, rfl, State.event_declaredAs due ?_⟩
    rw [State.minrunExpires, lifted]
    exact State.yieldEval_calm (s := { s with ctx := some { c with minrunBar := false } }) hy hr
  · intro s c he hc hd hn ha
    have due : s.pauseDue = true := by simp [State.pauseDue, he, hc, hd]
    obtain ⟨engine, mode, out⟩ : s.restartStands.engine = s.engine ∧ s.restartStands.mode = s.mode
        ∧ s.restartStands.out = s.out := by
      rw [State.restartStands, State.cancelResume_eq]
      exact ⟨rfl, rfl, rfl⟩
    have ctx := State.restartStands_ctx hc
    have lost : s.pauseRestarts
        = (s.restartStands.told .preheatLost none).onCtx fun c => c.addReason .preheatLost := by
      rw [State.pauseRestarts_third hc hn]
      exact State.endCause_retreating (.inl (engine.trans he)) ctx ha .preheatLost none
    have taken : s.pauseEvent = s.pauseRestarts.declare := State.event_of_due s due _
    obtain ⟨engine', mode', -, out', -⟩ := State.told_fields (s := s.restartStands) .preheatLost none
    refine ⟨s.pauseEvent, (c.restarted.storeEnding .preheatLost none).addReason .preheatLost, rfl, ?_⟩
    rw [taken, lost, State.declare_ctx, State.declare_engine, State.declare_mode, State.declare_out, State.onCtx_ctx,
      State.told_ctx ctx]
    refine ⟨rfl, (engine'.trans engine).trans he, mode'.trans mode, out'.trans out, ?_, ?_, ?_, ?_, ?_⟩
    · rw [WeldCtx.addReason_eq, WeldCtx.storeEnding_eq]
      exact congrArg (· + 1) hn
    · rw [WeldCtx.addReason_eq, WeldCtx.storeEnding_eq]
      rfl
    · rw [WeldCtx.addReason_eq, WeldCtx.storeEnding_eq]
      rfl
    · rw [WeldCtx.addReason_eq, WeldCtx.storeEnding_eq]
      rfl
    · exact WeldCtx.addReason_reasons_congr (c := c) (c.restarted.storeEnding_reasons _ _) _
  · intro s c r p he hy hc hp pause time first
    have due : s.pauseDue = true := by simp [State.pauseDue, he, hy, hc, hp, pause, time, first]
    refine ⟨fun few => ⟨s.pauseEvent, rfl, State.event_declaredAs due ?_⟩, fun third ha => ?_⟩
    · rw [State.pauseRestarts_eq hc, if_neg (by omega)]
      rfl
    · obtain ⟨engine, image, meas⟩ : s.restartStands.engine = s.engine ∧ s.restartStands.image = s.image
          ∧ s.restartStands.meas = s.meas := by
        rw [State.restartStands, State.cancelResume_eq]
        exact ⟨rfl, rfl, rfl⟩
      have ctx := State.restartStands_ctx hc
      obtain ⟨ctx', engine', mode, -, yielded, rise, -⟩ :=
        State.endCause_retract (.inl (engine.trans he)) ctx ha .preheatLost none
      have taken : s.pauseEvent = (s.restartStands.endCause .preheatLost none).declare :=
        (State.event_of_due s due _).trans (congrArg State.declare (State.pauseRestarts_third hc third))
      refine ⟨s.pauseEvent, (c.restarted.storeEnding .preheatLost none).retreating .preheatLost s.restartStands.mode
        s.restartStands.yielded (s.restartStands.meas.position - s.restartStands.image.abortDistance)
        (s.restartStands.told .preheatLost none).pauseDue, rfl, ?_⟩
      rw [WeldCtx.retreating_eq] at ctx' ⊢
      rw [taken, State.declare_ctx, State.declare_engine, State.declare_mode, State.declare_yielded,
        State.declare_share_rise]
      refine ⟨ctx', engine'.trans (engine.trans he), mode, yielded, congrArg (· + 1) third, rfl,
        WeldCtx.mem_addReason _ _, (congrArg Rise.state rise).trans rfl⟩

end
end Sys2Proof.Machine

/-! PROOFS. The evaluation of a completed interval (R49, R50, R54, R59, R62 to R64, R68, R76, R77, R80 to R91): the power window
(O45) and the phase units (O26). -/

namespace Sys2Proof.Machine

section
variable {s t u : State}

/-! ### Step 1: power (R76, R77, R82) -/

/-- A weld context with what step 1 of an evaluation writes left out. -/
def WeldCtx.besidesPower (c : WeldCtx) : WeldCtx :=
  { c with energyOn := false, eRaw := 0, winSum := 0, winCount := 0, pMeas := 0, guard := none, guardCount := 0 }

/-- A weld context with the power of one interval added (R76, R82). -/
def WeldCtx.powered (c : WeldCtx) (closed : Bool) (ui : Nat) : WeldCtx :=
  if (c.energyOn || closed) && !c.energyStopped then
    { c with
      energyOn := true
      eRaw := min (c.eRaw + ui) Config.energyMax
      winSum := c.winSum + ui
      winCount := c.winCount + 1 }
  else { c with energyOn := c.energyOn || closed }

theorem State.addPower_ctx {c : WeldCtx} (hc : s.ctx = some c) :
    s.addPower.ctx = some (c.powered s.out.contactor (s.meas.um * s.meas.im)) := by
  show s.ctx.map _ = _
  rw [hc]
  rfl

/-- A weld context with its power window taken, under no record of the demand guard (R76). -/
def WeldCtx.windowed (c : WeldCtx) : WeldCtx := { c with pMeas := c.winSum / 500000, winSum := 0, winCount := 0 }

/-- A weld context with its power window taken under a guard at a base current and a declared load (R77). -/
def WeldCtx.guarded (c : WeldCtx) (base load : Nat) : WeldCtx :=
  { c.windowed with
    guard := guardSetpoint base load (c.winSum / 500000)
    guardCount :=
      if (guardSetpoint base load (c.winSum / 500000)).isSome then countUp c.guardCount else c.guardCount }

/-- In FLASH, outside an abort retract, a window sets or discards the guard (R77). -/
theorem State.takeWindow_flash {c : WeldCtx} {r : FlashRec} (hc : s.ctx = some c) (hr : c.flash? = some r)
    (he : s.engine = .flash) (ha : c.abortTarget = none) :
    s.takeWindow.ctx = some (c.guarded (r.base s.yielded) s.presentLoad) := by
  have flashing : (c.aborting || decide (s.engine ≠ .flash)) = false := by simp [WeldCtx.aborting, ha, he]
  unfold State.takeWindow
  rw [State.onCtx_ctx, hc, Option.map_some]
  dsimp only
  rw [hr]
  exact congrArg some (if_neg (by rw [flashing]; decide))

/-- Elsewhere it takes the window alone. -/
theorem State.takeWindow_plain {c : WeldCtx} (hc : s.ctx = some c) (he : s.engine ≠ .flash) :
    s.takeWindow.ctx = some c.windowed := by
  unfold State.takeWindow
  rw [State.onCtx_ctx, hc, Option.map_some]
  cases h : c.flash? with
  | none => rfl
  | some r => simp [he, WeldCtx.windowed]

/-- What step 1 leaves of a weld context. -/
theorem WeldCtx.of_besidesPower {c1 c : WeldCtx} (h : c1.besidesPower = c.besidesPower) :
    c1.prog = c.prog ∧ c1.phase = c.phase ∧ c1.abortTarget = c.abortTarget ∧ c1.contactPos = c.contactPos
      ∧ c1.burnOff = c.burnOff ∧ c1.forceHold = c.forceHold ∧ c1.sub = c.sub ∧ c1.subTimer = c.subTimer
      ∧ c1.phaseTimer = c.phaseTimer ∧ c1.boostEntry = c.boostEntry ∧ c1.curTime = c.curTime ∧ c1.upStart = c.upStart
      ∧ c1.peak = c.peak ∧ c1.weldTime = c.weldTime ∧ c1.latches = c.latches ∧ c1.contactPending = c.contactPending := by
  have same : ∀ {α : Type} (f : WeldCtx → α), f c1.besidesPower = f c.besidesPower := fun f => congrArg f h
  exact ⟨same (·.prog), same (·.phase), same (·.abortTarget), same (·.contactPos), same (·.burnOff), same (·.forceHold),
    same (·.sub), same (·.subTimer), same (·.phaseTimer), same (·.boostEntry), same (·.curTime), same (·.upStart),
    same (·.peak), same (·.weldTime), same (·.latches), same (·.contactPending)⟩

/-- Step 1 leaves all but its own sums. -/
theorem State.countPower_spec {c : WeldCtx} (hc : s.ctx = some c) :
    ∃ c1, s.countPower = { s with ctx := some c1 } ∧ c1.besidesPower = c.besidesPower := by
  have added : (c.powered s.out.contactor (s.meas.um * s.meas.im)).besidesPower = c.besidesPower := by
    unfold WeldCtx.powered
    split
    · rfl
    · rfl
  have ctx := State.addPower_ctx hc
  by_cases due : s.addPower.windowDue = true
  · have window : ∃ c1, s.addPower.takeWindow.ctx = some c1 ∧ c1.besidesPower
        = (c.powered s.out.contactor (s.meas.um * s.meas.im)).besidesPower := by
      unfold State.takeWindow
      rw [State.onCtx_ctx, ctx, Option.map_some]
      refine ⟨_, rfl, ?_⟩
      dsimp only
      repeat' split
      all_goals rfl
    obtain ⟨c1, ctx1, kept⟩ := window
    have taken : s.countPower = s.addPower.takeWindow := if_pos due
    exact ⟨c1, s.countPower_eq.trans (by rw [taken, ctx1]), kept.trans added⟩
  · have left : s.countPower = s.addPower := if_neg due
    exact ⟨_, s.countPower_eq.trans (by rw [left, ctx]), added⟩

/-- The 50th interval completes its window (R76; log 45). -/
theorem State.countPower_fiftieth {c : WeldCtx} (hc : s.ctx = some c) (count : c.winCount = 49)
    (running : c.energyStopped = false) (on : c.energyOn = true ∨ s.out.contactor = true) :
    s.countPower = s.addPower.takeWindow ∧ (c.powered s.out.contactor (s.meas.um * s.meas.im)).winSum
      = c.winSum + s.meas.um * s.meas.im := by
  have counted : c.powered s.out.contactor (s.meas.um * s.meas.im) = { c with
      energyOn := true
      eRaw := min (c.eRaw + s.meas.um * s.meas.im) Config.energyMax
      winSum := c.winSum + s.meas.um * s.meas.im
      winCount := c.winCount + 1 } := by
    refine if_pos ?_
    rcases on with h | h
    · simp [h, running]
    · simp [h, running]
  have due : s.addPower.windowDue = true := by
    rw [State.windowDue, State.addPower_ctx hc, counted]
    simp [count]
  exact ⟨if_pos due, by rw [counted]⟩

theorem guardSetpoint_above {base load p : Nat} (h : load * 110 / 100 < p) :
    guardSetpoint base load p = some (max (base * load / p) (base / 2)) := if_pos h

theorem guardSetpoint_within {base load p : Nat} (h : p ≤ load * 110 / 100) : guardSetpoint base load p = none :=
  if_neg (by omega)

/-! ### Step 2: burn-off (R68) -/

/-- The burn-off at a position (R68). -/
def WeldCtx.burntOff (c : WeldCtx) (p : Int) : Int :=
  match c.contactPos with
  | none => c.burnOff
  | some pc => max c.burnOff (p - pc)

/-- A weld context with its burn-off taken at a position. -/
def WeldCtx.burnt (c : WeldCtx) (p : Int) : WeldCtx := { c with burnOff := c.burntOff p }

theorem State.updateBurnOff_spec {c : WeldCtx} (hc : s.ctx = some c) :
    s.updateBurnOff = { s with ctx := some (c.burnt s.meas.intervalPos) } := by
  have burnt : (match c.contactPos with
      | none => c
      | some pc => { c with burnOff := max c.burnOff (s.meas.intervalPos - pc) }) = c.burnt s.meas.intervalPos := by
    suffices by_contact : ∀ o, c.contactPos = o → (match o with
        | none => c
        | some pc => { c with burnOff := max c.burnOff (s.meas.intervalPos - pc) }) = c.burnt s.meas.intervalPos from
      by_contact _ rfl
    intro o h
    cases o with
    | none =>
      have stays : c.burntOff s.meas.intervalPos = c.burnOff := by rw [WeldCtx.burntOff, h]
      rw [WeldCtx.burnt, stays]
    | some pc =>
      have moves : c.burntOff s.meas.intervalPos = max c.burnOff (s.meas.intervalPos - pc) := by rw [WeldCtx.burntOff, h]
      rw [WeldCtx.burnt, moves]
  unfold State.updateBurnOff
  rw [State.onCtx, hc, Option.map_some]
  exact congrArg (fun d => { s with ctx := some d }) burnt

/-- Steps 1 and 2 write the weld context alone: the power sums and the burn-off (R59). -/
theorem State.counted_spec {c : WeldCtx} (hc : s.ctx = some c) :
    ∃ c1, s.countPower.updateBurnOff = { s with ctx := some c1 }
      ∧ c1.besidesPower = (c.burnt s.meas.intervalPos).besidesPower := by
  obtain ⟨c1, state, kept⟩ := State.countPower_spec hc
  refine ⟨c1.burnt s.meas.intervalPos, ?_, ?_⟩
  · rw [state]
    exact State.updateBurnOff_spec (s := { s with ctx := some c1 }) rfl
  · obtain ⟨-, -, -, pos, burn, -⟩ := WeldCtx.of_besidesPower kept
    show { c1.besidesPower with burnOff := (c1.burnt s.meas.intervalPos).burnOff }
      = { c.besidesPower with burnOff := (c.burnt s.meas.intervalPos).burnOff }
    rw [kept, WeldCtx.burnt, WeldCtx.burnt, WeldCtx.burntOff, WeldCtx.burntOff, pos, burn]

/-! ### PREHEAT (R62 to R64) -/

theorem State.evalCurrent_preheat {c1 : WeldCtx} (he : s.engine = .preheat)
    (state : s.countPower.updateBurnOff = { s with ctx := some c1 }) (ha : c1.abortTarget = none) :
    s.evalUnits = State.evalPreheat { s with ctx := some c1 } := by
  have current : s.evalUnits = s.evalCurrent := by rw [State.evalUnits, he]
  rw [current]
  unfold State.evalCurrent
  rw [state]
  dsimp only
  rw [Option.bind_some, ha]
  exact if_pos he

/-- An interval in PREHEAT writes the sub-state, its timer and the draw-back target of the weld alone. -/
theorem State.evalPreheat_ctx {c : WeldCtx} (hc : s.ctx = some c) :
    ∃ c', s.evalPreheat.ctx = some c'
      ∧ c' = { c with sub := c'.sub, subTimer := c'.subTimer, drawTarget := c'.drawTarget } := by
  unfold State.evalPreheat
  rw [hc]
  dsimp only
  cases hr : c.preheat? with
  | none => exact ⟨c, hc, rfl⟩
  | some r =>
    dsimp only
    split
    · split
      · exact ⟨_, by simp [hc]; rfl, rfl⟩
      · exact ⟨_, by simp [hc]; rfl, rfl⟩
    · exact ⟨_, by simp [hc]; rfl, rfl⟩
    · split
      · exact ⟨_, by simp [hc]; rfl, rfl⟩
      · split
        · exact ⟨_, by simp [hc]; rfl, rfl⟩
        · exact ⟨_, by simp [hc]; rfl, rfl⟩
    · exact ⟨_, by simp [hc]; rfl, rfl⟩

/-- Settles O45: the 50th interval completes its window within step 1, and the row of the window acts alike. -/
theorem powerWindowSetsTheGuard : Obligations.PowerWindowSetsTheGuard := by
  constructor
  · intro s c p hc count running on ha hp
    obtain ⟨taken, sum⟩ := State.countPower_fiftieth hc count running on
    obtain ⟨c1, state, kept⟩ := State.countPower_spec hc
    have ctx := State.addPower_ctx hc
    have powered : (c.powered s.out.contactor (s.meas.um * s.meas.im)).guard = c.guard
        ∧ (c.powered s.out.contactor (s.meas.um * s.meas.im)).guardCount = c.guardCount
        ∧ (c.powered s.out.contactor (s.meas.um * s.meas.im)).flash? = c.flash?
        ∧ (c.powered s.out.contactor (s.meas.um * s.meas.im)).abortTarget = c.abortTarget := by
      unfold WeldCtx.powered
      split
      · exact ⟨rfl, rfl, rfl, rfl⟩
      · exact ⟨rfl, rfl, rfl, rfl⟩
    obtain ⟨guard, guards, flash, target⟩ := powered
    refine ⟨fun he => ?_, fun r he hr => ?_⟩
    · have window : s.countPower.ctx = some (c.powered s.out.contactor (s.meas.um * s.meas.im)).windowed := by
        rw [taken]
        exact State.takeWindow_plain ctx (by show s.engine ≠ _; rw [he]; decide)
      have c1_eq : c1 = (c.powered s.out.contactor (s.meas.um * s.meas.im)).windowed := by
        rw [state] at window
        exact Option.some_injective _ window
      have burnt : s.countPower.updateBurnOff = { s with ctx := some (c1.burnt s.meas.intervalPos) } := by
        rw [state]
        exact State.updateBurnOff_spec (s := { s with ctx := some c1 }) rfl
      have still : (c1.burnt s.meas.intervalPos).abortTarget = none :=
        (congrArg WeldCtx.abortTarget kept).trans ha
      obtain ⟨c', ctx', same⟩ := State.evalPreheat_ctx (s := { s with ctx := some (c1.burnt s.meas.intervalPos) }) rfl
      rw [State.evalCurrent_preheat he burnt still]
      refine ⟨c', ctx', ?_⟩
      rw [same, c1_eq]
      exact ⟨by rw [hp, ← sum]; rfl, rfl, rfl, guard, guards⟩
    · have window : s.countPower.ctx = some ((c.powered s.out.contactor (s.meas.um * s.meas.im)).guarded
          (r.base s.yielded) s.addPower.presentLoad) := by
        rw [taken]
        exact State.takeWindow_flash ctx (flash.trans hr) he (target.trans ha)
      have load : s.addPower.presentLoad = s.presentLoad := by
        rw [State.presentLoad, State.presentLoad, State.tableLoad, State.tableLoad, ctx, hc]
        have engine : s.addPower.engine = .flash := he
        rw [engine, he]
        simp only [WeldCtx.aborting, target, flash]
        rfl
      rw [load] at window
      refine ⟨_, window, by rw [hp, ← sum]; rfl, rfl, rfl, fun above => ?_, fun within => ?_⟩
      · have set : guardSetpoint (r.base s.yielded) s.presentLoad p = _ := guardSetpoint_above above
        simp only [WeldCtx.guarded, sum, ← hp, set, guards]
        exact ⟨rfl, rfl⟩
      · have set : guardSetpoint (r.base s.yielded) s.presentLoad p = none := guardSetpoint_within within
        simp only [WeldCtx.guarded, sum, ← hp, set, guards]
        exact ⟨trivial, rfl⟩
  · intro s c r hc count hr he ha
    have due : s.windowDue = true := by simp [State.windowDue, hc, count]
    have window := State.takeWindow_flash hc hr he ha
    have state : s.takeWindow = { s with ctx := some (c.guarded (r.base s.yielded) s.presentLoad) } := by
      rw [State.takeWindow_eq, window]
    refine ⟨s.windowEvent, rfl, fun above => State.event_declaredAs due ?_, fun within => State.event_declaredAs due ?_⟩
    · rw [state, WeldCtx.guarded, guardSetpoint_above above]
      rfl
    · rw [state, WeldCtx.guarded, guardSetpoint_within within]
      rfl

/-! ### The phase units (R49 to R54, R62 to R64, R80 to R91) -/

theorem State.stalls_iff (limit : Nat) :
    s.stalls limit = true ↔ limit * 98 / 10 ≤ s.meas.fm ∧ s.meas.velocity < 100 := by
  simp [State.stalls]

/-- The state in which an interval in PULL has counted its stall (R50). -/
def State.pullCounted (s : State) (r : PullRec) : State :=
  { s with stress := { s.stress with
      pullStall := (if r.forceLimit * 98 / 10 ≤ s.meas.fm ∧ s.meas.velocity < 100 then s.stress.pullStall + 2 else 0) } }

theorem State.evalUnits_pull {c : WeldCtx} {r : PullRec} (he : s.engine = .pulling) (hc : s.ctx = some c)
    (hr : c.pull? = some r) :
    s.evalUnits = if c.pReq ≤ c.pulled s.meas.position then (s.pullCounted r).endPull else s.pullCounted r := by
  have pull : s.evalUnits = s.evalPull := by rw [State.evalUnits, he]
  have record : s.ctx.bind WeldCtx.pull? = some r := by rw [hc]; exact hr
  have counted : { s with stress := { s.stress with
      pullStall := if s.stalls r.forceLimit then s.stress.pullStall + Config.intervalMs else 0 } } = s.pullCounted r := by
    simp only [State.stalls_iff]
    rfl
  have met : ((s.pullCounted r).ctx.elim false fun c => decide (c.pReq ≤ c.pulled (s.pullCounted r).meas.position))
      = decide (c.pReq ≤ c.pulled s.meas.position) := by
    show (s.ctx.elim false _) = _
    rw [hc]
    rfl
  have tested : (if ((s.pullCounted r).ctx.elim false fun c =>
        decide (c.pReq ≤ c.pulled (s.pullCounted r).meas.position)) then (s.pullCounted r).endPull else s.pullCounted r)
      = if c.pReq ≤ c.pulled s.meas.position then (s.pullCounted r).endPull else s.pullCounted r := by
    rw [met]
    simp only [decide_eq_true_eq]
  rw [pull, ← tested, ← counted, State.evalPull, record]

theorem State.evalUnits_abort {c : WeldCtx} {p : Int} (he : s.engine = .preheat ∨ s.engine = .flash)
    (hc : s.ctx = some c) (ha : c.abortTarget = some p) :
    ∃ c1, s.evalUnits = State.evalAbort { s with ctx := some c1 } p
      ∧ c1.besidesPower = (c.burnt s.meas.intervalPos).besidesPower := by
  obtain ⟨c1, state, kept⟩ := State.counted_spec hc
  have target : c1.abortTarget = some p := (WeldCtx.of_besidesPower kept).2.2.1.trans ha
  have current : s.evalUnits = s.evalCurrent := by
    unfold State.evalUnits
    rcases he with h | h
    · rw [h]
    · rw [h]
  refine ⟨c1, ?_, kept⟩
  rw [current]
  unfold State.evalCurrent
  rw [state]
  dsimp only
  rw [Option.bind_some, target]

theorem State.wireForce_congr (engine : t.engine = s.engine)
    (hold : (t.ctx.bind fun c => c.forceHold) = s.ctx.bind fun c => c.forceHold) (out : t.out = s.out) :
    t.wireForce = s.wireForce := by
  rw [State.wireForce, State.wireForce, engine, hold, out]

/-- The state in which an interval in UPSET has taken its peak and counted its stall (R87, R89). -/
def State.strokeCounted (s : State) (c : WeldCtx) (r : UpsetRec) : State :=
  { s with
    ctx := some { c with peak := some (max (c.peak.getD 0) s.meas.fm) }
    upset := { s.upset with
      stall := (if r.fu * 98 / 10 ≤ s.meas.fm ∧ s.meas.velocity < 100 then s.upset.stall + 2 else 0) } }

theorem State.evalUpset_eq {c : WeldCtx} {r : UpsetRec} (hc : s.ctx = some c) (hr : c.upset? = some r) :
    s.evalUpset = if r.du ≤ c.upsetAdvance s.meas.intervalPos then (s.strokeCounted c r).endUpset
      else s.strokeCounted c r := by
  have record : s.ctx.bind WeldCtx.upset? = some r := by rw [hc]; exact hr
  unfold State.evalUpset
  rw [record]
  dsimp only
  simp only [State.onCtx, hc, Option.map_some, State.stalls_iff, Option.elim_some, decide_eq_true_eq]
  rfl

/-- A weld context with 2 ms passed in its sub-state (R63). -/
def WeldCtx.subCounted (c : WeldCtx) : WeldCtx := { c with subTimer := c.subTimer + 2 }

/-- An interval in APPROACH counts, and starts PULSE ON at contact (R62 to R64). -/
theorem State.evalUnits_approach {c : WeldCtx} {r : PreheatRec} (he : s.engine = .preheat) (hc : s.ctx = some c)
    (ha : c.abortTarget = none) (hr : c.preheat? = some r) (hs : c.sub = some .approach) :
    ∃ c1 : WeldCtx, c1.besidesPower = (c.burnt s.meas.intervalPos).besidesPower ∧ s.evalUnits = State.setVelocity
      (if s.image.iContact ≤ s.meas.im then { s with ctx := some { c1 with sub := some .pulseOn, subTimer := 0 } }
        else { s with ctx := some c1.subCounted }) r.approach := by
  obtain ⟨c1, state, kept⟩ := State.counted_spec hc
  obtain ⟨prog, phase, target, -, -, -, sub, -⟩ := WeldCtx.of_besidesPower kept
  have sub : c1.sub = some .approach := sub.trans hs
  have record : c1.preheat? = some r := by
    rw [WeldCtx.preheat?, WeldCtx.body, prog, phase]
    exact hr
  refine ⟨c1, kept, ?_⟩
  rw [State.evalCurrent_preheat he state (target.trans ha), State.evalPreheat]
  dsimp only
  rw [record]
  dsimp only
  rw [sub]
  by_cases contact : s.image.iContact ≤ s.meas.im
  · rw [if_pos contact]
    exact congrArg (State.setVelocity · r.approach) (if_pos contact).symm
  · rw [if_neg contact]
    exact congrArg (State.setVelocity · r.approach) (if_neg contact).symm

/-- An interval in BOOST counts, and ends it at the boost length (R68, R81). -/
theorem State.evalUnits_boost {c : WeldCtx} {r : BoostRec} (he : s.engine = .boost) (hc : s.ctx = some c)
    (hr : c.boost? = some r) :
    ∃ c1 : WeldCtx, c1.besidesPower = (c.burnt s.meas.intervalPos).besidesPower
      ∧ s.evalUnits = if (r.length : Int) ≤ c1.burnOff - c1.boostEntry.getD 0 then State.endBoost { s with ctx := some c1 }
        else { s with ctx := some c1 } := by
  obtain ⟨c1, state, kept⟩ := State.counted_spec hc
  obtain ⟨prog, phase, -⟩ := WeldCtx.of_besidesPower kept
  have record : c1.boost? = some r := by
    rw [WeldCtx.boost?, WeldCtx.body, prog, phase]
    exact hr
  have unit : s.evalUnits = s.countPower.updateBurnOff.evalBoost := by rw [State.evalUnits, he]
  refine ⟨c1, kept, ?_⟩
  rw [unit, state, State.evalBoost]
  dsimp only
  rw [record]

/-- An interval in UPSET counts, and ends it at the distance (R87 to R89). -/
theorem State.evalUnits_upset {c : WeldCtx} {r : UpsetRec} (he : s.engine = .upset) (hc : s.ctx = some c)
    (hr : c.upset? = some r) :
    ∃ c1 : WeldCtx, c1.besidesPower = c.besidesPower
      ∧ s.evalUnits = if r.du ≤ c.upsetAdvance s.meas.intervalPos
        then (State.strokeCounted { s with ctx := some c1 } c1 r).endUpset
        else State.strokeCounted { s with ctx := some c1 } c1 r := by
  obtain ⟨c1, state, kept⟩ := State.countPower_spec hc
  obtain ⟨prog, phase, -, -, -, -, -, -, -, -, -, start, -⟩ := WeldCtx.of_besidesPower kept
  have record : c1.upset? = some r := by
    rw [WeldCtx.upset?, WeldCtx.body, prog, phase]
    exact hr
  have advance : c1.upsetAdvance s.meas.intervalPos = c.upsetAdvance s.meas.intervalPos := by
    rw [WeldCtx.upsetAdvance, WeldCtx.upsetAdvance, start]
  have unit : s.evalUnits = s.countPower.evalUpset := by rw [State.evalUnits, he]
  refine ⟨c1, kept, ?_⟩
  rw [unit, state, State.evalUpset_eq rfl record, ← advance]

/-- Settles O26: each phase unit takes the interval by its own record. -/
theorem phaseUnitsTakeTheInterval : Obligations.PhaseUnitsTakeTheInterval := by
  intro s c hc
  refine ⟨?_, ?_, ?_, ?_, ?_, ?_, ?_, ?_⟩
  · intro r he hr short
    rw [State.evalUnits_pull he hc hr, if_neg (by show ¬ c.pReq ≤ (_ : Int).toNat; omega)]
    rfl
  · intro r a he hr ha reached
    have ends : s.evalUnits = (s.pullCounted r).endPull := by
      rw [State.evalUnits_pull he hc hr, if_pos (by show c.pReq ≤ (_ : Int).toNat; omega)]
    obtain ⟨c', engine, awaiting, ctx, phase, -, achieved, hold, latches, reasons, out, -, -⟩ :=
      State.endPull_fields (s := s.pullCounted r) hc hr
    rw [ends]
    refine ⟨c', ctx, engine, awaiting, phase, achieved.trans (congrArg some ha.symm), hold, latches, ?_, out⟩
    rw [reasons]
    exact if_neg (by
      show ¬ (s.meas.position - c.pullStart.getD s.meas.position).toNat + r.tolerance < c.pReq
      omega)
  · intro f he ramping hf
    have release : s.evalUnits = s.evalRelease := by rw [State.evalUnits, he]
    rw [release, State.evalRelease, if_pos ramping, hf]
    rfl
  · intro r he ha hr hsub
    obtain ⟨c1, kept, state⟩ := State.evalUnits_approach he hc ha hr hsub
    obtain ⟨-, -, -, -, -, -, sub, timer, -⟩ := WeldCtx.of_besidesPower kept
    have timer : c1.subTimer = c.subTimer := timer
    rw [state]
    by_cases contact : s.image.iContact ≤ s.meas.im
    · rw [if_pos contact]
      exact ⟨{ c1 with sub := some .pulseOn, subTimer := 0 }, rfl, rfl, fun _ => ⟨rfl, rfl⟩, fun no => absurd contact (by omega)⟩
    · rw [if_neg contact]
      exact ⟨c1.subCounted, rfl, rfl, fun yes => absurd yes contact,
        fun _ => ⟨sub.trans hsub, congrArg (· + 2) timer⟩⟩
  · intro p he ha
    obtain ⟨c1, state, kept⟩ := State.evalUnits_abort he hc ha
    rw [state, State.evalAbort]
    refine ⟨fun reached wire => ?_, fun short => ?_⟩
    · have wired : ({ s with ctx := some c1 } : State).wireForce = s.wireForce :=
        State.wireForce_congr rfl (by rw [hc]; exact (WeldCtx.of_besidesPower kept).2.2.2.2.2.1) rfl
      rw [if_pos reached, State.enterReleasing_eq, wired, if_neg wire, State.ramping_engine]
    · rw [if_neg (by show ¬ s.meas.intervalPos ≤ p; omega)]
      exact ⟨rfl, rfl⟩
  · intro r u b he hr hn current hb
    obtain ⟨c1, kept, boost⟩ := State.evalUnits_boost he hc hr
    obtain ⟨prog, phase, -, -, burn, -, -, -, timer, entry, -, -, -, weld, latches, -⟩ := WeldCtx.of_besidesPower kept
    have burn : c1.burnOff = b := burn.trans hb.symm
    have entry : c1.boostEntry = c.boostEntry := entry
    have next : c1.nextIndex = c.nextIndex := by
      rw [WeldCtx.nextIndex, WeldCtx.nextIndex, phase]
      rfl
    have follows : c1.prog.body c1.nextIndex = some (.upset u) := by
      rw [next, prog]
      exact hn
    rw [burn, entry] at boost
    by_cases reached : (r.length : Int) ≤ b - c.boostEntry.getD 0
    · obtain ⟨engine, ctx, -, out⟩ := State.endBoost_stroke (s := { s with ctx := some c1 }) rfl follows current
      rw [boost, if_pos reached]
      refine ⟨_, ctx, burn, fun _ => ⟨engine, congrArg some timer, congrArg some next, rfl, rfl, ?_, out⟩,
        fun no => absurd reached (by omega)⟩
      show c1.latches ++ [⟨.upsetStart, s.meas.intervalPos, c1.weldTime⟩] = _
      rw [latches, weld]
      rfl
    · rw [boost, if_neg reached]
      exact ⟨c1, rfl, burn, fun yes => absurd yes reached, fun _ => ⟨he, rfl, phase, latches⟩⟩
  · intro r f n he hr hn reached
    obtain ⟨c1, kept, state⟩ := State.evalUnits_upset he hc hr
    obtain ⟨prog, phase, -, -, -, -, -, -, -, -, time, start, peak, weld, -⟩ := WeldCtx.of_besidesPower kept
    have next : c1.nextIndex = c.nextIndex := by rw [WeldCtx.nextIndex, WeldCtx.nextIndex, phase]
    have ends : s.evalUnits = (State.strokeCounted { s with ctx := some c1 } c1 r).endUpset := state.trans (if_pos reached)
    obtain ⟨c', engine, ctx, phase', timer, time', distance, peak', latch, out⟩ :=
      State.endUpset_hold (s := State.strokeCounted { s with ctx := some c1 } c1 r)
        (c := { c1 with peak := some (max (c1.peak.getD 0) s.meas.fm) }) rfl (f := f) (n := n)
        (by show c1.prog.body c1.nextIndex = _; rw [next, prog, hn])
    rw [ends]
    refine ⟨c', ctx, engine, phase'.trans (congrArg some next), timer, time'.trans ?_, distance.trans ?_, peak'.trans ?_,
      latch.trans ?_, out.trans ?_⟩
    · show some (c1.curTime.getD _) = _
      rw [time]
      rfl
    · show some (s.meas.intervalPos - c1.upStart.getD s.meas.intervalPos).toNat = _
      rw [start]
    · show some (max (max (c1.peak.getD 0) s.meas.fm) s.meas.fm) = _
      rw [peak, max_assoc, max_self]
    · show some (Latch.mk .upsetEnd s.meas.intervalPos c1.weldTime) = _
      rw [weld]
    · show ({ s.out with
          contactor := if c1.curTime = none then false else s.out.contactor
          velocity := (min s.image.creep s.image.vMax : Nat), force := f * 10 } : Outputs) = _
      rw [time]
  · intro r he hr short
    obtain ⟨c1, kept, state⟩ := State.evalUnits_upset he hc hr
    obtain ⟨-, -, -, -, -, -, -, -, -, -, -, -, peak, -⟩ := WeldCtx.of_besidesPower kept
    have goes : s.evalUnits = State.strokeCounted { s with ctx := some c1 } c1 r :=
      state.trans (if_neg (by show ¬ r.du ≤ c.upsetAdvance s.meas.intervalPos; omega))
    rw [goes]
    refine ⟨_, rfl, ?_, he, rfl, rfl⟩
    show some (max (c1.peak.getD 0) s.meas.fm) = _
    rw [peak]

end
end Sys2Proof.Machine

/-! PROOFS. The capture of a 10 ms sample (R143, R171 to R174): O27. -/

namespace Sys2Proof.Machine

section
variable {s t u : State}

/-! ### Blocks closed and samples written (R173, R174) -/

theorem TraceStore.wake_markers (t : TraceStore) (b : Bool) : (t.wake b).markers = t.markers := by
  unfold TraceStore.wake
  repeat' split
  all_goals rfl

theorem TraceStore.closeBlock_markers {t : TraceStore} {b : Bool} {blk : Block} (h : (t.bank b).filling = some blk) :
    (t.closeBlock b false).markers = if Config.bankBlocks ≤ (t.bank b).blocks.length + 1 then 0 else t.markers := by
  unfold TraceStore.closeBlock
  rw [h]
  dsimp only
  rw [TraceStore.wake_markers]
  simp

/-- A sample written: its block stays open, or is closed with its 32nd sample (R173). -/
theorem TraceStore.writeSample_spec (t : TraceStore) (b fine : Bool) (phase : Option Nat) (time : Nat) (x : Sample)
    (blk : Block) (hb : (t.bank b).sampled fine phase time t.markers x = blk) :
    (t.writeSample b fine phase time x).bank b
        = (if Config.blockSamples ≤ blk.samples.length then (t.bank b).closed blk false
          else { t.bank b with filling := some blk })
      ∧ (t.writeSample b fine phase time x).bank (!b) = t.bank (!b)
      ∧ (t.writeSample b fine phase time x).markers = 0 := by
  have apart : (!b) ≠ b := by cases b <;> decide
  rw [TraceStore.writeSample_eq, hb]
  split
  · have open' : (({ t.setBank b { t.bank b with filling := some blk } with markers := 0 } : TraceStore).bank b).filling
        = some blk := by simp
    refine ⟨?_, ?_, ?_⟩
    · rw [TraceStore.bank_closeBlock open']
      simp [Bank.closed]
    · rw [TraceStore.bank_closeBlock open']
      simp [TraceStore.bank_setBank_of_ne _ apart]
    · rw [TraceStore.closeBlock_markers open']
      exact ite_self 0
  · refine ⟨?_, ?_, rfl⟩
    · simp
    · simp [TraceStore.bank_setBank_of_ne _ apart]

/-- A sample of the open block's period, or with no block open, is written (R173). -/
theorem TraceStore.capture_same {t : TraceStore} {b fine : Bool} (hc : (t.bank b).capturing = true)
    (h : ∀ blk, (t.bank b).filling = some blk → blk.fine = fine) (phase : Option Nat) (time : Nat) (x : Sample) :
    t.capture b fine phase time x = t.writeSample b fine phase time x := by
  have same : ((t.bank b).filling.map fun blk => decide (blk.fine ≠ fine)).getD false = false := by
    cases hf : (t.bank b).filling with
    | none => rfl
    | some blk => simp [h blk hf]
  unfold TraceStore.capture
  rw [same]
  exact if_pos hc

/-- A sample of the other period closes the open block, and is written where the bank still captures (R173, R174). -/
theorem TraceStore.capture_other {t : TraceStore} {b fine : Bool} {blk : Block} (hf : (t.bank b).filling = some blk)
    (h : blk.fine ≠ fine) (phase : Option Nat) (time : Nat) (x : Sample) :
    t.capture b fine phase time x = if ((t.closeBlock b false).bank b).capturing
      then (t.closeBlock b false).writeSample b fine phase time x else t.closeBlock b false := by
  have other : ((t.bank b).filling.map fun blk => decide (blk.fine ≠ fine)).getD false = true := by
    rw [hf]
    exact decide_eq_true h
  unfold TraceStore.capture
  rw [other]
  rfl

theorem TraceStore.capture_kept_newest (t : TraceStore) (b fine : Bool) (phase : Option Nat) (time : Nat) (x : Sample) :
    (t.capture b fine phase time x).newest = t.newest :=
  congrArg Prod.fst (TraceStore.kept_capture t b fine phase time x)

/-- The bank after a block closed while it captured: block 575 ends the capture and truncates (R174). -/
theorem Bank.closed_capturing {k : Bank} (hc : k.capturing = true) (blk : Block) : k.closed blk false = { k with
    blocks := k.blocks ++ [blk]
    filling := none
    capturing := decide (k.blocks.length < 575)
    truncated := k.truncated || decide (575 ≤ k.blocks.length) } := by
  have full : decide (Config.bankBlocks ≤ k.blocks.length + 1) = decide (575 ≤ k.blocks.length) := by
    simp [Config.bankBlocks]
  have room : (!decide (575 ≤ k.blocks.length)) = decide (k.blocks.length < 575) := by
    rcases Nat.lt_or_ge k.blocks.length 575 with h | h
    · rw [decide_eq_true h, decide_eq_false (by omega)]
      rfl
    · rw [decide_eq_true h, decide_eq_false (by omega)]
      rfl
  rw [Bank.closed, hc, full]
  simp only [Bool.not_false, Bool.and_true, Bool.true_and, room]

/-- A bank while it captures, after a sample of its open block's period or of any where none is open. -/
theorem TraceStore.capture_within {t : TraceStore} {b fine : Bool} (hc : (t.bank b).capturing = true)
    (h : ∀ blk, (t.bank b).filling = some blk → blk.fine = fine) (phase : Option Nat) (time : Nat) (x : Sample)
    (blk : Block) (hb : (t.bank b).sampled fine phase time t.markers x = blk) :
    (t.capture b fine phase time x).markers = 0
      ∧ (t.capture b fine phase time x).bank (!b) = t.bank (!b)
      ∧ (blk.samples.length < 32 → (t.capture b fine phase time x).bank b = { t.bank b with filling := some blk })
      ∧ (32 ≤ blk.samples.length → (t.capture b fine phase time x).bank b = (t.bank b).closed blk false) := by
  obtain ⟨bank, other, markers⟩ := TraceStore.writeSample_spec t b fine phase time x blk hb
  rw [TraceStore.capture_same hc h]
  exact ⟨markers, other, fun few => bank.trans (if_neg (by show ¬ 32 ≤ _; omega)), fun many => bank.trans (if_pos many)⟩

/-- The same after a sample of the other period. -/
theorem TraceStore.capture_across {t : TraceStore} {b fine : Bool} {blk : Block} (hc : (t.bank b).capturing = true)
    (hf : (t.bank b).filling = some blk) (h : blk.fine ≠ fine) (phase : Option Nat) (time : Nat) (x : Sample) :
    (t.capture b fine phase time x).markers = 0
      ∧ (t.capture b fine phase time x).bank (!b) = t.bank (!b)
      ∧ ((t.bank b).blocks.length < 575 → (t.capture b fine phase time x).bank b = { t.bank b with
          blocks := (t.bank b).blocks ++ [blk]
          filling := some ⟨(t.bank b).blocks.length + 1, fine, phase, time, t.markers, [x]⟩ })
      ∧ (575 ≤ (t.bank b).blocks.length → (t.capture b fine phase time x).bank b = { t.bank b with
          blocks := (t.bank b).blocks ++ [blk], filling := none, capturing := false, truncated := true }) := by
  have apart : (!b) ≠ b := by cases b <;> decide
  have closed : (t.closeBlock b false).bank b = (t.bank b).closed blk false := by
    rw [TraceStore.bank_closeBlock hf, TraceStore.bank_setBank]
  have closed' : (t.closeBlock b false).bank (!b) = t.bank (!b) := by
    rw [TraceStore.bank_closeBlock hf, TraceStore.bank_setBank_of_ne _ apart]
  have markers := TraceStore.closeBlock_markers hf
  have shape := Bank.closed_capturing hc blk
  have goes : ((t.closeBlock b false).bank b).capturing = decide ((t.bank b).blocks.length < 575) := by
    rw [closed, shape]
  rw [TraceStore.capture_other hf h]
  by_cases room : (t.bank b).blocks.length < 575
  · have opened : ((t.closeBlock b false).bank b).sampled fine phase time (t.closeBlock b false).markers x
        = ⟨(t.bank b).blocks.length + 1, fine, phase, time, t.markers, [x]⟩ := by
      rw [closed, markers, if_neg (by show ¬ 576 ≤ _; omega), Bank.sampled, shape]
      simp
    obtain ⟨bank, other, none'⟩ := TraceStore.writeSample_spec (t.closeBlock b false) b fine phase time x _ opened
    rw [if_pos (by rw [goes, decide_eq_true room])]
    refine ⟨none', other.trans closed', fun _ => bank.trans ?_, fun full => absurd room (by omega)⟩
    rw [if_neg (by show ¬ 32 ≤ 1; decide), closed, shape, decide_eq_true room, decide_eq_false (by omega : ¬ 575 ≤ _),
      Bool.or_false, ← hc]
  · rw [if_neg (by rw [goes, decide_eq_false room]; decide)]
    refine ⟨markers.trans (if_pos (by show 576 ≤ _; omega)), closed', fun few => absurd few room, fun full => ?_⟩
    rw [closed, shape, decide_eq_false room, decide_eq_true full, Bool.or_true]

/-! ### The sample handed over (R143, R171, R172) -/

theorem State.takeSample_captured {c : WeldCtx} (hc : s.ctx = some c)
    (hk : (s.trace.bank (bankOf c.serial)).capturing = true) (h : s.engine.fine = true ∨ s.meas.sampleNo = 9) :
    s.takeSample.trace = s.trace.capture (bankOf c.serial) s.engine.fine c.phase (c.weldTime / 10)
      ⟨clamp16 ((s.meas.intervalPos - c.startPos).tdiv 10), s.meas.sumI / 5, s.meas.sumU / 5, s.meas.sumF / 5⟩ := by
  have handed : ((s.trace.bank (bankOf c.serial)).capturing && (s.engine.fine || decide (s.meas.sampleNo = 9))) = true := by
    rcases h with h | h
    · simp [hk, h]
    · simp [hk, h]
  unfold State.takeSample State.handSample
  dsimp only
  rw [hc]
  dsimp only
  rw [if_pos handed]

theorem State.takeSample_passed (hf : s.engine.fine = false) (hn : s.meas.sampleNo ≠ 9) :
    s.takeSample.trace = s.trace := by
  unfold State.takeSample State.handSample
  dsimp only
  split
  · rfl
  · rw [if_neg (by simp [hf, hn])]

/-- Settles O27: by the open block of the weld's bank, its period, and its length. -/
theorem sampleIsCaptured : Obligations.SampleIsCaptured := by
  intro s c k x opened due hc hk hcap hx ho
  have ctx : s.takeSample.ctx = s.ctx := by
    rw [State.takeSample_eq]
  have taken := State.sampleEvent_due due
  subst hk
  refine ⟨fun he hn => ⟨s.sampleEvent, rfl, ?_, ?_⟩, fun he => ?_⟩
  · have coarse : s.engine.fine = false := by
      revert he
      cases s.engine <;> simp [Engine.fine]
    rw [taken, State.declare_trace, State.takeSample_passed coarse hn]
  · rw [taken, State.declare_ctx, ctx]
  · have handed : s.engine.fine = true ∨ s.meas.sampleNo = 9 := by
      rcases he with he | ⟨-, hn⟩
      · left
        revert he
        cases s.engine <;> simp [Engine.fine]
      · exact .inr hn
    have trace := State.takeSample_captured hc hcap handed
    obtain ⟨b, hb⟩ : ∃ b, b = bankOf c.serial := ⟨_, rfl⟩
    have sample : (⟨clamp16 ((s.meas.intervalPos - c.startPos).tdiv 10), s.meas.sumI / 5, s.meas.sumU / 5,
        s.meas.sumF / 5⟩ : Sample) = x := hx.symm
    rw [sample, ← hb] at trace
    rw [← hb] at hcap ⊢
    have sampled : ∀ blk, (s.trace.bank b).filling = some blk →
        (s.trace.bank b).sampled s.engine.fine c.phase (c.weldTime / 10) s.trace.markers x
          = { blk with markers := blk.markers + s.trace.markers, samples := blk.samples ++ [x] } := fun blk h => by
      rw [Bank.sampled, h]
    refine ⟨s.sampleEvent, rfl, ?_⟩
    rw [taken, State.declare_ctx, State.declare_trace, ctx, trace]
    refine ⟨rfl, ?_⟩
    rw [TraceStore.capture_kept_newest]
    cases hf : (s.trace.bank b).filling with
    | none =>
      have first : (s.trace.bank b).sampled s.engine.fine c.phase (c.weldTime / 10) s.trace.markers x
          = opened (s.trace.bank b).blocks.length := by
        rw [Bank.sampled, hf]
        exact (ho _).symm
      obtain ⟨markers, other, few, -⟩ := TraceStore.capture_within hcap (fun _ h => by rw [hf] at h; cases h) _ _ _ _ first
      exact ⟨markers, rfl, other, fun _ => few (by rw [ho]; show 1 < 32; decide), fun _ _ h => nomatch h⟩
    | some b0 =>
      by_cases period : b0.fine = s.engine.fine
      · obtain ⟨markers, other, few, many⟩ := TraceStore.capture_within hcap
          (fun blk h => by rw [hf] at h; cases h; exact period) _ _ _ _ (sampled b0 hf)
        have length : ({ b0 with markers := b0.markers + s.trace.markers, samples := b0.samples ++ [x] } : Block).samples.length
            = b0.samples.length + 1 := List.length_append
        rw [length] at few many
        refine ⟨markers, rfl, other, nofun, fun b1 b' h hb' => ?_⟩
        cases h
        rw [hb']
        refine ⟨fun _ h => few (by omega), fun _ h => ?_, fun h => absurd period h, fun h => absurd period h⟩
        rw [many (by omega), Bank.closed_capturing hcap]
      · obtain ⟨markers, other, room, full⟩ := TraceStore.capture_across hcap hf period c.phase (c.weldTime / 10) x
        refine ⟨markers, rfl, other, nofun, fun b1 b' h _ => ?_⟩
        cases h
        refine ⟨fun h => absurd h period, fun h => absurd h period, fun _ h => ?_, fun _ h => full h⟩
        rw [room h, ho]

end
end Sys2Proof.Machine

/-! PROOFS. Changes of the peer table and of the rating (R98 to R101, R107 to R110, R185, R186): what they leave, and that they
make no record (O4, O11, O37, O38). -/

namespace Sys2Proof.Machine

section
variable {s t u : State}

/-! ### A weld in PREHEAT or FLASH makes no record (R157, R159) -/

@[simp] theorem State.closeEpisode_records : s.closeEpisode.records = s.records := by
  unfold State.closeEpisode
  split
  · rfl
  · rfl

@[simp] theorem State.raise_records (source : RiseSource) (claim cls : Nat) : (s.raise source claim cls).records = s.records :=
  (State.raise_fields source claim cls).2.2.2.2.2.2.2.1

@[simp] theorem State.stopPower_records : s.stopPower.records = s.records := rfl

@[simp] theorem State.takeCurrentOff_records : s.takeCurrentOff.records = s.records := by simp [State.takeCurrentOff]

@[simp] theorem State.enterUpset_records (i : Nat) : (s.enterUpset i).records = s.records := by
  have begun : (s.strokeBegun i).records = s.records := by simp [State.strokeBegun]
  rw [State.enterUpset_eq]
  split
  · exact begun
  · split
    · simp [begun]
    · simp [begun]

@[simp] theorem State.enterBoost_records (i : Nat) : (s.enterBoost i).records = s.records := by
  unfold State.enterBoost
  dsimp only
  split
  · simp
  · simp

@[simp] theorem State.enterFlash_records (i : Nat) : (s.enterFlash i).records = s.records := by
  unfold State.enterFlash
  dsimp only
  split
  · simp
  · split
    · simp
    · split
      · simp
      · simp

@[simp] theorem State.restoreStep_records : s.restoreStep.records = s.records := by
  unfold State.restoreStep
  split
  · rfl
  · rfl

@[simp] theorem State.makeMove_records : s.makeMove.records = s.records := by
  unfold State.makeMove
  dsimp only
  split
  · simp
  · split
    · simp
    · simp

@[simp] theorem State.leaveFlash_records (claim : Option (Nat × Nat)) : (s.leaveFlash claim).records = s.records := by
  unfold State.leaveFlash
  split
  · rfl
  · split
    · simp
    · split
      · rfl
      · simp

@[simp] theorem State.enterApproach_records : s.enterApproach.records = s.records := by
  unfold State.enterApproach
  split
  · rfl
  · cases h : s.yielded
    · simp
    · simp

@[simp] theorem State.enterPreheat_records (i : Nat) : (s.enterPreheat i).records = s.records := by
  unfold State.enterPreheat
  dsimp only
  split
  · simp
  · simp

@[simp] theorem State.enterPulseOff_records : s.enterPulseOff.records = s.records := by
  unfold State.enterPulseOff
  split
  · rfl
  · rfl

@[simp] theorem State.preheatExit_records : s.preheatExit.records = s.records := by
  unfold State.preheatExit
  dsimp only
  split
  · rfl
  · split
    · simp
    · simp

@[simp] theorem State.endPulseOff_records : s.endPulseOff.records = s.records := by
  unfold State.endPulseOff
  split
  · rfl
  · split
    · rfl
    · split
      · simp
      · simp

@[simp] theorem State.sequencerAdmitted_records (claim : Nat × Nat) : (s.sequencerAdmitted claim).records = s.records := by
  unfold State.sequencerAdmitted
  dsimp only
  split
  · rfl
  · split
    · split
      · rfl
      · split
        · simp
        · simp
    · simp
    · simp
    all_goals rfl

@[simp] theorem State.regulatorResumes_records : s.regulatorResumes.records = s.records := by
  unfold State.regulatorResumes
  split
  · rfl
  · split
    · simp
    · rfl

@[simp] theorem State.resumeAdmitted_records : s.resumeAdmitted.records = s.records := by simp [State.resumeAdmitted]

@[simp] theorem State.startAbort_records (x : EndCause) : (s.startAbort x).records = s.records := by
  simp [State.startAbort]

/-- An end-class cause in PREHEAT or FLASH makes no record (R18). -/
theorem State.endCause_records (he : s.engine = .preheat ∨ s.engine = .flash) (x : EndCause) (tag : Option Nat) :
    (s.endCause x tag).records = s.records := by
  unfold State.endCause
  rcases he with h | h
  all_goals
    simp only [h]
    split
    · simp
    · simp

theorem State.yieldLimited_records (he : s.engine = .preheat ∨ s.engine = .flash) : s.yieldLimited.records = s.records := by
  obtain ⟨engine, -⟩ := State.limitStands_fields (s := s)
  have kept : s.limitStands.records = s.records := by
    rw [State.limitStands, State.cancelResume_eq]
    rfl
  exact (State.endCause_records (s := s.limitStands) (by rwa [engine]) _ _).trans kept

@[simp] theorem State.applyYield_records : s.applyYield.records = s.records := by
  unfold State.applyYield
  split
  · rfl
  · split
    · rfl
    · split
      · split
        · simp [State.countYield]
        · simp [State.countYield]
      · dsimp only
        split
        · simp [State.countYield]
        · simp [State.countYield]
      all_goals rfl

@[simp] theorem State.yieldEval_records (lowered : Bool) : (s.yieldEval lowered).records = s.records := by
  unfold State.yieldEval State.resumeEval
  repeat' split
  all_goals simp

/-- A RESUME rise pends in PREHEAT or FLASH alone (R133, R138; log 20). -/
def State.ResumesThere (s : State) : Prop := s.resuming = true → s.engine = .preheat ∨ s.engine = .flash

theorem State.resumesThere_of_sound (h : s.weldSound = true) : s.ResumesThere := by
  intro resuming
  simp only [State.weldSound, Bool.and_eq_true, resuming, Bool.or_true, Bool.not_true, Bool.false_or, Bool.or_eq_true,
    decide_eq_true_eq] at h
  exact h.1.1.1.2

theorem State.admitRise_records {a : Ask} (h : a.source = .resume → s.engine = .preheat ∨ s.engine = .flash) :
    (s.admitRise a).records = s.records := by
  unfold State.admitRise
  dsimp only
  split
  · simp
  · next resume =>
    split
    · exact State.yieldLimited_records (s := { s with share := { s.share with rise := s.share.rise.ended } }) (h resume)
    · simp

theorem State.riseEval_records (h : s.ResumesThere) (tableChanged : Bool) : (s.riseEval tableChanged).records = s.records := by
  unfold State.riseEval
  split
  · rfl
  · next a ask =>
    have there : a.source = .resume → s.engine = .preheat ∨ s.engine = .flash := fun resume =>
      h (by rw [State.resuming, ask]; exact decide_eq_true resume)
    split
    · rfl
    · split
      · simp [State.withdrawRise]
      · rfl
    · split
      · simp [State.withdrawRise]
      · split
        · exact State.admitRise_records there
        · rfl
    · split
      · simp [State.reraise]
      · rfl

theorem State.shareEvent_records (h : s.ResumesThere) (tableChanged lowered : Bool) :
    (s.shareEvent tableChanged lowered).records = s.records :=
  (State.yieldEval_records lowered).trans (State.riseEval_records h tableChanged)

/-! ### What a weld leaves, field by field -/

theorem State.of_besidesWeld (h : t.besidesWeld = u.besidesWeld) :
    t.meas = u.meas ∧ t.slots = u.slots ∧ t.image = u.image ∧ t.station = u.station ∧ t.share.peers = u.share.peers
      ∧ t.share.rating = u.share.rating ∧ t.share.genState = u.share.genState ∧ t.share.ratingAge = u.share.ratingAge
      ∧ t.share.source = u.share.source ∧ t.share.everJoined = u.share.everJoined ∧ t.link.state = u.link.state
      ∧ t.link.listen = u.link.listen ∧ t.link.failed = u.link.failed := by
  have same : ∀ {α : Type} (f : State → α), f t.besidesWeld = f u.besidesWeld := fun f => congrArg f h
  exact ⟨same (·.meas), same (·.slots), same (·.image), same (·.station), same (·.share.peers), same (·.share.rating),
    same (·.share.genState), same (·.share.ratingAge), same (·.share.source), same (·.share.everJoined),
    same (·.link.state), same (·.link.listen), same (·.link.failed)⟩

/-- A change of the table, taken: the table stands as changed, and no record is made (R98, R100, R101). -/
theorem State.withPeers_spec (h : s.ResumesThere) (l : List Peer) :
    (s.withPeers l).declare.share.peers = l ∧ (s.withPeers l).declare.meas = s.meas
      ∧ (s.withPeers l).declare.slots = s.slots ∧ (s.withPeers l).declare.records = s.records := by
  have kept : (s.withPeers l).declare.besidesWeld = _ :=
    (State.declare_besidesWeld _).trans (State.shareEvent_besidesWeld { s with share := { s.share with peers := l } } _ _)
  obtain ⟨meas, slots, -, -, peers, -⟩ := State.of_besidesWeld kept
  have there : ({ s with share := { s.share with peers := l } } : State).ResumesThere := h
  exact ⟨peers, meas, slots, (State.declare_records _).trans (State.shareEvent_records there _ _)⟩

/-- Settles O37: the lapse and the removal of an entry are changes of the table. -/
theorem peersLapseAndLeave : Obligations.PeersLapseAndLeave := by
  intro s n p hp station
  refine ⟨fun live time => ?_, fun lapsed time => ?_⟩
  · have due : s.lapseDue n.val = true :=
      List.any_eq_true.mpr ⟨p, hp, by simp [station, live, time]⟩
    have taken : s.lapseEvent n.val = (s.lapse n.val).declare := State.event_of_due s due _
    have kept : (s.lapse n.val).declare.besidesWeld = _ := (State.declare_besidesWeld _).trans
      (State.shareEvent_besidesWeld { s with share := { s.share with
        peers := s.share.peers.map fun q => if q.station = n.val then { q with live := false } else q } } _ _)
    obtain ⟨meas, slots, -, -, peers, -⟩ := State.of_besidesWeld kept
    refine ⟨s.lapseEvent n.val, rfl, ?_⟩
    rw [taken]
    exact ⟨peers, meas, slots, fun sound => (State.withPeers_spec (State.resumesThere_of_sound sound) _).2.2.2⟩
  · have due : s.removalDue n.val = true :=
      List.any_eq_true.mpr ⟨p, hp, by simp [station, lapsed, time]⟩
    have taken : s.removalEvent n.val = (s.removePeer n.val).declare := State.event_of_due s due _
    have kept : (s.removePeer n.val).declare.besidesWeld = _ := (State.declare_besidesWeld _).trans
      (State.shareEvent_besidesWeld { s with share := { s.share with
        peers := s.share.peers.filter fun q => decide (q.station ≠ n.val) } } _ _)
    obtain ⟨meas, slots, -, -, peers, -⟩ := State.of_besidesWeld kept
    refine ⟨s.removalEvent n.val, rfl, ?_⟩
    rw [taken]
    exact ⟨peers, meas, slots, fun sound => (State.withPeers_spec (State.resumesThere_of_sound sound) _).2.2.2⟩

/-! ### The entry of a DEMAND (R98) -/

theorem mem_insertPeer_iff {p x : Peer} {l : List Peer} (h : l.Pairwise fun p q => p.station < q.station) :
    x ∈ insertPeer p l ↔ x = p ∨ x ∈ l ∧ x.station ≠ p.station := by
  induction l with
  | nil => simp [insertPeer]
  | cons q rest ih =>
    obtain ⟨above, hrest⟩ := List.pairwise_cons.1 h
    unfold insertPeer
    split
    · next first =>
      have later : ∀ y ∈ q :: rest, y.station ≠ p.station := by
        intro y hy
        rcases List.mem_cons.1 hy with rfl | hy
        · omega
        · have := above y hy
          omega
      rw [List.mem_cons]
      exact or_congr_right ⟨fun hx => ⟨hx, later x hx⟩, And.left⟩
    · split
      · next same =>
        have later : ∀ y ∈ rest, y.station ≠ p.station := fun y hy => by
          have := above y hy
          omega
        rw [List.mem_cons, List.mem_cons]
        refine or_congr_right ⟨fun hx => ⟨.inr hx, later x hx⟩, fun ⟨hx, other⟩ => hx.resolve_left ?_⟩
        rintro rfl
        exact other same.symm
      · next after differ =>
        rw [List.mem_cons, ih hrest, List.mem_cons]
        refine ⟨fun hx => ?_, fun hx => ?_⟩
        · rcases hx with rfl | rfl | ⟨hx, other⟩
          · exact .inr ⟨.inl rfl, fun same => differ same.symm⟩
          · exact .inl rfl
          · exact .inr ⟨.inr hx, other⟩
        · rcases hx with rfl | ⟨rfl | hx, other⟩
          · exact .inr (.inl rfl)
          · exact .inl rfl
          · exact .inr (.inr ⟨hx, other⟩)

theorem insertPeer_rising {p : Peer} {l : List Peer} (h : l.Pairwise fun p q => p.station < q.station) :
    (insertPeer p l).Pairwise fun p q => p.station < q.station := by
  induction l with
  | nil => exact List.pairwise_singleton _ _
  | cons q rest ih =>
    obtain ⟨above, hrest⟩ := List.pairwise_cons.1 h
    unfold insertPeer
    split
    · next first =>
      refine List.pairwise_cons.2 ⟨fun y hy => ?_, h⟩
      rcases List.mem_cons.1 hy with rfl | hy
      · exact first
      · exact first.trans (above y hy)
    · split
      · next same => exact List.pairwise_cons.2 ⟨fun y hy => same ▸ above y hy, hrest⟩
      · next after differ =>
        refine List.pairwise_cons.2 ⟨fun y hy => ?_, ih hrest⟩
        rcases (mem_insertPeer_iff hrest).1 hy with rfl | ⟨hy, -⟩
        · omega
        · exact above y hy

/-- A DEMAND of another station, taken (R98). -/
theorem exec_demand {n : Station} {d : List Byte} (receives : s.receives = true) (hn : n ≠ s.station)
    (he : s.engine ≠ .configFault) (length : 8 ≤ d.length) :
    exec (.demand n d) s = .next (s.withPeers (insertPeer (Peer.ofDemand n.val d) s.share.peers)).declare := by
  show Host.Outcome.next (s.onRx n fun t => t.ifSharing fun u => u.takeDemand n d) = _
  rw [State.onRx_other receives hn, State.ifSharing_sharing he, State.takeDemand, if_pos length]

/-- Settles O11: the table with the sender's entry in its place. -/
theorem demandEntersTheTable : Obligations.DemandEntersTheTable := by
  intro s n d receives hn he length rising
  have sorted := (risingStations_iff _).1 rising
  have kept : (s.withPeers (insertPeer (Peer.ofDemand n.val d) s.share.peers)).declare.besidesWeld = _ :=
    (State.declare_besidesWeld _).trans (State.shareEvent_besidesWeld
      { s with share := { s.share with peers := insertPeer (Peer.ofDemand n.val d) s.share.peers } } _ _)
  obtain ⟨meas, slots, -, -, peers, -⟩ := State.of_besidesWeld kept
  have peers : (s.withPeers (insertPeer (Peer.ofDemand n.val d) s.share.peers)).declare.share.peers
    = insertPeer (Peer.ofDemand n.val d) s.share.peers := peers
  refine ⟨_, exec_demand receives hn he length, ?_⟩
  rw [peers]
  refine ⟨(mem_insertPeer_iff sorted).2 (.inl rfl), fun p hp station => ?_, fun p station => ?_,
    (risingStations_iff _).2 (insertPeer_rising sorted), meas, slots,
    fun sound => (State.withPeers_spec (State.resumesThere_of_sound sound) _).2.2.2⟩
  · exact ((mem_insertPeer_iff sorted).1 hp).resolve_right fun h => h.2 station
  · rw [mem_insertPeer_iff sorted]
    refine ⟨fun h => ?_, fun h => .inr ⟨h, station⟩⟩
    rcases h with rfl | h
    · exact absurd rfl station
    · exact h.1

/-! ### The rating source (R109, R110) -/

theorem State.sourceNow_congr (age : t.share.ratingAge = s.share.ratingAge) (image : t.image = s.image)
    (ever : t.share.everJoined = s.share.everJoined) : t.sourceNow = s.sourceNow := by
  rw [State.sourceNow, State.sourceNow, age, image, ever]

/-- A change of the budget's terms, taken: the source stands as formed anew (R109). -/
theorem State.budgetEvent_spec (s before : State) :
    (s.budgetEvent before).declare.share.rating = s.share.rating
      ∧ (s.budgetEvent before).declare.share.genState = s.share.genState
      ∧ (s.budgetEvent before).declare.share.ratingAge = s.share.ratingAge
      ∧ (s.budgetEvent before).declare.share.source = s.sourceNow
      ∧ (s.budgetEvent before).declare.share.peers = s.share.peers
      ∧ (s.budgetEvent before).declare.meas = s.meas ∧ (s.budgetEvent before).declare.slots = s.slots
      ∧ (s.budgetEvent before).declare.image = s.image
      ∧ (s.budgetEvent before).declare.link.state = s.link.state
      ∧ (s.ResumesThere → (s.budgetEvent before).declare.records = s.records) := by
  have kept : (s.budgetEvent before).declare.besidesWeld = _ := (State.declare_besidesWeld _).trans
    (State.shareEvent_besidesWeld { s with share := { s.share with source := s.sourceNow } } _ _)
  obtain ⟨meas, slots, image, -, peers, rating, gen, age, source, -, state, -⟩ := State.of_besidesWeld kept
  refine ⟨rating, gen, age, source, peers, meas, slots, image, state, fun there => ?_⟩
  have there : ({ s with share := { s.share with source := s.sourceNow } } : State).ResumesThere := there
  exact (State.declare_records _).trans (State.shareEvent_records there _ _)

/-- Settles O38: the source that the image and the link's history give. -/
theorem ratingAgeEndsTheRating : Obligations.RatingAgeEndsTheRating := by
  intro s a age time held
  have old : s.sourceNow = if s.image.standalone && s.share.everJoined then .fallback else .none := by
    rw [State.sourceNow, age]
    dsimp only
    rw [if_neg (by show ¬ a < 500; omega), if_neg (by show ¬ a < 5000; omega)]
  have due : s.ratingAgeDue = true := by
    rw [State.ratingAgeDue, held, old]
    cases s.image.standalone && s.share.everJoined
    · rfl
    · rfl
  have taken : s.ratingAgeEvent = (s.budgetEvent s).declare := State.event_of_due s due _
  obtain ⟨rating, -, age', source, peers, -, -, image, -⟩ := State.budgetEvent_spec s s
  refine ⟨s.ratingAgeEvent, rfl, ?_⟩
  rw [taken]
  refine ⟨rating, age'.trans age, peers, fun alone joined => ?_, fun unfit => ?_⟩
  · have fallback : (s.budgetEvent s).declare.share.source = .fallback := by
      rw [source, old, alone, joined]
      rfl
    refine ⟨fallback, ?_⟩
    rw [State.budget, fallback]
    dsimp only
    rw [State.ratingInUse, fallback, image]
  · have none' : (s.budgetEvent s).declare.share.source = .none := by
      rw [source, old]
      rcases unfit with h | h
      · rw [h, Bool.false_and]
        rfl
      · rw [h, Bool.and_false]
        rfl
    refine ⟨none', ?_⟩
    rw [State.budget, none']

/-! ### READY takes no rise (R25) -/

theorem State.regulatorResumes_ready (he : s.engine = .ready) : s.regulatorResumes.engine = .ready := by
  have going : s.pulseOffOver = false := by
    unfold State.pulseOffOver
    split
    · rfl
    · simp [he]
  unfold State.regulatorResumes
  split
  · exact he
  · rw [if_neg (by rw [going]; decide)]
    exact he

/-- In READY the two evaluations leave the engine and the records, whatever rise may pend. -/
theorem State.shareEvent_ready (he : s.engine = .ready) (tableChanged lowered : Bool) :
    (s.shareEvent tableChanged lowered).engine = .ready ∧ (s.shareEvent tableChanged lowered).records = s.records := by
  have limited : ∀ u : State, u.engine = .ready → u.yieldLimited.engine = .ready ∧ u.yieldLimited.records = u.records := by
    intro u hu
    obtain ⟨engine, -⟩ := State.limitStands_fields (s := u)
    have kept : u.limitStands.records = u.records := by
      rw [State.limitStands, State.cancelResume_eq]
      rfl
    have stands : u.yieldLimited = u.limitStands :=
      State.endCause_standing (.inr (.inr (engine.trans hu))) .yieldLimit none
    rw [stands]
    exact ⟨engine.trans hu, kept⟩
  have resumed : ∀ u : State, u.engine = .ready → u.resumeAdmitted.engine = .ready := by
    intro u hu
    exact State.regulatorResumes_ready (by simp [hu])
  have admitted : ∀ a, (s.admitRise a).engine = .ready ∧ (s.admitRise a).records = s.records := by
    intro a
    unfold State.admitRise
    dsimp only
    split
    · unfold State.sequencerAdmitted
      simp only [he]
      split
      · exact ⟨rfl, rfl⟩
      · exact ⟨rfl, rfl⟩
    · split
      · exact limited { s with share := { s.share with rise := s.share.rise.ended } } he
      · exact ⟨resumed _ he, by simp⟩
  have rise : (s.riseEval tableChanged).engine = .ready ∧ (s.riseEval tableChanged).records = s.records := by
    unfold State.riseEval
    repeat' split
    all_goals simp [he, admitted, State.withdrawRise, State.reraise]
  have standing : (s.riseEval tableChanged).phaseClass.standing = none := by rw [State.phaseClass, rise.1]; rfl
  have evaluated : (s.riseEval tableChanged).yieldEval lowered = s.riseEval tableChanged := by
    unfold State.yieldEval State.resumeEval
    simp only [standing]
    repeat' split
    all_goals rfl
  rw [State.shareEvent, evaluated]
  exact rise

/-! ### The periods of the link (R24, R101, R107, R185, R186) -/

/-- The state in which JOINED is reached, before the rating source is formed anew. -/
def State.joining (s : State) : State := { s with
  link := { s.link with state := .joined, listen := .stopped }
  share := { s.share with everJoined := true }
  engine := if s.engine = Engine.starting then Engine.ready else s.engine }

/-- The same with the source formed anew where it changes (R109). -/
def State.joined (s : State) : State := if s.joining.ratingAgeDue then s.joining.budgetEvent s else s.joining

theorem State.joined_spec (he : s.engine = .starting ∨ s.engine = .ready) :
    s.joined.engine = .ready ∧ s.joined.records = s.records ∧ s.joined.meas = s.meas ∧ s.joined.slots = s.slots
      ∧ s.joined.share.peers = s.share.peers ∧ s.joined.link.state = .joined ∧ s.joined.link.listen.running = false
      ∧ s.joined.share.everJoined = true ∧ s.joined.share.source = s.joined.sourceNow := by
  have engine : s.joining.engine = .ready := by
    rcases he with h | h
    · simp [State.joining, h]
    · simp [State.joining, h]
  unfold State.joined
  split
  · obtain ⟨ready, records⟩ := State.shareEvent_ready
      (s := { s.joining with share := { s.joining.share with source := s.joining.sourceNow } }) engine false
      (decide (State.budget { s.joining with share := { s.joining.share with source := s.joining.sourceNow } } < s.budget))
    have kept : (s.joining.budgetEvent s).besidesWeld = _ := State.shareEvent_besidesWeld
      { s.joining with share := { s.joining.share with source := s.joining.sourceNow } } _ _
    obtain ⟨meas, slots, image, -, peers, -, -, age, source, ever, state, listen, -⟩ := State.of_besidesWeld kept
    exact ⟨ready, records, meas, slots, peers, state, congrArg Timer.running listen, ever,
      source.trans (State.sourceNow_congr (s := s.joining) age image ever).symm⟩
  · next still =>
    have same : s.joining.sourceNow = s.joining.share.source := by simpa [State.ratingAgeDue] using still
    exact ⟨engine, rfl, rfl, rfl, rfl, rfl, rfl, rfl, same.symm⟩

/-- Settles O4: the listen period ends in READY, and the stay in LOST empties the table. -/
theorem linkPeriodsEnd : Obligations.LinkPeriodsEnd := by
  constructor
  · intro s listening running time he
    have due : s.listenDue = true := by
      have elapsed : decide (Config.listenMs ≤ s.link.listen.ms) = true := decide_eq_true time
      simp [State.listenDue, listening, running, elapsed]
    obtain ⟨engine, records, meas, slots, peers, state, listen, ever, source⟩ := State.joined_spec he
    have may : s.joined.mayDeclare = true := by simp [State.mayDeclare, state, engine]
    have placed : s.joined.placeDemand.declare = s.joined.placeDemand :=
      if_pos ((State.placeDemand_ownDecl _).trans (State.placeDemand_decl _).symm)
    have taken : s.listenEvent = s.joined.placeDemand := (State.event_of_due s due _).trans placed
    have now : s.joined.placeDemand.sourceNow = s.joined.sourceNow := by simp [State.sourceNow]
    refine ⟨s.listenEvent, rfl, ?_⟩
    rw [taken, now]
    simp only [State.placeDemand_link_state, State.placeDemand_link_listen, State.placeDemand_share_everJoined,
      State.placeDemand_engine, State.placeDemand_share_source, State.placeDemand_share_peers, State.placeDemand_meas,
      State.placeDemand_slots, State.placeDemand_records, State.placeDemand_ownDecl, State.placeDemand_decl]
    exact ⟨state, listen, ever, engine, (State.placeDemand_slot _ may).1, trivial, source, peers, meas, slots, records⟩
  · intro s lost time
    have due : s.lostDue = true := by
      have elapsed : decide (Config.lostMs ≤ s.link.lostTimer) = true := decide_eq_true time
      simp [State.lostDue, lost, elapsed]
    have taken : s.lostEvent = s.rejoin.declare := State.event_of_due s due _
    obtain ⟨v, hv⟩ : ∃ v : State, v = { s with
      link := { s.link with state := .listening, listen := .started, failed := 0 } } := ⟨_, rfl⟩
    have kept : s.rejoin.declare.besidesWeld = { v with share := { v.share with peers := [] } }.besidesWeld := by
      rw [hv]
      exact (State.declare_besidesWeld _).trans (State.shareEvent_besidesWeld _ _ _)
    obtain ⟨meas, slots, image, -, peers, rating, -, age, source, -, state, listen, failed⟩ := State.of_besidesWeld kept
    rw [hv] at meas slots image peers rating age source state listen failed
    refine ⟨s.lostEvent, rfl, ?_⟩
    rw [taken]
    refine ⟨state, listen, failed, peers, rating, source, age, fun sound => ?_, slots, meas, image⟩
    have there : v.ResumesThere := by
      rw [hv]
      exact State.resumesThere_of_sound (s := s) sound
    have records := (State.withPeers_spec there []).2.2.2
    rw [hv] at records
    exact records

end
end Sys2Proof.Machine

/-! PROOFS. Yielding (R66, R116, R129 to R131): a DEMAND of a higher rise, and a RATING that lowers the budget (O10, O12). -/

namespace Sys2Proof.Machine

section
variable {s t u : State}

/-! ### A head in FLASH that may yield (R106) -/

/-- A head with a reduction is yieldable: neither yielded nor in an abort retract. -/
theorem State.yieldable_of_reduction {c : WeldCtx} (hc : s.ctx = some c) (h : s.reduction ≠ 0) :
    s.yielded = false ∧ c.abortTarget = none := by
  have able : s.yieldable = true := by
    by_contra no
    exact h (if_neg no)
  rw [State.yieldable, hc] at able
  simp only [Bool.and_eq_true, Bool.not_eq_true', WeldCtx.aborting, Option.isSome_eq_false_iff, Option.isNone_iff_eq_none] at able
  obtain ⟨⟨⟨⟨⟨-, target⟩, flag⟩, -⟩, -⟩, -⟩ := able
  exact ⟨flag, target⟩

theorem State.standing_flash {c : WeldCtx} (he : s.engine = .flash) (hc : s.ctx = some c) (ha : c.abortTarget = none) :
    s.phaseClass.standing = some 1 := by
  rw [State.phaseClass, he]
  simp [State.aborting, hc, WeldCtx.aborting, ha, PhaseClass.standing]

/-- Yield Control in FLASH (R128 to R131). -/
theorem State.yieldEval_flash {c : WeldCtx} (he : s.engine = .flash) (hc : s.ctx = some c) (h : 0 < s.reduction)
    (lowered : Bool) :
    s.yieldEval lowered = if s.riseShortfall 1 || (lowered && s.budgetShortfall 1) then s.applyYield else s := by
  obtain ⟨hy, ha⟩ := State.yieldable_of_reduction hc (by omega)
  rw [State.yieldEval, hy, if_neg (by decide), if_pos h, State.standing_flash he hc ha]

/-! ### The yield (R66, R131) -/

/-- A weld context whose head yields in FLASH at a position (R131). -/
def WeldCtx.yielding (c : WeldCtx) (p : Int) : WeldCtx :=
  { (if c.lists .yield then c.latched .yield p else { c with omitted := countUp c.omitted }) with
    yieldCount := countUp c.yieldCount
    guard := none
    pause := none
    restartDue := false }

theorem State.applyYield_flash {c : WeldCtx} {r : FlashRec} (he : s.engine = .flash) (hc : s.ctx = some c)
    (hr : c.flash? = some r) (ha : c.abortTarget = none) :
    s.applyYield.ctx = some (c.yielding s.meas.intervalPos) ∧ s.applyYield.engine = .flash
      ∧ s.applyYield.yielded = true ∧ s.applyYield.mode = s.mode ∧ s.applyYield.share = s.share
      ∧ s.applyYield.image = s.image ∧ s.applyYield.out = { s.out with step := r.reducedStep } := by
  have act : s.applyYield = ((s.latch .yield s.meas.intervalPos).countYield).setStep r.reducedStep := by
    rw [State.applyYield, hc]
    dsimp only
    rw [if_neg (by simp [WeldCtx.aborting, ha]), he]
    dsimp only
    rw [hr]
  have latched : (s.latch .yield s.meas.intervalPos).ctx = some
      (if c.lists .yield then c.latched .yield s.meas.intervalPos else { c with omitted := countUp c.omitted }) := by
    rw [State.latch_ctx, hc]
    rfl
  have engine : (s.latch .yield s.meas.intervalPos).engine = .flash := (State.latch_engine _ _ _).trans he
  rw [act]
  refine ⟨?_, ?_⟩
  · show ((s.latch .yield s.meas.intervalPos).ctx.map fun c => _) = _
    rw [latched, engine]
    by_cases h : c.lists .yield = true
    · simp only [Option.map_some, WeldCtx.yielding, h, if_true, reduceCtorEq, if_false]
      rfl
    · simp only [Option.map_some, WeldCtx.yielding, h, reduceCtorEq, if_false]
  · simp [State.countYield, he]

/-- What the weld keeps over a yield, and what it counts. -/
theorem WeldCtx.yielding_spec (c : WeldCtx) (p : Int) :
    (c.yielding p).yieldCount = min (c.yieldCount + 1) 65535 ∧ (c.yielding p).guard = none
      ∧ (c.yielding p).yieldTime = c.yieldTime ∧ (c.yielding p).burnOff = c.burnOff
      ∧ (c.yielding p).abortTarget = c.abortTarget ∧ (c.yielding p).flash? = c.flash?
      ∧ (c.lists .yield = true → (c.yielding p).latches = c.latches ++ [⟨.yield, p, c.weldTime⟩]) := by
  unfold WeldCtx.yielding
  split
  · exact ⟨rfl, rfl, rfl, rfl, rfl, rfl, fun _ => rfl⟩
  · next no => exact ⟨rfl, rfl, rfl, rfl, rfl, rfl, fun h => absurd h no⟩

/-- The declaration of a head that has yielded in FLASH (R103, R104, R106). -/
theorem State.ownDecl_yielded {c : WeldCtx} {r : FlashRec} (he : s.engine = .flash) (hc : s.ctx = some c)
    (hr : c.flash? = some r) (ha : c.abortTarget = none) (hy : s.yielded = true) :
    s.ownDecl.yielded = true ∧ s.ownDecl.reduction = 0 ∧ s.ownDecl.present = s.share.hold.getD r.reducedLoad := by
  have still : s.reduction = 0 := if_neg (by simp [State.yieldable, hc, hy])
  have load : s.tableLoad = r.reducedLoad := by
    rw [State.tableLoad, hc, he]
    simp [WeldCtx.aborting, ha, hr, hy]
  exact ⟨hy, still, by show s.share.hold.getD s.tableLoad = _; rw [load]⟩

/-- A yield in FLASH, declared. -/
theorem State.applyYield_declared {c : WeldCtx} {r : FlashRec} (he : s.engine = .flash) (hc : s.ctx = some c)
    (hr : c.flash? = some r) (ha : c.abortTarget = none) :
    s.applyYield.declare.share.decl.yielded = true ∧ s.applyYield.declare.share.decl.reduction = 0
      ∧ s.applyYield.declare.share.decl.present = s.share.hold.getD r.reducedLoad := by
  obtain ⟨ctx, engine, yielded, -, share, -⟩ := State.applyYield_flash he hc hr ha
  obtain ⟨-, -, -, -, target, flash, -⟩ := c.yielding_spec s.meas.intervalPos
  obtain ⟨own, none', load⟩ := State.ownDecl_yielded engine ctx (flash.trans hr) (target.trans ha) yielded
  rw [State.declare_decl, load, share]
  exact ⟨own, none', rfl⟩

/-! ### A DEMAND of a higher rise (R116, R129) -/

/-- A head alone with one entry in the table sees its rise alone (R129). -/
theorem State.riseShortfall_alone {p : Peer} (hp : s.share.peers = [p]) (live : p.live = true) (rise : p.rise = some 0)
    (own : s.share.rise.state = .none) (short : s.budget < p.claim + s.presentLoad) : s.riseShortfall 1 = true := by
  have highest : s.highestRise = some p := by simp [State.highestRise, hp, live, rise]
  have excess : s.excessRise p 0 = (p.claim : Int) + s.presentLoad - s.budget := by
    simp [State.excessRise, hp]
  have below : s.rBelow 1 (some p.station) = 0 := by simp [State.rBelow, hp]
  rw [State.riseShortfall, highest]
  dsimp only
  rw [rise]
  dsimp only
  rw [excess, below, own]
  simp
  omega

/-- Settles O12: the own rise stands back, or the head yields, with the sender's entry alone in the table. -/
theorem demandOfAHigherRise : Obligations.DemandOfAHigherRise := by
  intro s n d c receives hn length peers hy hc
  obtain ⟨p, hp⟩ : ∃ p, p = Peer.ofDemand n.val d := ⟨_, rfl⟩
  obtain ⟨u, hu⟩ : ∃ u : State, u = { s with share := { s.share with peers := [p] } } := ⟨_, rfl⟩
  have live : p.live = true := by rw [hp]; rfl
  have taken : s.engine ≠ .configFault →
      exec (.demand n d) s = .next ((u.riseEval true).yieldEval false).declare := fun he => by
    rw [exec_demand receives hn he length, peers, hu, ← hp]
    rfl
  rw [← hp]
  refine ⟨fun a he settling ask admitted higher => ?_, fun r he hr listed ask own reducible rise short => ?_⟩
  · have engine : u.engine = .admitting := by rw [hu]; exact he
    have outranked : u.outranked a.cls = true := by
      rw [State.outranked, hu]
      have station : p.station = n.val := by rw [hp]; rfl
      simp only [List.any_cons, List.any_nil, Bool.or_false, Peer.above, live, Bool.true_and, station]
      exact higher
    have withdrawn : u.riseEval true = u.withdrawRise := by
      have ask' : u.share.rise.ask = some a := by rw [hu]; exact ask
      have state : u.share.rise.state = .settling := by rw [hu]; exact settling
      rw [State.riseEval, ask']
      dsimp only
      rw [state]
      exact if_pos outranked
    obtain ⟨v, hv⟩ : ∃ v, v = u.withdrawRise := ⟨_, rfl⟩
    have still : v.yieldEval false = v := by
      have yielded : v.yielded = false := by rw [hv, State.withdrawRise, State.placeDemand_yielded, hu]; exact hy
      have engine : v.engine = .admitting := by rw [hv, State.withdrawRise, State.placeDemand_engine]; exact engine
      have idle : v.reduction = 0 := if_neg (by unfold State.yieldable; split <;> simp [engine])
      rw [State.yieldEval, yielded, if_neg (by decide), idle, if_neg (by decide)]
    have rise : v.share.rise = { s.share.rise with state := .withdrawn, settle := ⟨false, s.share.rise.settle.ms⟩ } := by
      rw [hv, State.withdrawRise, State.placeDemand_share_rise, hu]
      rfl
    have none' : v.share.admitted = none := by
      rw [hv, State.withdrawRise, State.placeDemand_share_admitted, hu]
      exact admitted
    refine ⟨_, taken (by rw [he]; decide), ?_⟩
    rw [withdrawn, ← hv, still, State.declare_share_rise, State.declare_decl, State.declare_engine, State.declare_ctx,
      State.declare_out]
    refine ⟨rise, ?_, ?_, ?_, ?_⟩
    · show v.share.announced.map Prod.snd = none
      rw [Share.announced, none', rise]
      rfl
    · rw [hv, State.withdrawRise, State.placeDemand_engine]
      exact engine
    · rw [hv, State.withdrawRise, State.placeDemand_ctx, hu]
    · rw [hv, State.withdrawRise, State.placeDemand_out, hu]
  · obtain ⟨-, ha⟩ := State.yieldable_of_reduction hc reducible
    have calm : u.riseEval true = u := by
      have ask' : u.share.rise.ask = none := by rw [hu]; exact ask
      rw [State.riseEval, ask']
    have engine : u.engine = .flash := by rw [hu]; exact he
    have ctx : u.ctx = some c := by rw [hu]; exact hc
    have falls : u.riseShortfall 1 = true := by
      refine State.riseShortfall_alone (p := p) (by rw [hu]) live rise (by rw [hu]; exact own) ?_
      rw [hu]
      exact short
    have yields : u.yieldEval false = u.applyYield := by
      rw [State.yieldEval_flash engine ctx (by rw [hu]; exact Nat.pos_of_ne_zero reducible), falls]
      rfl
    obtain ⟨ctx', engine', yielded, mode, -, -, out⟩ := State.applyYield_flash engine ctx hr ha
    obtain ⟨declared, none', load⟩ := State.applyYield_declared engine ctx hr ha
    obtain ⟨count, guard, -, burn, -, -, latches⟩ := c.yielding_spec u.meas.intervalPos
    refine ⟨_, c.yielding u.meas.intervalPos, taken (by rw [he]; decide), ?_⟩
    rw [calm, yields, State.declare_yielded, State.declare_engine, State.declare_mode, State.declare_ctx, State.declare_out,
      latches listed]
    refine ⟨yielded, engine', mode.trans ?_, ctx', count, guard, ?_, burn, out.trans ?_, declared, none', fun free => ?_⟩
    · rw [hu]
    · rw [hu]
    · rw [hu]
    · rw [load, hu]
      show s.share.hold.getD _ = _
      rw [free]
      rfl

/-! ### A RATING that lowers the budget (R108, R130) -/

/-- The state in which a RATING is evaluated. -/
def State.rated (s : State) (d : List Byte) : State :=
  { s with share := { s.share with
      rating := some (clampLoad (natAt d 0 2)), genState := some (genStateOf (natAt d 2 1)), ratingAge := some 0
      source := .generator } }

theorem State.rated_budget (s : State) (d : List Byte) : (s.rated d).budget
    = if genStateOf (natAt d 2 1) = .stopping then 0 else min (natAt d 0 2) 4000 * (100 - s.image.reserve) / 100 := by
  simp [State.budget, State.rated, State.ratingInUse, clampLoad, Config.loadLimit]

theorem exec_rating {n : Station} {d : List Byte} (receives : s.receives = true) (hn : n ≠ s.station)
    (he : s.engine ≠ .configFault) : exec (.rating n d) s = .next (s.takeRating n d) := by
  show Host.Outcome.next (s.onRx n fun t => t.ifSharing fun u => u.takeRating n d) = _
  rw [State.onRx_other receives hn, State.ifSharing_sharing he]

theorem State.takeRating_eq {n : Station} {d : List Byte} (hn : n.val = s.image.generator) (length : 3 ≤ d.length) :
    s.takeRating n d = ((s.rated d).shareEvent false (decide ((s.rated d).budget < s.budget))).declare := by
  rw [State.takeRating, if_pos ⟨hn, length⟩]
  rfl

/-- The excess over the budget, with the counted loads written out (R111, R130). -/
theorem State.excessBudget_eq (s : State) : s.excessBudget
    = (((s.share.peers.map fun p => if p.rise.isSome then max p.present p.claim else p.present).sum
        + s.presentLoad : Nat) : Int) - (s.budget : Int) := by
  rw [State.excessBudget, Nat.cast_add]
  rfl

/-- Settles O10: the generator's RATING is taken, and the budget-shortfall evaluation follows where it lowers the budget. -/
theorem ratingIsTakenFromTheGenerator : Obligations.RatingIsTakenFromTheGenerator := by
  intro s n d receives hn he
  refine ⟨fun other => ?_, fun generator length => ?_⟩
  · rw [exec_rating receives hn he, State.takeRating, if_neg (fun h => other h.1)]
  · have taken := (exec_rating (d := d) receives hn he).trans (congrArg Host.Outcome.next (State.takeRating_eq generator length))
    have kept : ((s.rated d).shareEvent false (decide ((s.rated d).budget < s.budget))).declare.besidesWeld
        = (s.rated d).besidesWeld := (State.declare_besidesWeld _).trans (State.shareEvent_besidesWeld _ _ _)
    obtain ⟨meas, slots, -, -, peers, rating, gen, age, source, -, state, -⟩ := State.of_besidesWeld kept
    refine ⟨_, taken, rating, gen, age, source, peers, meas, slots, fun sound => ?_, state, ?_⟩
    · have there : (s.rated d).ResumesThere := State.resumesThere_of_sound (s := s) sound
      exact (State.declare_records _).trans (State.shareEvent_records there _ _)
    · intro c q b excess flash hc hq ask calm reducible hb hx
      obtain ⟨hy, ha⟩ := State.yieldable_of_reduction hc (by omega)
      have budget : (s.rated d).budget = b := (State.rated_budget s d).trans hb.symm
      have surplus : (s.rated d).excessBudget = excess := by
        rw [State.excessBudget_eq, budget, hx]
        rfl
      have still : (s.rated d).riseEval false = s.rated d := by
        have ask' : (s.rated d).share.rise.ask = none := ask
        rw [State.riseEval, ask']
      have quiet : (s.rated d).riseShortfall 1 = false := by
        have calm' : (s.rated d).highestRise = none := calm
        rw [State.riseShortfall, calm']
      have evaluated : (s.rated d).shareEvent false (decide ((s.rated d).budget < s.budget))
          = if b < s.budget ∧ 0 < excess ∧ (s.rBelow 1 none : Int) < excess then (s.rated d).applyYield else s.rated d := by
        rw [State.shareEvent, still, State.yieldEval_flash (s := s.rated d) flash hc reducible, quiet, Bool.false_or,
          State.budgetShortfall, surplus, budget]
        simp only [Bool.and_eq_true, decide_eq_true_eq]
        rfl
      rw [evaluated]
      refine ⟨fun lower pos more => ?_, fun holds => ?_⟩
      · obtain ⟨ctx', engine', yielded, mode, -, -, out⟩ := State.applyYield_flash (s := s.rated d) flash hc hq ha
        obtain ⟨declared, none', load⟩ := State.applyYield_declared (s := s.rated d) flash hc hq ha
        obtain ⟨count, guard, time, -, -, -, latches⟩ := c.yielding_spec s.meas.intervalPos
        rw [if_pos ⟨lower, pos, more⟩]
        refine ⟨c.yielding s.meas.intervalPos, ?_⟩
        rw [State.declare_yielded, State.declare_engine, State.declare_mode, State.declare_ctx, State.declare_out]
        exact ⟨ctx', engine', yielded, mode, out, count, guard, time, declared, none', load, latches⟩
      · rw [if_neg (by omega)]
        rw [State.declare_yielded, State.declare_engine, State.declare_ctx, State.declare_out]
        exact ⟨rfl, rfl, rfl, rfl⟩

end
end Sys2Proof.Machine

/-! PROOFS. The entries to FLASH, BOOST and UPSET (R7, R65 to R67, R79, R80, R85), and the preheat pulses (R64, R65): O42. -/

namespace Sys2Proof.Machine

section
variable {s t u : State}

/-! ### The record in force, by its kind -/

theorem WeldCtx.body_of_flash {c : WeldCtx} {r : FlashRec} (h : c.flash? = some r) : c.body = some (.flash r) := by
  unfold WeldCtx.flash? at h
  cases hb : c.body with
  | none => simp [hb] at h
  | some b => cases b <;> simp_all [RecBody.asFlash]

/-- The record entered at the index of a FLASH record. -/
theorem WeldCtx.flash_of_body {c : WeldCtx} {r : FlashRec} {i : Nat} (hp : c.phase = some i)
    (hb : c.prog.body i = some (.flash r)) : c.flash? = some r := by
  rw [WeldCtx.flash?, WeldCtx.body, hp, Option.bind_some, hb]
  rfl

theorem Programme.body_kind {p : Programme} {i : Nat} {b : RecBody} (h : p.body i = some b) :
    ∃ r, p.records[i]? = some r ∧ r.body = b := by
  rw [Programme.body, Option.map_eq_some_iff] at h
  exact h

/-- The record after a FLASH record is not the first one. -/
theorem WeldCtx.next_not_first {c : WeldCtx} {q : FlashRec} (h : c.flash? = some q) :
    c.prog.firstFlashAt c.nextIndex = false := by
  have body := WeldCtx.body_of_flash h
  cases hp : c.phase with
  | none => simp [WeldCtx.body, hp] at body
  | some i =>
    rw [WeldCtx.body, hp, Option.bind_some] at body
    obtain ⟨r, record, flash⟩ := Programme.body_kind body
    refine decide_eq_false fun first => ?_
    rw [Programme.find, List.findIdx?_eq_some_iff_getElem] at first
    obtain ⟨_, _, before⟩ := first
    obtain ⟨hi, hr⟩ := List.getElem?_eq_some_iff.1 record
    have none' := before i (by simp [WeldCtx.nextIndex, hp])
    rw [hr] at none'
    simp [flash, RecBody.kind] at none'

/-- A first current phase that is a FLASH record is the first one. -/
theorem Programme.firstFlashAt_of_current {p : Programme} {i : Nat} {r : FlashRec} (h : p.firstCurrent = some i)
    (hb : p.body i = some (.flash r)) : p.firstFlashAt i = true := by
  obtain ⟨x, record, flash⟩ := Programme.body_kind hb
  rw [Programme.firstCurrent, List.findIdx?_eq_some_iff_getElem] at h
  obtain ⟨hi, _, before⟩ := h
  refine decide_eq_true ?_
  rw [Programme.find, List.findIdx?_eq_some_iff_getElem]
  obtain ⟨_, hr⟩ := List.getElem?_eq_some_iff.1 record
  refine ⟨hi, ?_, fun j hj => ?_⟩
  · rw [hr]
    simp [flash, RecBody.kind]
  · have none' := before j hj
    simp only [decide_eq_true_eq, not_or] at none' ⊢
    exact none'.2

/-! ### The entry to a FLASH record (R66, R67, R79) -/

/-- A weld context at the entry to a FLASH record at index `i`. -/
def WeldCtx.flashing (c : WeldCtx) (i : Nat) : WeldCtx :=
  { c.entered .flash i false with guard := none, pause := none, restartDue := false, sub := none, drawTarget := none }

/-- The same where it is the first one, with contact pending (R67). -/
def WeldCtx.firstFlashing (c : WeldCtx) (i : Nat) : WeldCtx :=
  { (c.flashing i).restartRuns with contactPending := true, firstFlash := some c.weldTime }

/-- A pending RESUME rise claims the new record's full load (R138). -/
def Rise.reclaimed (r : Rise) (load : Nat) : Rise :=
  match r.ask with
  | some ⟨.resume, _, cls⟩ => { r with ask := some ⟨.resume, load, cls⟩ }
  | _ => r

theorem Rise.reclaimed_state (r : Rise) (load : Nat) : (r.reclaimed load).state = r.state := by
  unfold Rise.reclaimed
  split
  · rfl
  · rfl

/-- The state at the entry to a FLASH record, before what the first one adds. -/
def State.flashBegun (s : State) (c : WeldCtx) (r : FlashRec) (i : Nat) : State :=
  ({ (s.enterRecord .flash i).closeContactor with
      ctx := some (c.flashing i)
      share := { (s.enterRecord .flash i).closeContactor.share with
        rise := (s.enterRecord .flash i).closeContactor.share.rise.reclaimed r.load } }.setStep
    (if (s.enterRecord .flash i).closeContactor.yielded then r.reducedStep else r.step)).setForce
      ((s.enterRecord .flash i).closeContactor.image.fMax * 10)

theorem State.enterFlash_eq {c : WeldCtx} {r : FlashRec} {i : Nat} (hc : s.ctx = some c)
    (hb : c.prog.body i = some (.flash r)) :
    s.enterFlash i = if c.prog.firstFlashAt i then
        State.setVelocity { s.flashBegun c r i with mode := .regulating, ctx := some (c.firstFlashing i) } r.approach
      else s.flashBegun c r i := by
  have ctx : (s.enterRecord .flash i).closeContactor.ctx = some (c.entered .flash i s.yielded) :=
    State.enterRecord_entered hc .flash i
  have record : (c.entered .flash i s.yielded).flash? = some r := WeldCtx.flash_of_body rfl hb
  unfold State.enterFlash
  dsimp only
  rw [ctx]
  dsimp only
  rw [record]
  rfl

/-- What the entry to a FLASH record leaves. -/
theorem State.enterFlash_spec {c : WeldCtx} {r : FlashRec} {i : Nat} (hc : s.ctx = some c)
    (hb : c.prog.body i = some (.flash r)) :
    (s.enterFlash i).engine = .flash ∧ (s.enterFlash i).yielded = s.yielded ∧ (s.enterFlash i).awaiting = s.awaiting
      ∧ (s.enterFlash i).share.rise.state = s.share.rise.state ∧ (s.enterFlash i).share.hold = none
      ∧ (s.enterFlash i).meas = s.meas ∧ (s.enterFlash i).image = s.image
      ∧ (c.prog.firstFlashAt i = true → (s.enterFlash i).ctx = some (c.firstFlashing i)
        ∧ (s.enterFlash i).mode = .regulating ∧ (s.enterFlash i).out = { s.out with
          contactor := true, step := if s.yielded then r.reducedStep else r.step, velocity := r.approach
          force := s.image.fMax * 10 })
      ∧ (c.prog.firstFlashAt i = false → (s.enterFlash i).ctx = some (c.flashing i)
        ∧ (s.enterFlash i).mode = s.mode ∧ (s.enterFlash i).out = { s.out with
          contactor := true, step := if s.yielded then r.reducedStep else r.step, force := s.image.fMax * 10 }) := by
  have yielded : (s.enterRecord .flash i).yielded = s.yielded := by simp [State.enterRecord_yielded]
  have begun : (s.flashBegun c r i).engine = .flash ∧ (s.flashBegun c r i).yielded = s.yielded
      ∧ (s.flashBegun c r i).awaiting = s.awaiting ∧ (s.flashBegun c r i).share.rise.state = s.share.rise.state
      ∧ (s.flashBegun c r i).share.hold = none ∧ (s.flashBegun c r i).meas = s.meas
      ∧ (s.flashBegun c r i).image = s.image ∧ (s.flashBegun c r i).mode = s.mode
      ∧ (s.flashBegun c r i).out = { s.out with
          contactor := true, step := if s.yielded then r.reducedStep else r.step, force := s.image.fMax * 10 } := by
    simp [State.flashBegun, yielded, Rise.reclaimed_state, State.closeContactor]
  obtain ⟨engine, flag, awaiting, rise, hold, meas, image, mode, out⟩ := begun
  rw [State.enterFlash_eq hc hb]
  cases first : c.prog.firstFlashAt i with
  | true =>
    refine ⟨engine, flag, awaiting, rise, hold, meas, image, fun _ => ⟨rfl, rfl, ?_⟩, nofun⟩
    show ({ (s.flashBegun c r i).out with velocity := (r.approach : Int) } : Outputs) = _
    rw [out]
  | false => exact ⟨engine, flag, awaiting, rise, hold, meas, image, nofun, fun _ => ⟨rfl, mode, out⟩⟩

/-- The load declared in FLASH, outside an abort retract and with no held load (R103). -/
theorem State.present_flash {c : WeldCtx} {r : FlashRec} (he : s.engine = .flash) (hc : s.ctx = some c)
    (hr : c.flash? = some r) (ha : c.abortTarget = none) (hold : s.share.hold = none) (hy : s.yielded = false) :
    s.ownDecl.present = r.load := by
  show s.share.hold.getD s.tableLoad = _
  rw [hold, State.tableLoad, hc, he]
  simp [WeldCtx.aborting, ha, hr, hy]

/-! ### The entry to BOOST (R80) -/

/-- A weld context at the entry to a BOOST record at index `i`. -/
def WeldCtx.boosting (c : WeldCtx) (i : Nat) (mode : Mode) (yielded : Bool) (p : Int) : WeldCtx :=
  ({ (c.left mode).entered .boost i yielded with boostEntry := some c.burnOff } : WeldCtx).latched .boostStart p

theorem State.enterBoost_spec {c : WeldCtx} {b : BoostRec} {i : Nat} (hc : s.ctx = some c)
    (hb : c.prog.body i = some (.boost b)) :
    (s.enterBoost i).ctx = some (c.boosting i s.mode s.yielded s.meas.position) ∧ (s.enterBoost i).engine = .boost
      ∧ (s.enterBoost i).mode = .idle ∧ (s.enterBoost i).yielded = false ∧ (s.enterBoost i).awaiting = s.awaiting
      ∧ (s.enterBoost i).share = { s.share with hold := none }
      ∧ (s.enterBoost i).out = { s.out with
          contactor := true, step := b.step, velocity := b.speed, force := s.image.fMax * 10 } := by
  obtain ⟨v, hv⟩ : ∃ v, v = s.leaveRegulator.enterRecord .boost i := ⟨_, rfl⟩
  have ctx : v.ctx = some ((c.left s.mode).entered .boost i s.yielded) := by
    rw [hv, State.enterRecord_entered (State.leaveRegulator_left hc), State.leaveRegulator_yielded]
  have record : v.ctx.bind WeldCtx.boost? = some b := by
    rw [ctx]
    show ((some i).bind c.prog.body).bind RecBody.asBoost = some b
    rw [Option.bind_some, hb]
    rfl
  obtain ⟨engine, mode, yielded, awaiting, share, out, image, meas⟩ : v.engine = .boost ∧ v.mode = .idle ∧ v.yielded = false
      ∧ v.awaiting = s.awaiting ∧ v.share = s.share ∧ v.out = s.out ∧ v.image = s.image ∧ v.meas = s.meas := by
    rw [hv]
    simp [State.enterRecord_yielded]
  have entered : s.enterBoost i = (((((v.closeContactor.onCtx fun c => { c with boostEntry := some c.burnOff }).setStep
      b.step).setVelocity b.speed).setForce (v.image.fMax * 10)).latch .boostStart v.meas.position) := by
    unfold State.enterBoost
    rw [← hv]
    dsimp only
    rw [record]
    rfl
  rw [entered]
  refine ⟨?_, ?_⟩
  · rw [meas]
    refine State.latch_milestone (k := .boostStart) ?_ rfl _
    show v.ctx.map _ = _
    rw [ctx]
    rfl
  · simp [engine, mode, yielded, awaiting, share, out, image, State.closeContactor]

/-! ### The preheat pulses (R64, R65) -/

/-- An approach with the flag clear closes the contactor (R64). -/
theorem State.enterApproach_eq {c : WeldCtx} {r : PreheatRec} (hc : s.ctx = some c) (hr : c.preheat? = some r)
    (hy : s.yielded = false) :
    s.enterApproach = { s with
      ctx := some { c with sub := some .approach, subTimer := 0, drawTarget := none }
      out := { s.out with contactor := true, velocity := r.approach }
      share := { s.share with hold := none } } := by
  have record : s.ctx.bind WeldCtx.preheat? = some r := by rw [hc]; exact hr
  unfold State.enterApproach
  rw [record]
  have off : ¬ s.yielded = true := by rw [hy]; nofun
  dsimp only
  rw [if_neg off]
  simp only [State.onCtx, State.closeContactor_ctx, hc, Option.map_some]
  rfl

theorem State.enterPulseOff_eq {c : WeldCtx} {r : PreheatRec} (hc : s.ctx = some c) (hr : c.preheat? = some r) :
    s.enterPulseOff = { s with
      ctx := some { c with
        sub := some .pulseOff, subTimer := 0, drawTarget := some (s.meas.position - r.openDistance) }
      out := { s.out with contactor := false, velocity := -(s.image.vRetractMax : Int) }
      share := { s.share with hold := if s.level .contFb then some s.presentLoad else s.share.hold } } := by
  have record : s.ctx.bind WeldCtx.preheat? = some r := by rw [hc]; exact hr
  unfold State.enterPulseOff
  rw [record]
  simp only [State.onCtx, State.openContactor_ctx, hc, Option.map_some]
  rfl

/-- The present load reads the abort, the record and the current done alone of a weld context (R103). -/
theorem State.presentLoad_congr {c d : WeldCtx} (hs : s.ctx = some c) (ht : t.ctx = some d) (engine : t.engine = s.engine)
    (yielded : t.yielded = s.yielded) (hold : t.share.hold = s.share.hold) (image : t.image = s.image)
    (target : d.abortTarget = c.abortTarget) (body : d.body = c.body) (prog : d.prog = c.prog)
    (current : d.curTime = c.curTime) : t.presentLoad = s.presentLoad := by
  rw [State.presentLoad, State.presentLoad, hold, State.tableLoad, State.tableLoad, hs, ht, engine, yielded, image]
  simp only [WeldCtx.aborting, WeldCtx.preheat?, WeldCtx.flash?, target, body, prog, current]
  rfl

/-- The pulse that has run is counted, or is extra once the criterion is met (R64). -/
def WeldCtx.pulsed (c : WeldCtx) : WeldCtx :=
  { c with counted := if c.exitMet then c.counted else c.counted + 1
           extra := if c.exitMet then min (c.extra + 1) 65535 else c.extra }

theorem WeldCtx.pulsed_eq (c : WeldCtx) :
    (if c.exitMet then { c with extra := countUp c.extra } else { c with counted := c.counted + 1 }) = c.pulsed := by
  obtain ⟨⟩ := c
  unfold WeldCtx.pulsed
  dsimp only
  split
  · rfl
  · rfl

theorem State.pulseOnEnds_eq {c : WeldCtx} {r : PreheatRec} (hc : s.ctx = some c) (hr : c.preheat? = some r) :
    s.pulseOnEnds = { s with
      ctx := some { c.pulsed with
        sub := some .pulseOff, subTimer := 0, drawTarget := some (s.meas.position - r.openDistance) }
      out := { s.out with contactor := false, velocity := -(s.image.vRetractMax : Int) }
      share := { s.share with hold := if s.level .contFb then some s.presentLoad else s.share.hold } } := by
  have counted : s.pulseOnEnds = { s with ctx := some c.pulsed }.enterPulseOff := by
    unfold State.pulseOnEnds State.onCtx
    rw [hc, Option.map_some, WeldCtx.pulsed_eq]
  have present : { s with ctx := some c.pulsed }.presentLoad = s.presentLoad :=
    State.presentLoad_congr hc rfl rfl rfl rfl rfl rfl rfl rfl rfl
  rw [counted, State.enterPulseOff_eq (s := { s with ctx := some c.pulsed }) rfl hr, present]
  rfl

/-- Where PULSE OFF has run its time, it ends by what its pulses came to (R64, R65). -/
theorem State.endPulseOff_eq {c : WeldCtx} {r : PreheatRec} (hc : s.ctx = some c) (hr : c.preheat? = some r) :
    s.endPulseOff = if !c.exitMet && decide (r.pulses ≤ c.counted) then s.preheatExit else s.enterApproach := by
  unfold State.endPulseOff
  rw [hc]
  dsimp only
  rw [hr]

/-- The exit from PREHEAT to a FLASH record: at once, or as a rise while the pulses go on (R7, R65). -/
theorem State.preheatExit_flash {c : WeldCtx} {q : FlashRec} (hc : s.ctx = some c)
    (hn : c.prog.body c.nextIndex = some (.flash q)) :
    s.preheatExit = if s.presentLoad < q.load then
        (State.raise { s with ctx := some { c with exitMet := true }, awaiting := true } .sequencer q.load 1).enterApproach
      else { s with ctx := some { c with exitMet := true } }.enterFlash c.nextIndex := by
  have ctx : (s.onCtx fun c => { c with exitMet := true }) = { s with ctx := some { c with exitMet := true } } := by
    unfold State.onCtx
    rw [hc]
    rfl
  have claim : ∀ load, WeldCtx.moveClaim { c with exitMet := true } load = (q.load, 1) := fun load => by
    unfold WeldCtx.moveClaim
    show (match c.prog.body c.nextIndex with
      | some (.flash r) => (r.load, 1)
      | some (.boost _) | some (.upset _) => (c.prog.classZero, 0)
      | some b => (b.load load, 1)
      | none => (load, 1)) = _
    rw [hn]
  have present : { s with ctx := some { c with exitMet := true } }.presentLoad = s.presentLoad :=
    State.presentLoad_congr hc rfl rfl rfl rfl rfl rfl rfl rfl rfl
  unfold State.preheatExit
  rw [ctx]
  dsimp only
  rw [claim, present]
  rfl

/-- Settles O42: the end of a pulse, of PULSE OFF with pulses to come, and of the last one. -/
theorem pulsesFollowOneAnother : Obligations.PulsesFollowOneAnother := by
  intro s c r he hc hr ha
  have still : s.aborting = false := by simp [State.aborting, hc, WeldCtx.aborting, ha]
  have taken : c.sub = some .pulseOff → r.offTime ≤ c.subTimer → s.yielded = false →
      s.pulseOffEvent = s.endPulseOff.declare := fun sub time hy => by
    have due : (s.pulseOffOver && !s.aborting) = true := by
      rw [still, State.pulseOffOver, hc]
      simp [he, sub, hy, hr, time]
    exact State.event_of_due s due _
  refine ⟨fun sub time => ?_, fun sub time hy few => ?_, fun q sub time hy all unmet hn => ⟨fun low first => ?_, fun high => ?_⟩⟩
  · have due : s.pulseOnDue = true := by
      rw [State.pulseOnDue, State.pulseDue, hc]
      simp [he, WeldCtx.aborting, ha, sub, hr, time]
    exact ⟨s.pulseOnEvent, rfl, State.event_declaredAs due (State.pulseOnEnds_eq hc hr)⟩
  · have on : (!c.exitMet && decide (r.pulses ≤ c.counted)) = false := by simp; omega
    refine ⟨s.pulseOffEvent, rfl, ?_⟩
    rw [taken sub time hy, State.endPulseOff_eq hc hr, on, ← State.enterApproach_eq hc hr hy]
    exact State.declare_declaredAs _
  all_goals
    have last : (!c.exitMet && decide (r.pulses ≤ c.counted)) = true := by simp [unmet, all]
    have ends : s.endPulseOff = s.preheatExit := by rw [State.endPulseOff_eq hc hr, last, if_pos rfl]
  · obtain ⟨v, hv⟩ : ∃ v : State, v = { s with ctx := some { c with exitMet := true } } := ⟨_, rfl⟩
    have ctx : v.ctx = some { c with exitMet := true } := by rw [hv]
    obtain ⟨engine, -, awaiting, -, -, -, -, firstOne, -⟩ := State.enterFlash_spec ctx hn
    obtain ⟨flashing, mode, out⟩ := firstOne (decide_eq_true first)
    refine ⟨s.pulseOffEvent, WeldCtx.firstFlashing { c with exitMet := true } c.nextIndex, rfl, ?_⟩
    rw [taken sub time hy, ends, State.preheatExit_flash hc hn, if_neg (by omega), ← hv, State.declare_engine,
      State.declare_mode, State.declare_ctx, State.declare_awaiting, State.declare_out]
    refine ⟨engine, mode, flashing, rfl, rfl, rfl, rfl, rfl, rfl, rfl, awaiting.trans (by rw [hv]), out.trans ?_⟩
    have flag : v.yielded = false := by rw [hv]; exact hy
    rw [flag, hv]
    rfl
  · obtain ⟨v, hv⟩ : ∃ v : State, v = { s with ctx := some { c with exitMet := true }, awaiting := true } := ⟨_, rfl⟩
    obtain ⟨w, hw⟩ : ∃ w, w = v.raise .sequencer q.load 1 := ⟨_, rfl⟩
    obtain ⟨engine, ctx, awaiting, yielded, out, -⟩ := State.raise_fields (s := v) .sequencer q.load 1
    have flag : w.yielded = false := by rw [hw, yielded, hv]; exact hy
    have ctx' : w.ctx = some { c with exitMet := true } := by rw [hw, ctx, hv]
    have rise := State.raise_rise (s := v) q.load 1
    refine ⟨s.pulseOffEvent, { c with exitMet := true, sub := some .approach, subTimer := 0, drawTarget := none }, rfl, ?_⟩
    rw [taken sub time hy, ends, State.preheatExit_flash hc hn, if_pos high, ← hv, ← hw, State.declare_engine,
      State.declare_awaiting, State.declare_ctx, State.declare_share_rise, State.declare_out,
      State.enterApproach_eq (s := w) ctx' (by exact hr) flag]
    have outranked : v.outranked 1 = s.outranked 1 := State.outranked_congr (by rw [hv]) (by rw [hv]) 1
    refine ⟨?_, ?_, rfl, rfl, rfl, rfl, rfl, rfl, rfl, ?_, ?_, ?_, ?_⟩
    · show w.engine = _
      rw [hw, engine, hv]
      exact he
    · show w.awaiting = _
      rw [hw, awaiting, hv]
    · show w.share.rise.ask = _
      rw [hw, rise]
    · show w.share.rise.admitWait = _
      rw [hw, rise]
    · show w.share.rise.state = _
      rw [hw, rise, outranked]
    · show ({ w.out with contactor := true, velocity := (r.approach : Int) } : Outputs) = _
      rw [hw, out, hv]

end
end Sys2Proof.Machine

/-! PROOFS. An interval in FLASH, and the modes of the regulation (R59, R69 to R75, R79): O43. -/

namespace Sys2Proof.Machine

section
variable {s t u : State}

/-! ### Steps 3 and 4 with no exit (R69, R78) -/

/-- The exit criterion is not met and no allowance is passed: steps 3 and 4 leave the state. -/
theorem State.testFlash_calm {c : WeldCtx} (hc : s.ctx = some c)
    (pending : s.awaiting = true → c.exitMet = true → c.overrun = false)
    (short : c.exitMet = true ∨ s.exitBurn c < (c.target : Int)) : s.testFlash = s := by
  unfold State.testFlash
  rw [hc]
  dsimp only
  by_cases waits : (s.awaiting && c.exitMet) = true
  · rw [if_pos waits, pending (Bool.and_eq_true_iff.1 waits).1 (Bool.and_eq_true_iff.1 waits).2, if_neg Bool.false_ne_true]
  · have unmet : ¬ (!c.exitMet && decide ((c.target : Int) ≤ s.exitBurn c)) = true := by
      rw [Bool.and_eq_true_iff, Bool.not_eq_true', decide_eq_true_eq]
      rintro ⟨hx, at'⟩
      rcases short with met | below
      · rw [met] at hx
        exact nomatch hx
      · omega
    rw [if_neg waits, State.testFlashExit, hc]
    exact if_neg unmet

/-- An interval in FLASH that steps 3 and 4 leave goes on by the record in force (R59). -/
theorem State.evalFlash_still {c : WeldCtx} {r : FlashRec} (he : s.engine = .flash) (hc : s.ctx = some c)
    (hr : c.flash? = some r) (ha : c.abortTarget = none) (calm : s.testFlash = s) :
    s.evalFlash = s.regulateFlash (c.phase.getD 0) r r := by
  have record : s.ctx.bind WeldCtx.flash? = some r := by rw [hc]; exact hr
  have index : (s.ctx.bind fun c => c.phase).getD 0 = c.phase.getD 0 := by rw [hc]; rfl
  have still : s.stillFlash = true := by
    rw [State.stillFlash, State.aborting, hc, he]
    simp [WeldCtx.aborting, ha]
  unfold State.evalFlash
  rw [record]
  dsimp only
  rw [calm, still, if_pos rfl, index, record]
  rfl

/-! ### Steps 5 and 6, by the mode (R70 to R75) -/

theorem State.regulateFlash_regulating {c : WeldCtx} {r now : FlashRec} {i : Nat} (hc : s.ctx = some c)
    (hm : s.mode = .regulating) (hp : c.contactPending = false) :
    s.regulateFlash i r now = { s with
      ctx := some (c.runs now s.meas.im s.meas.intervalPos)
      out := { s.out with velocity := s.lawSpeed c i r } } := by
  have law : s.regulateFlash i r now
      = (s.setVelocity (s.lawSpeed c i r)).onCtx fun c => c.runs now s.meas.im s.meas.intervalPos := by
    unfold State.regulateFlash
    rw [hc]
    dsimp only
    rw [if_neg (by simp [hp]), hm]
  rw [law, State.onCtx, State.setVelocity_ctx, hc]
  rfl

theorem State.regulateFlash_retracting {c : WeldCtx} {r now : FlashRec} {i : Nat} {k : Retraction} (hc : s.ctx = some c)
    (hm : s.mode = .retracting) (hp : c.contactPending = false) (hk : c.retract = some k) :
    s.regulateFlash i r now = if s.meas.intervalPos ≤ k.target then (s.setVelocity (-(k.speed : Int))).endRetraction
      else s.setVelocity (-(k.speed : Int)) := by
  unfold State.regulateFlash
  rw [hc]
  dsimp only
  rw [if_neg (by simp [hp]), hm]
  dsimp only
  rw [hk]
  rfl

theorem State.regulateFlash_open {c : WeldCtx} {r now : FlashRec} {i : Nat} (hc : s.ctx = some c)
    (hm : s.mode = .openGap) (hp : c.contactPending = false) :
    s.regulateFlash i r now = if now.iOpen ≤ s.meas.im then s.closeGap.setVelocity (s.lawSpeed c i r)
      else (s.countOpen now).setVelocity s.image.vMax := by
  unfold State.regulateFlash
  rw [hc]
  dsimp only
  rw [if_neg (by simp [hp]), hm]

/-- The end of an OPEN episode adds it to the open time, and starts both runs anew (R74, R75). -/
theorem State.closeGap_eq {c : WeldCtx} (hc : s.ctx = some c) (hm : s.mode = .openGap) :
    s.closeGap = { s with
      ctx := some { c with shortRun := 0, openRun := 0, onset := none, openMet := false, openTime := c.openTime + c.openRun }
      mode := .regulating } := by
  have episode : s.closeEpisode = s.onCtx fun c => { c with openTime := c.openTime + c.openRun, openRun := 0 } := if_pos hm
  have state : ∀ f : WeldCtx → WeldCtx, { (s.onCtx f).onCtx WeldCtx.restartRuns with mode := .regulating } = { s with
      ctx := (s.ctx.map f).map WeldCtx.restartRuns, mode := Mode.regulating } := fun _ => rfl
  rw [State.closeGap, episode, state, hc]
  rfl

theorem State.countOpen_low {c : WeldCtx} {r : FlashRec} (hc : s.ctx = some c) (hm : s.mode = .openGap)
    (low : s.meas.im < r.iOpen) : s.countOpen r = { s with ctx := some { c with openRun := c.openRun + 2 } } := by
  rw [State.countOpen, if_pos ⟨hm, low⟩, State.onCtx, hc]
  rfl

/-! ### The move out of FLASH (R79) -/

/-- The step restored is some step: the record's own where the flag stands, and the one commanded otherwise. -/
theorem State.restoreStep_eq (s : State) : ∃ n, s.restoreStep = s.setStep n := by
  unfold State.restoreStep
  split
  · exact ⟨_, rfl⟩
  · exact ⟨s.out.step, rfl⟩

/-- The move to BOOST: no rise pends or is held any more, and BOOST is entered (R79, R80, R120). -/
theorem State.makeMove_boost {c : WeldCtx} {b : BoostRec} (hc : s.ctx = some c)
    (hb : c.prog.body c.nextIndex = some (.boost b)) :
    s.makeMove.ctx = some (c.boosting c.nextIndex s.mode s.yielded s.meas.position) ∧ s.makeMove.engine = .boost
      ∧ s.makeMove.mode = .idle ∧ s.makeMove.yielded = false ∧ s.makeMove.awaiting = s.awaiting
      ∧ s.makeMove.share = { s.share with rise := s.share.rise.ended, admitted := none, hold := none }
      ∧ s.makeMove.out = { s.out with
          contactor := true, step := b.step, velocity := b.speed, force := s.image.fMax * 10 } := by
  obtain ⟨n, restored⟩ := s.cancelRise.restoreStep_eq
  have ctx : (s.cancelRise.setStep n).ctx = some c := hc
  have moved : s.makeMove = (s.cancelRise.setStep n).enterBoost c.nextIndex := by
    unfold State.makeMove
    rw [restored]
    dsimp only
    rw [ctx]
    exact if_pos (Programme.kindAt_of_body hb)
  rw [moved]
  exact State.enterBoost_spec ctx hb

/-! ### The end of a short retraction (R73, R79) -/

/-- A weld context at the end of a short retraction. -/
def WeldCtx.retracted (c : WeldCtx) : WeldCtx := { c.restartRuns with retract := none }

theorem State.endRetraction_eq {c : WeldCtx} (hc : s.ctx = some c) :
    s.endRetraction = if c.moveDue then State.makeMove { s with ctx := some c.retracted, mode := .regulating }
      else { s with ctx := some c.retracted, mode := .regulating } := by
  have state : ∀ f : WeldCtx → WeldCtx, { s.onCtx f with mode := .regulating } = { s with
      ctx := s.ctx.map f, mode := Mode.regulating } := fun _ => rfl
  unfold State.endRetraction
  rw [state, hc]
  rfl

/-! ### The onset of a short (R72, R73) -/

/-- A weld context at the onset of a short, whose interval found the retraction `k`. -/
def WeldCtx.shorted (c : WeldCtx) (k : Retraction) (p : Int) : WeldCtx :=
  let latched := if c.lists .short then c.latched .short p else { c with omitted := countUp c.omitted }
  { latched.restartRuns with shortCount := countUp c.shortCount, retract := some k }

theorem WeldCtx.shorted_spec (c : WeldCtx) (k : Retraction) (p : Int) :
    (c.shorted k p).shortCount = min (c.shortCount + 1) 65535 ∧ (c.shorted k p).burnOff = c.burnOff
      ∧ ((c.latches.filter fun l => l.kind.repeated).length < 16 →
          (c.shorted k p).latches = c.latches ++ [⟨.short, p, c.weldTime⟩] ∧ (c.shorted k p).omitted = c.omitted)
      ∧ (16 ≤ (c.latches.filter fun l => l.kind.repeated).length →
          (c.shorted k p).latches = c.latches ∧ (c.shorted k p).omitted = min (c.omitted + 1) 65535) := by
  have lists : c.lists .short = decide ((c.latches.filter fun l => l.kind.repeated).length < 16) := rfl
  unfold WeldCtx.shorted
  rw [lists]
  refine ⟨rfl, ?_, fun room => ?_, fun full => ?_⟩
  · dsimp only [WeldCtx.restartRuns]
    split
    · rfl
    · rfl
  · rw [if_pos (decide_eq_true room)]
    exact ⟨rfl, rfl⟩
  · rw [if_neg (by simpa using full)]
    exact ⟨rfl, rfl⟩

theorem State.shortBegins_spec {c : WeldCtx} {k : Retraction} (hc : s.ctx = some c) (hk : c.onset = some k) :
    s.shortBegins.ctx = some (c.shorted k s.meas.intervalPos) ∧ s.shortBegins.engine = s.engine
      ∧ s.shortBegins.mode = .retracting ∧ s.shortBegins.out = { s.out with velocity := -(k.speed : Int) } := by
  have onset : s.ctx.bind WeldCtx.onset = some k := by rw [hc]; exact hk
  have latched : (s.latch .short s.meas.intervalPos).ctx = some (if c.lists .short then
      c.latched .short s.meas.intervalPos else { c with omitted := countUp c.omitted }) := by
    rw [State.latch_ctx, hc]
    rfl
  have count : (if c.lists .short then c.latched .short s.meas.intervalPos
      else { c with omitted := countUp c.omitted }).shortCount = c.shortCount := by
    split
    · rfl
    · rfl
  unfold State.shortBegins
  rw [onset]
  refine ⟨?_, s.latch_engine _ _, rfl, ?_⟩
  · show (s.latch .short s.meas.intervalPos).ctx.map _ = _
    rw [latched, Option.map_some, count]
    rfl
  · show ({ (s.latch .short s.meas.intervalPos).out with velocity := -(k.speed : Int) } : Outputs) = _
    rw [State.latch_out]

/-! ### O43 -/

theorem State.exitBurn_of_mode {c : WeldCtx} (hm : s.mode ≠ .retracting) : s.exitBurn c = c.burnOff := by
  unfold State.exitBurn
  split
  · exact absurd ‹s.mode = .retracting› hm
  · rfl

theorem State.exitBurn_retracting {c : WeldCtx} {k : Retraction} (hm : s.mode = .retracting) (hk : c.retract = some k) :
    s.exitBurn c = k.burnOff := by
  rw [State.exitBurn, hm, hk]

theorem WeldCtx.overrun_of_le {c : WeldCtx} (h : c.burnOff ≤ (c.target : Int) + (c.prog.overrun : Int)) :
    c.overrun = false := by
  refine decide_eq_false fun past => ?_
  rw [Nat.cast_add] at past
  omega

/-- In REGULATING after CONTACT, with no exit: the law, and the two runs (R71, R72, R74). -/
theorem State.evalFlash_regulating {c : WeldCtx} {r : FlashRec} (he : s.engine = .flash) (hm : s.mode = .regulating)
    (hc : s.ctx = some c) (hr : c.flash? = some r) (hp : c.contactPending = false) (ha : c.abortTarget = none)
    (calm : s.testFlash = s) : s.evalFlash = { s with
      ctx := some (c.runs r s.meas.im s.meas.intervalPos)
      out := { s.out with velocity := s.lawSpeed c (c.phase.getD 0) r } } := by
  rw [State.evalFlash_still he hc hr ha calm, State.regulateFlash_regulating hc hm hp]

/-- An interval in RETRACTING, short of the target and at it, with or without a move that waits (R73, R79). -/
theorem retractionGoesOnOrEnds {c : WeldCtx} {r : FlashRec} {k : Retraction} (he : s.engine = .flash)
    (hc : s.ctx = some c) (hr : c.flash? = some r) (hp : c.contactPending = false) (ha : c.abortTarget = none)
    (hm : s.mode = .retracting) (hk : c.retract = some k) (calm : s.testFlash = s) :
    (k.target < s.meas.intervalPos → s.evalFlash = { s with out := { s.out with velocity := -(k.speed : Int) } })
      ∧ (s.meas.intervalPos ≤ k.target → c.moveDue = false → s.evalFlash = { s with
          ctx := some { c with shortRun := 0, openRun := 0, onset := none, openMet := false, retract := none }
          mode := .regulating
          out := { s.out with velocity := -(k.speed : Int) } })
      ∧ (∀ b, s.meas.intervalPos ≤ k.target → c.moveDue = true → c.prog.body c.nextIndex = some (.boost b) →
          ∃ c', s.evalFlash.ctx = some c' ∧ s.evalFlash.engine = .boost ∧ s.evalFlash.mode = .idle
            ∧ s.evalFlash.yielded = false ∧ s.evalFlash.share.admitted = none ∧ c'.phase = some c.nextIndex
            ∧ c'.phaseTimer = 0 ∧ c'.boostEntry = some c.burnOff ∧ c'.shortRun = 0 ∧ c'.openRun = 0
            ∧ c'.latches = c.latches ++ [⟨.boostStart, s.meas.position, c.weldTime⟩]
            ∧ s.evalFlash.out = { s.out with
                contactor := true, step := b.step, velocity := b.speed, force := s.image.fMax * 10 }) := by
  obtain ⟨v, hv⟩ : ∃ v, v = s.setVelocity (-(k.speed : Int)) := ⟨_, rfl⟩
  have ctx : v.ctx = some c := by rw [hv]; exact hc
  have goes : s.evalFlash = if s.meas.intervalPos ≤ k.target then v.endRetraction else v := by
    rw [State.evalFlash_still he hc hr ha calm, State.regulateFlash_retracting hc hm hp hk, hv]
  refine ⟨fun away => ?_, fun there calm' => ?_, fun b there due boost => ?_⟩
  · rw [goes, if_neg (by omega), hv]
    rfl
  · rw [goes, if_pos there, State.endRetraction_eq ctx, if_neg (by simp [calm']), hv]
    rfl
  · rw [goes, if_pos there, State.endRetraction_eq ctx, if_pos due]
    obtain ⟨w, hw⟩ : ∃ w : State, w = { v with ctx := some c.retracted, mode := .regulating } := ⟨_, rfl⟩
    have ctx' : w.ctx = some c.retracted := by rw [hw]
    obtain ⟨moved, engine, mode, yielded, -, share, out⟩ := State.makeMove_boost ctx' boost
    rw [← hw]
    refine ⟨_, moved, engine, mode, yielded, by rw [share], rfl, rfl, rfl, rfl, rfl, ?_, out.trans ?_⟩
    · have position : w.meas.position = s.meas.position := by rw [hw, hv]; rfl
      rw [position]
      rfl
    · rw [hw, hv]
      rfl

/-- An interval in OPEN, with the current away and back (R74, R75). -/
theorem openGoesOnOrEnds {c : WeldCtx} {r : FlashRec} (he : s.engine = .flash) (hc : s.ctx = some c)
    (hr : c.flash? = some r) (hp : c.contactPending = false) (ha : c.abortTarget = none) (hm : s.mode = .openGap)
    (calm : s.testFlash = s)
    (calm' : State.testFlash { s with mode := .regulating } = { s with mode := .regulating }) :
    (s.meas.im < r.iOpen → s.evalFlash = { s with
        ctx := some { c with openRun := c.openRun + 2 }
        out := { s.out with velocity := (s.image.vMax : Int) } })
      ∧ (r.iOpen ≤ s.meas.im → s.evalFlash = { s with
          ctx := some { c with
            shortRun := 0, openRun := 0, onset := none, openMet := false, openTime := c.openTime + c.openRun }
          mode := .regulating
          out := { s.out with velocity := ({ s with mode := .regulating } : State).evalFlash.out.velocity } }) := by
  refine ⟨fun low => ?_, fun back => ?_⟩
  · rw [State.evalFlash_still he hc hr ha calm, State.regulateFlash_open hc hm hp, if_neg (by omega),
      State.countOpen_low hc hm low]
    rfl
  · rw [State.evalFlash_still he hc hr ha calm, State.regulateFlash_open hc hm hp, if_pos back, State.closeGap_eq hc hm,
      State.evalFlash_regulating (s := { s with mode := .regulating }) he rfl hc hr hp ha calm']
    rfl

/-- Settles O43: the retraction and OPEN go on or end, and the rows begin them by what the interval found. -/
theorem shortAndOpenBegin : Obligations.ShortAndOpenBegin := by
  refine ⟨fun s c r he hc hr hp ha allowance => ⟨fun k hm hk exit => ?_, fun hm exit => ?_⟩,
    fun s c he hm hc hp ha => ⟨fun r hr calm short => ?_, fun k hk => ?_, fun met => ?_⟩⟩
  · have pending : s.awaiting = true → c.exitMet = true → c.overrun = false := fun waits met => by
      rcases allowance met with none' | within
      · rw [waits] at none'
        exact nomatch none'
      · exact WeldCtx.overrun_of_le within
    refine retractionGoesOnOrEnds he hc hr hp ha hm hk (State.testFlash_calm hc pending ?_)
    rw [State.exitBurn_retracting hm hk]
    exact exit
  · have pending : s.awaiting = true → c.exitMet = true → c.overrun = false := fun waits met => by
      rcases allowance met with none' | within
      · rw [waits] at none'
        exact nomatch none'
      · exact WeldCtx.overrun_of_le within
    refine openGoesOnOrEnds he hc hr hp ha hm (State.testFlash_calm hc pending ?_)
      (State.testFlash_calm (s := { s with mode := .regulating }) hc pending ?_)
    · rw [State.exitBurn_of_mode (by rw [hm]; decide)]
      exact exit
    · rw [State.exitBurn_of_mode (fun h : Mode.regulating = .retracting => nomatch h)]
      exact exit
  · have calm' : s.testFlash = s := by
      refine State.testFlash_calm hc (fun waits => ?_) (.inr ?_)
      · rw [calm] at waits
        exact nomatch waits
      · rw [State.exitBurn_of_mode (by rw [hm]; decide)]
        exact short
    have runs : c.runs r s.meas.im s.meas.intervalPos = { c with
        shortRun := if r.isc ≤ s.meas.im then c.shortRun + 2 else 0
        openRun := if s.meas.im < r.iOpen then c.openRun + 2 else 0
        onset := if r.isc ≤ s.meas.im ∧ r.tsc ≤ c.shortRun + 2
          then some ⟨s.meas.intervalPos - r.dr, r.vr, c.burnOff⟩ else none
        openMet := decide (s.meas.im < r.iOpen ∧ r.tOpen ≤ c.openRun + 2) } := by
      rw [Bool.decide_and]
      rfl
    rw [State.evalFlash_regulating he hm hc hr hp ha calm']
    exact ⟨hm, congrArg some runs⟩
  · have due : s.shortDue = true := by
      rw [State.shortDue, State.stillFlash, State.aborting, hc]
      simp [he, hm, hp, WeldCtx.aborting, ha, hk]
    obtain ⟨ctx, engine, mode, out⟩ := State.shortBegins_spec hc hk
    obtain ⟨count, burn, room, full⟩ := c.shorted_spec k s.meas.intervalPos
    refine ⟨s.shortEvent, c.shorted k s.meas.intervalPos, rfl, ?_⟩
    have taken : s.shortEvent = s.shortBegins.declare := State.event_of_due s due _
    rw [taken, State.declare_ctx, State.declare_mode, State.declare_engine, State.declare_out]
    exact ⟨ctx, mode, engine.trans he, count, rfl, rfl, rfl, rfl, rfl, out, burn, room, full⟩
  · have due : s.openDue = true := by
      rw [State.openDue, State.stillFlash, State.aborting, hc]
      simp [he, hm, hp, WeldCtx.aborting, ha, met]
    have state : s.openBegins = { s with
        ctx := some { c with openMet := false }
        mode := .openGap
        out := { s.out with velocity := (s.image.vMax : Int) } } := by
      rw [State.openBegins, State.onCtx, hc]
      rfl
    exact ⟨s.openEvent, rfl, State.event_declaredAs due state⟩

end
end Sys2Proof.Machine

/-! PROOFS. An interval in FLASH with contact pending, with the exit criterion met, and with a rise that waits (R7, R8, R67 to
R71, R78, R79): O28. -/

namespace Sys2Proof.Machine

section
variable {s t u : State}

/-! ### The evaluation of an interval in FLASH (R59) -/

theorem State.evalCurrent_flash {c1 : WeldCtx} (he : s.engine = .flash)
    (state : s.countPower.updateBurnOff = { s with ctx := some c1 }) (ha : c1.abortTarget = none) :
    s.evalUnits = s.countPower.updateBurnOff.evalFlash := by
  have current : s.evalUnits = s.evalCurrent := by rw [State.evalUnits, he]
  rw [current]
  unfold State.evalCurrent
  rw [state]
  dsimp only
  rw [Option.bind_some, ha]
  exact if_neg (by rw [he]; decide)

/-- Where steps 3 and 4 leave FLASH, nothing is regulated any more. -/
theorem State.evalFlash_left {c : WeldCtx} {r : FlashRec} (hc : s.ctx = some c) (hr : c.flash? = some r)
    (hm : s.mode = .regulating) (left : s.testFlash.stillFlash = false) : s.evalFlash = s.testFlash := by
  have record : s.ctx.bind WeldCtx.flash? = some r := by rw [hc]; exact hr
  have uncounted : s.countOpen r = s := if_neg (by rw [hm]; simp)
  unfold State.evalFlash
  rw [record]
  dsimp only
  rw [if_neg (by rw [left]; decide), uncounted]

/-- Where they stay in FLASH with contact made, the runs and the velocity command are set. -/
theorem State.evalFlash_stays {c c1 : WeldCtx} {r : FlashRec} (hc : s.ctx = some c) (hr : c.flash? = some r)
    {v : State} (hv : s.testFlash = v) (he : v.engine = .flash) (hm : v.mode = .regulating) (hc1 : v.ctx = some c1)
    (hp : c1.contactPending = false) (ha : c1.abortTarget = none) :
    ∃ now vel, s.evalFlash = { v with
      ctx := some (c1.runs now v.meas.im v.meas.intervalPos), out := { v.out with velocity := vel } } := by
  have record : s.ctx.bind WeldCtx.flash? = some r := by rw [hc]; exact hr
  have still : v.stillFlash = true := by
    rw [State.stillFlash, State.aborting, hc1, he]
    simp [WeldCtx.aborting, ha]
  refine ⟨(v.ctx.bind WeldCtx.flash?).getD r, v.lawSpeed c1 ((s.ctx.bind fun c => c.phase).getD 0) r, ?_⟩
  rw [← State.regulateFlash_regulating hc1 hm hp]
  unfold State.evalFlash
  rw [record]
  dsimp only
  rw [hv, if_pos still]

/-! ### Contact (R67) -/

/-- A weld context that latches CONTACT at a position. -/
def WeldCtx.contacted (c : WeldCtx) (p : Int) : WeldCtx :=
  { c.latched .contact p with contactPending := false, contactPos := some p }

theorem State.takeContact_ctx {c : WeldCtx} (hc : s.ctx = some c) :
    s.takeContact.ctx = some (c.contacted s.meas.intervalPos) := by
  rw [State.takeContact, State.onCtx_ctx, State.latch_milestone hc rfl]
  rfl

theorem State.regulateFlash_pending {c : WeldCtx} {r now : FlashRec} {i : Nat} (hc : s.ctx = some c)
    (hp : c.contactPending = true) :
    s.regulateFlash i r now
      = (if s.image.iContact ≤ s.meas.im then s.takeContact else s).setVelocity r.approach := by
  unfold State.regulateFlash
  rw [hc]
  dsimp only
  rw [if_pos hp]

/-! ### The exit criterion (R7, R69) -/

/-- A weld context whose exit criterion is met at a position: FLASH END latched. -/
def WeldCtx.exited (c : WeldCtx) (p : Int) : WeldCtx := { c.latched .flashEnd p with exitMet := true }

/-- The state with FLASH END latched and the exit reported. -/
def State.exited (s : State) : State :=
  (s.latch .flashEnd s.meas.intervalPos).onCtx fun c => { c with exitMet := true }

theorem State.exited_ctx {c : WeldCtx} (hc : s.ctx = some c) : s.exited.ctx = some (c.exited s.meas.intervalPos) := by
  rw [State.exited, State.onCtx_ctx, State.latch_milestone hc rfl]
  rfl

theorem State.exited_fields (s : State) :
    s.exited.engine = s.engine ∧ s.exited.mode = s.mode ∧ s.exited.awaiting = s.awaiting ∧ s.exited.yielded = s.yielded
      ∧ s.exited.out = s.out ∧ s.exited.meas = s.meas ∧ s.exited.image = s.image ∧ s.exited.share = s.share
      ∧ s.exited.station = s.station := by
  simp [State.exited]

theorem State.flashExit_eq {c : WeldCtx} (hc : s.ctx = some c) :
    s.flashExit = if s.presentLoad < (c.moveClaim s.image.standby).1 then
        State.raise { s.exited with awaiting := true } .sequencer (c.moveClaim s.image.standby).1
          (c.moveClaim s.image.standby).2
      else s.exited.leaveFlash none := by
  obtain ⟨engine, -, -, yielded, -, -, image, share, -⟩ := s.exited_fields
  have ctx := State.exited_ctx hc
  have present : s.exited.presentLoad = s.presentLoad :=
    State.presentLoad_congr hc ctx engine yielded (by rw [share]) image rfl rfl rfl rfl
  have claim : (c.exited s.meas.intervalPos).moveClaim s.exited.image.standby = c.moveClaim s.image.standby := by
    rw [image]
    rfl
  have matched : s.flashExit = match s.exited.ctx with
      | none => s.exited
      | some c =>
        if s.exited.presentLoad < (c.moveClaim s.exited.image.standby).1 then
          State.raise { s.exited with awaiting := true } .sequencer (c.moveClaim s.exited.image.standby).1
            (c.moveClaim s.exited.image.standby).2
        else s.exited.leaveFlash none := rfl
  rw [matched, ctx]
  dsimp only
  rw [claim, present]

/-- Steps 3 and 4 with no rise waiting and the cumulative target reached. -/
theorem State.testFlash_exits {c : WeldCtx} (hc : s.ctx = some c) (free : s.awaiting = false) (unmet : c.exitMet = false)
    (reached : (c.target : Int) ≤ s.exitBurn c) : s.testFlash = s.flashExit := by
  unfold State.testFlash
  rw [hc]
  dsimp only
  rw [if_neg (by simp [free]), State.testFlashExit, hc]
  exact if_pos (by simp [unmet, reached])

theorem WeldCtx.moveClaim_flash {c : WeldCtx} {q : FlashRec} (hn : c.prog.body c.nextIndex = some (.flash q)) (n : Nat) :
    c.moveClaim n = (q.load, 1) := by
  rw [WeldCtx.moveClaim, hn]

theorem WeldCtx.moveClaim_zero {c : WeldCtx} {b : RecBody} (hn : c.prog.body c.nextIndex = some b)
    (hb : b.kind = .boost ∨ b.kind = .upset) (n : Nat) : c.moveClaim n = (c.prog.classZero, 0) := by
  rw [WeldCtx.moveClaim, hn]
  cases b <;> simp_all [RecBody.kind]

/-- A move out of FLASH that waits for no retraction (R79). -/
theorem State.leaveFlash_eq {c : WeldCtx} (hc : s.ctx = some c) (hm : s.mode ≠ .retracting) (claim : Option (Nat × Nat)) :
    s.leaveFlash claim = if c.prog.kindAt c.nextIndex = some .flash then s.enterFlash c.nextIndex else s.makeMove := by
  unfold State.leaveFlash
  rw [hc]
  dsimp only
  rw [if_neg hm]

/-! ### The move to UPSET (R79, R85) -/

theorem State.makeMove_eq {c : WeldCtx} (hc : s.ctx = some c) (hk : c.prog.kindAt c.nextIndex ≠ some .boost) :
    s.makeMove = s.cancelRise.restoreStep.enterUpset c.nextIndex := by
  obtain ⟨n, restored⟩ := s.cancelRise.restoreStep_eq
  have ctx : (s.cancelRise.setStep n).ctx = some c := hc
  unfold State.makeMove
  rw [restored]
  dsimp only
  rw [ctx]
  exact if_neg hk

/-- The entry to UPSET leaves a weld in flight, in UPSET. -/
theorem State.enterUpset_some {c : WeldCtx} (hc : s.ctx = some c) (i : Nat) :
    (∃ c', (s.enterUpset i).ctx = some c') ∧ (s.enterUpset i).engine = .upset := by
  have ctx := State.strokeBegun_ctx hc i
  obtain ⟨engine, -⟩ := State.strokeBegun_fields s i
  rw [State.enterUpset_eq]
  split
  · exact ⟨⟨_, ctx⟩, engine⟩
  · split
    · exact ⟨⟨_, State.takeCurrentOff_ctx ctx⟩, State.takeCurrentOff_fields.1.trans engine⟩
    · exact ⟨⟨_, ctx⟩, engine⟩

/-- The step restored is the record's where the flag stands, and the one commanded otherwise (R66). -/
theorem State.restoreStep_step {c : WeldCtx} {r : FlashRec} (hc : s.ctx = some c) (hr : c.flash? = some r) :
    s.restoreStep = s.setStep (if s.yielded then r.step else s.out.step) := by
  have record : s.ctx.bind WeldCtx.flash? = some r := by rw [hc]; exact hr
  unfold State.restoreStep
  rw [record]
  cases s.yielded with
  | true => rfl
  | false => rfl

/-! ### O28 -/

/-- The counts of steps 1 and 2 leave the record in force, and take the burn-off (R59, R68). -/
theorem countsBeforeTheLaw : ∀ (s : State) (c : WeldCtx), s.engine = .flash → s.ctx = some c → c.abortTarget = none →
    s.evalUnits = s.countPower.updateBurnOff.evalFlash
    ∧ ∃ c', s.countPower.updateBurnOff.ctx = some c' ∧ c'.abortTarget = none ∧ c'.contactPending = c.contactPending
      ∧ c'.phase = c.phase ∧ c'.prog = c.prog
      ∧ c'.burnOff = (match c.contactPos with
          | none => c.burnOff
          | some pc => max c.burnOff (s.meas.intervalPos - pc)) := by
  intro s c he hc ha
  obtain ⟨c1, state, kept⟩ := State.counted_spec hc
  obtain ⟨prog, phase, target, -, burn, -, -, -, -, -, -, -, -, -, -, pending⟩ := WeldCtx.of_besidesPower kept
  have still : c1.abortTarget = none := target.trans ha
  refine ⟨State.evalCurrent_flash he state still, c1, by rw [state], still, pending, phase, prog, ?_⟩
  rw [burn]
  rfl

/-- The speed law with its quotients, by the burn-off within the record (R69 to R71). -/
theorem lawSpeed_eq {c : WeldCtx} {r : FlashRec} (hr : c.flash? = some r) :
    ∃ vp corr ie bk : Int, s.lawSpeed c (c.phase.getD 0) r = max 0 (min (s.image.vMax : Int) (vp + corr))
      ∧ bk = min (max 0 (c.burnOff - (c.prog.lfSum (c.nextIndex - 1) : Int))) (r.lf : Int)
      ∧ vp = (r.va : Int) + (((r.vb : Int) - (r.va : Int)) * bk).tdiv (r.lf : Int)
      ∧ corr = ((r.k : Int) * (ie - (s.meas.im : Int))).tdiv 10
      ∧ ie = ((c.guard.getD (if s.yielded then r.isRed else r.is) : Nat) : Int) := by
  have index : c.nextIndex - 1 = c.phase.getD 0 := by
    have body := WeldCtx.body_of_flash hr
    unfold WeldCtx.nextIndex
    cases hp : c.phase with
    | none => simp [WeldCtx.body, hp] at body
    | some i => rfl
  refine ⟨_, _, _, _, rfl, ?_, rfl, rfl, rfl⟩
  rw [index, WeldCtx.within]
  omega

/-- A pending contact: the approach goes on, or CONTACT is latched (R67). -/
theorem contactIsTaken {c : WeldCtx} {r : FlashRec} (he : s.engine = .flash) (hc : s.ctx = some c)
    (hr : c.flash? = some r) (hp : c.contactPending = true) (ha : c.abortTarget = none) (hm : s.mode = .regulating)
    (calm : s.testFlash = s) :
    (s.image.iContact ≤ s.meas.im → ∃ c', s.evalFlash.ctx = some c' ∧ s.evalFlash.mode = .regulating
      ∧ c'.contactPending = false ∧ c'.contactPos = some s.meas.intervalPos ∧ c'.burnOff = c.burnOff
      ∧ c'.latches = c.latches ++ [⟨.contact, s.meas.intervalPos, c.weldTime⟩]
      ∧ s.evalFlash.out = { s.out with velocity := r.approach })
    ∧ (s.meas.im < s.image.iContact →
        s.evalFlash = { s with out := { s.out with velocity := r.approach } }) := by
  have goes := (State.evalFlash_still he hc hr ha calm).trans (State.regulateFlash_pending hc hp)
  refine ⟨fun made => ?_, fun away => ?_⟩
  · have mode : s.takeContact.mode = .regulating := (s.latch_mode _ _).trans hm
    have out : s.takeContact.out = s.out := s.latch_out _ _
    rw [goes, if_pos made]
    refine ⟨c.contacted s.meas.intervalPos, State.takeContact_ctx hc, mode, rfl, rfl, rfl, rfl, ?_⟩
    show ({ s.takeContact.out with velocity := (r.approach : Int) } : Outputs) = _
    rw [out]
  · rw [goes, if_neg (by omega)]
    rfl

section exit
variable {c : WeldCtx} {r : FlashRec} (hm : s.mode = .regulating) (hc : s.ctx = some c) (hr : c.flash? = some r)
include hm hc hr

/-- The exit asks its rise, and the record goes on (R7, R69). -/
theorem exitAsksARise {claim cls : Nat} (he : s.engine = .flash) (hp : c.contactPending = false)
    (ha : c.abortTarget = none) (exits : s.testFlash = s.flashExit)
    (hk : c.moveClaim s.image.standby = (claim, cls)) (high : s.presentLoad < claim) :
    ∃ c', s.evalFlash.ctx = some c' ∧ s.evalFlash.engine = .flash ∧ s.evalFlash.mode = .regulating
      ∧ s.evalFlash.awaiting = true ∧ c'.exitMet = true
      ∧ c'.latches = c.latches ++ [⟨.flashEnd, s.meas.intervalPos, c.weldTime⟩] ∧ c'.phase = c.phase
      ∧ s.evalFlash.share.rise.ask = some ⟨.sequencer, claim, cls⟩ ∧ s.evalFlash.share.rise.admitWait = ⟨true, 0⟩
      ∧ s.evalFlash.share.rise.state = (if s.outranked cls then .withdrawn else .settling) := by
  obtain ⟨engine, mode, -, -, -, -, -, share, station⟩ := s.exited_fields
  obtain ⟨w, hw⟩ : ∃ w : State, w = { s.exited with awaiting := true } := ⟨_, rfl⟩
  obtain ⟨engine', ctx', awaiting', -, -, mode', -⟩ := State.raise_fields (s := w) .sequencer claim cls
  have rise := State.raise_rise (s := w) claim cls
  have outranked : w.outranked cls = s.outranked cls :=
    State.outranked_congr (by rw [hw]; exact congrArg Share.peers share) (by rw [hw]; exact station) cls
  have raised : s.testFlash = w.raise .sequencer claim cls := by
    rw [exits, State.flashExit_eq hc, hk, if_pos high, hw]
  obtain ⟨now, vel, done⟩ := State.evalFlash_stays (c1 := c.exited s.meas.intervalPos) hc hr raised
    (engine'.trans (by rw [hw]; exact engine.trans he)) (mode'.trans (by rw [hw]; exact mode.trans hm))
    (ctx'.trans (by rw [hw]; exact State.exited_ctx hc)) hp ha
  rw [done]
  refine ⟨_, rfl, engine'.trans (by rw [hw]; exact engine.trans he), mode'.trans (by rw [hw]; exact mode.trans hm),
    awaiting'.trans (by rw [hw]), rfl, rfl, rfl, congrArg Rise.ask rise, congrArg Rise.admitWait rise, ?_⟩
  rw [← outranked]
  exact congrArg Rise.state rise

/-- The exit moves to the next FLASH record at once (R69, R79). -/
theorem exitEntersFlash {q : FlashRec} (hp : c.contactPending = false) (ha : c.abortTarget = none)
    (exits : s.testFlash = s.flashExit)
    (hn : c.prog.body c.nextIndex = some (.flash q)) (low : q.load ≤ s.presentLoad) :
    ∃ c', s.evalFlash.ctx = some c' ∧ s.evalFlash.engine = .flash ∧ s.evalFlash.mode = .regulating
      ∧ s.evalFlash.awaiting = s.awaiting ∧ c'.phase = some c.nextIndex ∧ c'.phaseTimer = 0 ∧ c'.exitMet = false
      ∧ c'.latches = c.latches ++ [⟨.flashEnd, s.meas.intervalPos, c.weldTime⟩] ∧ c'.guard = none
      ∧ c'.burnOff = c.burnOff
      ∧ s.evalFlash.out = { s.out with
          contactor := true, step := if s.yielded then q.reducedStep else q.step
          velocity := s.evalFlash.out.velocity, force := s.image.fMax * 10 } := by
  obtain ⟨engine, mode, awaiting, yielded, out, meas, image, -⟩ := s.exited_fields
  have ctx := State.exited_ctx hc
  have kind : (c.exited s.meas.intervalPos).prog.kindAt (c.exited s.meas.intervalPos).nextIndex = some .flash :=
    Programme.kindAt_of_body hn
  obtain ⟨engine', -, awaiting', -, -, -, -, -, later⟩ :=
    State.enterFlash_spec (s := s.exited) (r := q) (i := c.nextIndex) ctx hn
  obtain ⟨ctx', mode', out'⟩ := later (WeldCtx.next_not_first hr)
  have entered : s.testFlash = s.exited.enterFlash c.nextIndex := by
    rw [exits, State.flashExit_eq hc, WeldCtx.moveClaim_flash hn, if_neg (by omega),
      State.leaveFlash_eq ctx (by rw [mode, hm]; decide), if_pos kind]
    rfl
  obtain ⟨now, vel, done⟩ := State.evalFlash_stays hc hr entered engine' (mode'.trans (mode.trans hm)) ctx' hp ha
  rw [done]
  refine ⟨_, rfl, engine', mode'.trans (mode.trans hm), awaiting'.trans awaiting, rfl, rfl, rfl, rfl, rfl, rfl, ?_⟩
  rw [out', out, yielded, image]

/-- The exit moves to BOOST at once (R79, R80). -/
theorem exitEntersBoost {b : BoostRec} (exits : s.testFlash = s.flashExit)
    (hn : c.prog.body c.nextIndex = some (.boost b)) (low : c.prog.classZero ≤ s.presentLoad) :
    ∃ c', s.evalFlash.ctx = some c' ∧ s.evalFlash.engine = .boost ∧ s.evalFlash.mode = .idle
      ∧ s.evalFlash.yielded = false ∧ s.evalFlash.share.rise.state = .none ∧ c'.phase = some c.nextIndex
      ∧ c'.phaseTimer = 0 ∧ c'.boostEntry = some c.burnOff ∧ c'.shortRun = 0 ∧ c'.openRun = 0
      ∧ c'.latches = (c.latches ++ [⟨.flashEnd, s.meas.intervalPos, c.weldTime⟩])
          ++ [⟨.boostStart, s.meas.position, c.weldTime⟩]
      ∧ s.evalFlash.out = { s.out with
          contactor := true, step := b.step, velocity := b.speed, force := s.image.fMax * 10 } := by
  obtain ⟨-, mode, -, -, out, meas, image, -⟩ := s.exited_fields
  have ctx := State.exited_ctx hc
  have kind : (c.exited s.meas.intervalPos).prog.kindAt (c.exited s.meas.intervalPos).nextIndex = some .boost :=
    Programme.kindAt_of_body hn
  obtain ⟨ctx', engine', mode', yielded', -, share', out'⟩ := State.makeMove_boost (s := s.exited) ctx hn
  have moved : s.testFlash = s.exited.makeMove := by
    rw [exits, State.flashExit_eq hc, WeldCtx.moveClaim_zero hn (.inl rfl), if_neg (by omega),
      State.leaveFlash_eq ctx (by rw [mode, hm]; decide), if_neg (by rw [kind]; decide)]
  have left : s.testFlash.stillFlash = false := by
    rw [moved, State.stillFlash, engine']
    rfl
  rw [State.evalFlash_left hc hr hm left, moved]
  refine ⟨_, ctx', engine', mode', yielded', by rw [share']; rfl, rfl, rfl, rfl, rfl, rfl, ?_, ?_⟩
  · rw [meas]
    rfl
  · rw [out', out, image]

/-- The exit moves to UPSET, or to a record of no use there, at once (R79, R85). -/
theorem exitEntersUpset (exits : s.testFlash = s.flashExit) (hf : c.prog.kindAt c.nextIndex ≠ some .flash)
    (hb : c.prog.kindAt c.nextIndex ≠ some .boost) (low : (c.moveClaim s.image.standby).1 ≤ s.presentLoad) :
    (∃ c', s.evalFlash.ctx = some c')
      ∧ s.evalFlash = (s.exited.cancelRise.setStep (if s.yielded then r.step else s.out.step)).enterUpset c.nextIndex := by
  obtain ⟨-, mode, -, yielded, out, -⟩ := s.exited_fields
  have ctx := State.exited_ctx hc
  have step : s.exited.cancelRise.restoreStep
      = s.exited.cancelRise.setStep (if s.yielded then r.step else s.out.step) := by
    rw [State.restoreStep_step (s := s.exited.cancelRise) (r := r) ctx hr, State.cancelRise_yielded,
      State.cancelRise_out, yielded, out]
  have moved : s.testFlash
      = (s.exited.cancelRise.setStep (if s.yielded then r.step else s.out.step)).enterUpset c.nextIndex := by
    rw [exits, State.flashExit_eq hc, if_neg (by omega), State.leaveFlash_eq ctx (by rw [mode, hm]; decide), if_neg (by exact hf),
      State.makeMove_eq ctx (by exact hb), step]
    rfl
  obtain ⟨there, engine⟩ := State.enterUpset_some
    (s := s.exited.cancelRise.setStep (if s.yielded then r.step else s.out.step)) ctx c.nextIndex
  have left : s.testFlash.stillFlash = false := by
    rw [moved, State.stillFlash, engine]
    rfl
  rw [State.evalFlash_left hc hr hm left, moved]
  exact ⟨there, rfl⟩

/-- The exit moves to an UPSET record with current at once (R79, R85). -/
theorem exitEntersStroke {q : UpsetRec} (exits : s.testFlash = s.flashExit)
    (hn : c.prog.body c.nextIndex = some (.upset q)) (current : 0 < q.tuc) (low : c.prog.classZero ≤ s.presentLoad) :
    ∃ c', s.evalFlash.ctx = some c' ∧ s.evalFlash.engine = .upset
      ∧ s.evalFlash.mode = .idle ∧ s.evalFlash.yielded = false ∧ s.evalFlash.share.rise.state = .none
      ∧ c'.phase = some c.nextIndex ∧ c'.phaseTimer = 0 ∧ c'.upsetBegun = true
      ∧ c'.upStart = some s.meas.intervalPos
      ∧ c'.latches = (c.latches ++ [⟨.flashEnd, s.meas.intervalPos, c.weldTime⟩])
          ++ [⟨.upsetStart, s.meas.intervalPos, c.weldTime⟩]
      ∧ s.evalFlash.out = { s.out with
          step := if s.yielded then r.step else s.out.step, velocity := q.speed, force := q.fu * 10 } := by
  obtain ⟨-, -, -, -, out, meas, -, share, -⟩ := s.exited_fields
  have kind := Programme.kindAt_of_body hn
  obtain ⟨-, entered⟩ := exitEntersUpset hm hc hr exits (by rw [kind]; simp [RecBody.kind]) (by rw [kind]; simp [RecBody.kind])
    (by rw [WeldCtx.moveClaim_zero hn (.inr rfl)]; exact low)
  obtain ⟨v, hv⟩ : ∃ v, v = s.exited.cancelRise.setStep (if s.yielded then r.step else s.out.step) := ⟨_, rfl⟩
  have ctx : v.ctx = some (c.exited s.meas.intervalPos) := by rw [hv]; exact State.exited_ctx hc
  have meas' : v.meas = s.meas := by rw [hv]; exact meas
  obtain ⟨engine', out', -, -, mode', yielded'⟩ := State.strokeBegun_fields v c.nextIndex
  have rise : (v.strokeBegun c.nextIndex).share.rise.state = .none := by
    rw [hv]
    simp [State.strokeBegun, Rise.ended]
  rw [entered, ← hv, State.enterUpset_stroke ctx hn current]
  refine ⟨_, State.strokeBegun_ctx ctx c.nextIndex, engine', mode', yielded', rise, rfl, rfl, rfl, ?_, ?_, ?_⟩
  · rw [meas']
    rfl
  · rw [meas']
    rfl
  · show ({ (v.strokeBegun c.nextIndex).out with velocity := (q.speed : Int), force := q.fu * 10 } : Outputs) = _
    rw [out', hv]
    show ({ s.exited.out with
      step := if s.yielded then r.step else s.out.step, velocity := (q.speed : Int), force := q.fu * 10 } : Outputs) = _
    rw [out]

end exit

/-- While the rise waits: ADMIT LOST past the allowance, and the record goes on within it (R8, R78). -/
theorem waitingRiseMayBeLost {c : WeldCtx} {r : FlashRec} (he : s.engine = .flash) (hm : s.mode = .regulating)
    (hc : s.ctx = some c) (hr : c.flash? = some r) (hp : c.contactPending = false) (ha : c.abortTarget = none)
    (waits : s.awaiting = true) (met : c.exitMet = true) :
    ∃ c', s.evalFlash.ctx = some c' ∧ s.evalFlash.engine = .flash
      ∧ ((c.target : Int) + (c.prog.overrun : Int) < c.burnOff → s.evalFlash.mode = .retracting
        ∧ s.evalFlash.awaiting = false ∧ s.evalFlash.share.rise.state = .none ∧ s.evalFlash.yielded = false
        ∧ c'.abortTarget = some (s.meas.position - s.image.abortDistance)
        ∧ c'.reasons = (c.addReason .admitLost).reasons ∧ c'.ending = some (c.ending.getD .admitLost)
        ∧ s.evalFlash.out = { s.out with contactor := false, velocity := -(s.image.vRetractMax : Int) })
      ∧ (c.burnOff ≤ (c.target : Int) + (c.prog.overrun : Int) → s.evalFlash.mode = .regulating
        ∧ s.evalFlash.awaiting = true ∧ s.evalFlash.share = s.share ∧ c'.abortTarget = none ∧ c'.phase = c.phase
        ∧ c'.reasons = c.reasons ∧ c'.ending = c.ending ∧ c'.latches = c.latches
        ∧ s.evalFlash.out.contactor = s.out.contactor) := by
  by_cases past : (c.target : Int) + (c.prog.overrun : Int) < c.burnOff
  · have lost : s.testFlash = s.endCause .admitLost none := by
      have overrun : c.overrun = true := by
        refine decide_eq_true ?_
        rw [Nat.cast_add]
        exact past
      unfold State.testFlash
      rw [hc]
      dsimp only
      rw [if_pos (by simp [waits, met]), if_pos overrun]
    obtain ⟨ctx, engine, mode, awaiting, yielded, rise, out⟩ := State.endCause_retract (.inr he) hc ha .admitLost none
    rw [WeldCtx.retreating_eq] at ctx
    have left : s.testFlash.stillFlash = false := by
      rw [lost, State.stillFlash, State.aborting, ctx]
      simp [WeldCtx.aborting]
    rw [State.evalFlash_left hc hr hm left, lost]
    refine ⟨_, ctx, engine.trans he, fun _ => ⟨mode, awaiting, congrArg Rise.state rise, yielded, rfl, rfl, rfl, out⟩,
      fun within => ?_⟩
    omega
  · have within : c.burnOff ≤ (c.target : Int) + (c.prog.overrun : Int) := by omega
    have calm : s.testFlash = s := State.testFlash_calm hc (fun _ _ => WeldCtx.overrun_of_le within) (.inl met)
    rw [State.evalFlash_regulating he hm hc hr hp ha calm]
    exact ⟨_, rfl, he, fun h => absurd h past, fun _ => ⟨hm, waits, rfl, ha, rfl, rfl, rfl, rfl, rfl⟩⟩

/-- Settles O28: the counts, the law, the contact, the exit with each record that may follow, and the rise that waits. -/
theorem speedLawSetsTheVelocity : Obligations.SpeedLawSetsTheVelocity := by
  have calm : ∀ {s : State} {c : WeldCtx}, s.ctx = some c → s.mode = .regulating → s.awaiting = false →
      c.burnOff < (c.target : Int) → s.testFlash = s := fun hc hm free short => by
    refine State.testFlash_calm hc (fun waits => ?_) (.inr ?_)
    · rw [free] at waits
      exact nomatch waits
    · rw [State.exitBurn_of_mode (by rw [hm]; decide)]
      exact short
  refine ⟨countsBeforeTheLaw, fun s c r he hm hc hr hp ha free short => ?_, fun s c r he hc hr hp ha free short hm =>
    contactIsTaken he hc hr hp ha hm (calm hc hm free short), ?_, fun s c r he hm hc hr hp ha waits met =>
    waitingRiseMayBeLost he hm hc hr hp ha waits met⟩
  · rw [State.evalFlash_regulating he hm hc hr hp ha (calm hc hm free short)]
    exact lawSpeed_eq hr
  · intro s c r next claim cls latches he hm hc hr hp ha free unmet reached hn flash zero hl
    have exits : s.testFlash = s.flashExit := State.testFlash_exits hc free unmet (by
      rw [State.exitBurn_of_mode (by rw [hm]; decide)]
      exact reached)
    rw [hl]
    by_cases high : s.presentLoad < (c.moveClaim s.image.standby).1
    · obtain ⟨load, rank, hk⟩ : ∃ load rank, c.moveClaim s.image.standby = (load, rank) := ⟨_, _, rfl⟩
      obtain ⟨c', ctx, engine, mode, awaiting, met, latched, phase, ask, wait, state⟩ :=
        exitAsksARise hm hc hr he hp ha exits hk (by rw [hk] at high; exact high)
      have low : ∀ {load n : Nat}, c.moveClaim s.image.standby = (load, n) → ¬ load ≤ s.presentLoad := fun h => by
        rw [h] at high
        exact Nat.not_le.2 high
      refine ⟨c', ctx, fun listed _ => ?_, fun q hq le => ?_, fun b hb le => ?_, fun q hq _ le => ?_⟩
      · have claimed : c.moveClaim s.image.standby = (claim, cls) := by
          cases next with
          | flash q => rw [WeldCtx.moveClaim_flash hn, (flash q rfl).1, (flash q rfl).2]
          | boost b => rw [WeldCtx.moveClaim_zero hn (.inl rfl), (zero (.inl rfl)).1, (zero (.inl rfl)).2]
          | upset b => rw [WeldCtx.moveClaim_zero hn (.inr rfl), (zero (.inr rfl)).1, (zero (.inr rfl)).2]
          | _ => simp [RecBody.kind] at listed
        obtain ⟨rfl, rfl⟩ := Prod.mk.inj (hk.symm.trans claimed)
        exact ⟨engine, mode, awaiting, met, latched, phase, ask, wait, state⟩
      · subst hq
        exact absurd ((flash q rfl).1 ▸ le) (low (WeldCtx.moveClaim_flash hn _))
      · subst hb
        exact absurd ((zero (.inl rfl)).1 ▸ le) (low (WeldCtx.moveClaim_zero hn (.inl rfl) _))
      · subst hq
        exact absurd ((zero (.inr rfl)).1 ▸ le) (low (WeldCtx.moveClaim_zero hn (.inr rfl) _))
    · have le : ∀ {load n : Nat}, c.moveClaim s.image.standby = (load, n) → load ≤ s.presentLoad := fun h => by
        rw [h] at high
        exact Nat.not_lt.1 high
      cases next with
      | flash q =>
        have low := le (WeldCtx.moveClaim_flash hn _)
        obtain ⟨c', ctx, engine, mode, awaiting, rest⟩ := exitEntersFlash hm hc hr hp ha exits hn low
        refine ⟨c', ctx, fun _ above => ?_, fun q' hq _ => ?_, nofun, nofun⟩
        · rw [(flash q rfl).1] at above
          omega
        · cases hq
          exact ⟨engine, mode, awaiting.trans free, rest⟩
      | boost b =>
        have low := le (WeldCtx.moveClaim_zero hn (.inl rfl) _)
        obtain ⟨c', ctx, rest⟩ := exitEntersBoost hm hc hr exits hn low
        refine ⟨c', ctx, fun _ above => ?_, nofun, fun b' hb _ => ?_, nofun⟩
        · rw [(zero (.inl rfl)).1] at above
          omega
        · cases hb
          exact rest
      | upset q =>
        have low := le (WeldCtx.moveClaim_zero hn (.inr rfl) _)
        by_cases current : 0 < q.tuc
        · obtain ⟨c', ctx, rest⟩ := exitEntersStroke hm hc hr exits hn current low
          refine ⟨c', ctx, fun _ above => ?_, nofun, nofun, fun q' hq _ _ => ?_⟩
          · rw [(zero (.inr rfl)).1] at above
            omega
          · cases hq
            exact rest
        · have kind := Programme.kindAt_of_body hn
          obtain ⟨⟨c', ctx⟩, -⟩ := exitEntersUpset hm hc hr exits (by rw [kind]; simp [RecBody.kind])
            (by rw [kind]; simp [RecBody.kind]) (Nat.not_lt.1 high)
          refine ⟨c', ctx, fun _ above => ?_, nofun, nofun, fun q' hq h _ => ?_⟩
          · rw [(zero (.inr rfl)).1] at above
            omega
          · cases hq
            exact absurd h current
      | _ =>
        have kind := Programme.kindAt_of_body hn
        obtain ⟨⟨c', ctx⟩, -⟩ := exitEntersUpset hm hc hr exits (by rw [kind]; simp [RecBody.kind])
          (by rw [kind]; simp [RecBody.kind]) (Nat.not_lt.1 high)
        exact ⟨c', ctx, fun listed => by simp [RecBody.kind] at listed, nofun, nofun, nofun⟩

end
end Sys2Proof.Machine

/-! PROOFS. The settle expiry and the admission of a rise (R6, R65, R79, R118, R120, R132, R134): O35. -/

namespace Sys2Proof.Machine

section
variable {s t u : State}

/-! ### The settle expiry (R118) -/

/-- The state at the settle expiry, in which the rise waits. -/
def State.settled (s : State) : State :=
  { s with share := { s.share with rise :=
    { s.share.rise with state := .waiting, settle := ⟨false, s.share.rise.settle.ms⟩ } } }

/-- The state in which an admitted rise is no longer pending. -/
def State.riseTaken (s : State) : State :=
  { s.settled with share := { s.settled.share with rise := s.settled.share.rise.ended } }

theorem State.settleExpires_eq {a : Ask} (h : s.share.rise.ask = some a) :
    s.settleExpires = if s.admissionMet a.claim a.cls then s.settled.admitRise a else s.settled := by
  unfold State.settleExpires
  rw [h]
  rfl

theorem State.settleEvent_eq {a : Ask} (settling : s.share.rise.state = .settling) (h : s.share.rise.ask = some a)
    (time : 120 ≤ s.share.rise.settle.ms) :
    s.settleEvent = (if s.admissionMet a.claim a.cls then s.settled.admitRise a else s.settled).declare := by
  have due : s.settleDue = true := by
    rw [State.settleDue, settling]
    simp [Config.settleMs, time]
  rw [← State.settleExpires_eq h]
  exact State.event_of_due s due _

theorem State.admitRise_sequencer {a : Ask} (h : a.source = .sequencer) :
    s.settled.admitRise a = s.riseTaken.sequencerAdmitted (a.claim, a.cls) := by
  unfold State.admitRise
  rw [h]
  rfl

theorem State.admitRise_resume {a : Ask} (h : a.source = .resume) :
    s.settled.admitRise a = if s.riseTaken.yieldLimitDue then s.riseTaken.yieldLimited else s.riseTaken.resumeAdmitted := by
  unfold State.admitRise
  rw [h]
  rfl

/-! ### The entry at the boundary (R6, R65, R79) -/

/-- The state in which the next record is entered: no admission is awaited any more. -/
def State.unawaited (s : State) : State := { s.riseTaken with awaiting := false }

/-- The same in ADMITTING, with current begun (R6). -/
def State.current (s : State) (c : WeldCtx) : State := { s.unawaited with ctx := some { c with currentBegun := true } }

/-- The admission of the Sequencer's rise, by the engine state it finds (R6, R65, R79). -/
theorem State.sequencerAdmitted_eq {c : WeldCtx} (hc : s.ctx = some c) (claim : Nat × Nat) :
    s.riseTaken.sequencerAdmitted claim = match s.engine with
      | .admitting =>
        match c.prog.firstCurrent with
        | none => s.current c
        | some i => if c.prog.kindAt i = some .preheat then (s.current c).enterPreheat i else (s.current c).enterFlash i
      | .preheat => s.unawaited.enterFlash c.nextIndex
      | .flash => s.unawaited.leaveFlash (some claim)
      | .starting | .configFault | .ready | .clamping | .pulling | .boost | .upset | .hold | .trim | .releasing
      | .faultHold => s.unawaited := by
  have ctx : s.unawaited.ctx = some c := hc
  have begun : (s.unawaited.onCtx fun c => { c with currentBegun := true }) = s.current c := by
    rw [State.onCtx, ctx]
    rfl
  have matched : s.riseTaken.sequencerAdmitted claim = match s.unawaited.ctx with
      | none => s.unawaited
      | some c =>
        match s.engine with
        | .admitting =>
          match c.prog.firstCurrent with
          | none => s.unawaited.onCtx fun c => { c with currentBegun := true }
          | some i =>
            if c.prog.kindAt i = some .preheat then (s.unawaited.onCtx fun c => { c with currentBegun := true }).enterPreheat i
            else (s.unawaited.onCtx fun c => { c with currentBegun := true }).enterFlash i
        | .preheat => s.unawaited.enterFlash c.nextIndex
        | .flash => s.unawaited.leaveFlash (some claim)
        | .starting | .configFault | .ready | .clamping | .pulling | .boost | .upset | .hold | .trim | .releasing
        | .faultHold => s.unawaited := rfl
  rw [matched, begun, ctx]

theorem State.sequencerAdmitted_first {c : WeldCtx} {i : Nat} (he : s.engine = .admitting) (hc : s.ctx = some c)
    (hi : c.prog.firstCurrent = some i) (claim : Nat × Nat) :
    s.riseTaken.sequencerAdmitted claim
      = if c.prog.kindAt i = some .preheat then (s.current c).enterPreheat i else (s.current c).enterFlash i := by
  rw [State.sequencerAdmitted_eq hc, he]
  dsimp only
  rw [hi]

theorem State.sequencerAdmitted_preheat {c : WeldCtx} (he : s.engine = .preheat) (hc : s.ctx = some c)
    (claim : Nat × Nat) : s.riseTaken.sequencerAdmitted claim = s.unawaited.enterFlash c.nextIndex := by
  rw [State.sequencerAdmitted_eq hc, he]

theorem State.sequencerAdmitted_flash {c : WeldCtx} (he : s.engine = .flash) (hc : s.ctx = some c)
    (claim : Nat × Nat) : s.riseTaken.sequencerAdmitted claim = s.unawaited.leaveFlash (some claim) := by
  rw [State.sequencerAdmitted_eq hc, he]

/-- The entry to PREHEAT with the flag clear (R63, R64). -/
theorem State.enterPreheat_spec {c : WeldCtx} {r : PreheatRec} {i : Nat} (hc : s.ctx = some c)
    (hb : c.prog.body i = some (.preheat r)) (hy : s.yielded = false) :
    (s.enterPreheat i).ctx = some { c.entered .preheat i s.yielded with
        sub := some .approach, subTimer := 0, drawTarget := none }
      ∧ (s.enterPreheat i).engine = .preheat ∧ (s.enterPreheat i).awaiting = s.awaiting
      ∧ (s.enterPreheat i).yielded = false ∧ (s.enterPreheat i).share = { s.share with hold := none }
      ∧ (s.enterPreheat i).out = { s.out with
          contactor := true, step := r.step, velocity := r.approach, force := r.contactForce * 10 } := by
  obtain ⟨v, hv⟩ : ∃ v, v = s.enterRecord .preheat i := ⟨_, rfl⟩
  have ctx : v.ctx = some (c.entered .preheat i s.yielded) := by rw [hv]; exact State.enterRecord_entered hc .preheat i
  have record : (c.entered .preheat i s.yielded).preheat? = some r := by
    show ((some i).bind c.prog.body).bind RecBody.asPreheat = some r
    rw [Option.bind_some, hb]
    rfl
  obtain ⟨engine, awaiting, yielded, share, out⟩ : v.engine = .preheat ∧ v.awaiting = s.awaiting ∧ v.yielded = false
      ∧ v.share = s.share ∧ v.out = s.out := by
    rw [hv]
    simp [State.enterRecord_yielded, hy]
  obtain ⟨w, hw⟩ : ∃ w, w = (v.setStep r.step).setForce (r.contactForce * 10) := ⟨_, rfl⟩
  have ctx' : w.ctx = some (c.entered .preheat i s.yielded) := by rw [hw]; exact ctx
  have flag : w.yielded = false := by rw [hw]; exact yielded
  have bound : v.ctx.bind WeldCtx.preheat? = some r := by rw [ctx]; exact record
  have entered : s.enterPreheat i = w.enterApproach := by
    unfold State.enterPreheat
    rw [← hv]
    dsimp only
    rw [bound, hw]
  rw [entered, State.enterApproach_eq ctx' record flag]
  refine ⟨rfl, ?_, ?_, flag, ?_, ?_⟩
  · show w.engine = _
    rw [hw]
    exact engine
  · show w.awaiting = _
    rw [hw]
    exact awaiting
  · show ({ w.share with hold := none } : Share) = _
    rw [hw]
    show ({ v.share with hold := none } : Share) = _
    rw [share]
  · show ({ w.out with contactor := true, velocity := (r.approach : Int) } : Outputs) = _
    rw [hw]
    show ({ v.out with
      contactor := true, step := r.step, velocity := (r.approach : Int), force := r.contactForce * 10 } : Outputs) = _
    rw [out]

/-- The load declared in PREHEAT, with no held load and the flag clear (R103). -/
theorem State.present_preheat {c : WeldCtx} {r : PreheatRec} (he : s.engine = .preheat) (hc : s.ctx = some c)
    (hr : c.preheat? = some r) (ha : c.abortTarget = none) (hold : s.share.hold = none) (hy : s.yielded = false) :
    s.ownDecl.present = r.load := by
  show s.share.hold.getD s.tableLoad = _
  rw [hold, State.tableLoad, hc, he]
  simp [WeldCtx.aborting, ha, hr, hy]

/-- The load declared in BOOST, with no held load (R103). -/
theorem State.present_boost {c : WeldCtx} (he : s.engine = .boost) (hc : s.ctx = some c) (hold : s.share.hold = none) :
    s.ownDecl.present = c.prog.classZero := by
  show s.share.hold.getD s.tableLoad = _
  rw [hold, State.tableLoad, hc, he]
  rfl

/-- A move to BOOST or UPSET in a short retraction waits, and its claim is kept (R79, R120). -/
theorem State.leaveFlash_waits {c : WeldCtx} (hc : s.ctx = some c) (hk : c.prog.kindAt c.nextIndex ≠ some .flash)
    (hm : s.mode = .retracting) (claim : Option (Nat × Nat)) :
    s.leaveFlash claim = { s with ctx := some { c with moveDue := true }, share := { s.share with admitted := claim } } := by
  have waits : s.leaveFlash claim
      = { s.onCtx fun c => { c with moveDue := true } with share := { s.share with admitted := claim } } := by
    unfold State.leaveFlash
    rw [hc]
    dsimp only
    rw [if_neg hk, if_pos hm]
  rw [waits, State.onCtx, hc]
  rfl

/-! ### The admission of a RESUME rise (R134) -/

/-- A weld context resumed at a position. -/
def WeldCtx.resumed (c : WeldCtx) (p : Int) : WeldCtx :=
  { c.latched .resume p with
    sinceResume := some 0, minrunBar := true, pause := none, restartDue := false, guard := none }

theorem State.resumeAdmitted_flash {c : WeldCtx} {r : FlashRec} (hc : s.ctx = some c) (hr : c.flash? = some r)
    (listed : c.lists .resume = true) :
    s.resumeAdmitted.ctx = some (c.resumed s.meas.intervalPos) ∧ s.resumeAdmitted.engine = s.engine
      ∧ s.resumeAdmitted.yielded = false ∧ s.resumeAdmitted.share = s.share
      ∧ s.resumeAdmitted.out = { s.out with step := r.step } := by
  obtain ⟨v, hv⟩ : ∃ v, v = ({ s with yielded := false }.latch .resume s.meas.intervalPos).onCtx fun c =>
      { c with sinceResume := some 0, minrunBar := true, pause := none, restartDue := false, guard := none } := ⟨_, rfl⟩
  have ctx : v.ctx = some (c.resumed s.meas.intervalPos) := by
    have latched := State.latch_listed (s := { s with yielded := false }) hc listed s.meas.intervalPos
    rw [hv, State.onCtx_ctx, latched]
    rfl
  have record : v.ctx.bind WeldCtx.flash? = some r := by rw [ctx]; exact hr
  have resumed : s.resumeAdmitted = v.setStep r.step := by
    have matched : s.resumeAdmitted = v.regulatorResumes := by rw [hv]; rfl
    rw [matched, State.regulatorResumes, record]
  obtain ⟨engine, yielded, share, out⟩ : v.engine = s.engine ∧ v.yielded = false ∧ v.share = s.share ∧ v.out = s.out := by
    rw [hv]
    simp
  rw [resumed]
  refine ⟨ctx, engine, yielded, share, ?_⟩
  show ({ v.out with step := r.step } : Outputs) = _
  rw [out]

/-! ### O35 -/

section row
variable {a : Ask} (settling : s.share.rise.state = .settling) (ask : s.share.rise.ask = some a)
  (time : 120 ≤ s.share.rise.settle.ms)
include settling ask time

theorem State.settleEvent_sequencer (met : s.admissionMet a.claim a.cls = true) (source : a.source = .sequencer) :
    s.settleEvent = (s.riseTaken.sequencerAdmitted (a.claim, a.cls)).declare := by
  rw [State.settleEvent_eq settling ask time, met, if_pos rfl, State.admitRise_sequencer source]

/-- In ADMITTING the first current phase is a PREHEAT record (R6). -/
theorem admissionEntersPreheat {c : WeldCtx} {i : Nat} {r : PreheatRec} (met : s.admissionMet a.claim a.cls = true)
    (source : a.source = .sequencer) (he : s.engine = .admitting) (hy : s.yielded = false) (hc : s.ctx = some c)
    (ha : c.abortTarget = none) (hi : c.prog.firstCurrent = some i) (hb : c.prog.body i = some (.preheat r)) :
    ∃ t c', exec .settleExpiry s = .next t ∧ t.engine = .preheat ∧ t.awaiting = false ∧ t.ctx = some c'
      ∧ c'.phase = some i ∧ c'.phaseTimer = 0 ∧ c'.currentBegun = true ∧ c'.sub = some .approach
      ∧ t.share.rise.state = .none ∧ t.share.decl.present = r.load
      ∧ t.out = { s.out with
          contactor := true, step := r.step, velocity := r.approach, force := r.contactForce * 10 } := by
  obtain ⟨ctx, engine, awaiting, yielded, share, out⟩ := State.enterPreheat_spec (s := s.current c) rfl hb hy
  have record : ({ WeldCtx.entered { c with currentBegun := true } .preheat i s.yielded with
      sub := some .approach, subTimer := 0, drawTarget := none } : WeldCtx).preheat? = some r := by
    show ((some i).bind c.prog.body).bind RecBody.asPreheat = some r
    rw [Option.bind_some, hb]
    rfl
  have kind : c.prog.kindAt i = some .preheat := Programme.kindAt_of_body hb
  have present := State.present_preheat engine ctx record ha (by rw [share]) yielded
  refine ⟨s.settleEvent, { WeldCtx.entered { c with currentBegun := true } .preheat i s.yielded with
      sub := some .approach, subTimer := 0, drawTarget := none }, rfl, ?_⟩
  rw [State.settleEvent_sequencer settling ask time met source, State.sequencerAdmitted_first he hc hi,
    if_pos kind, State.declare_engine, State.declare_awaiting, State.declare_ctx,
    State.declare_share_rise, State.declare_decl, State.declare_out, present, share, out]
  exact ⟨engine, awaiting, ctx, rfl, rfl, rfl, rfl, rfl, rfl, rfl⟩

/-- In ADMITTING the first current phase is a FLASH record (R6, R67). -/
theorem admissionEntersFlash {c : WeldCtx} {i : Nat} {r : FlashRec} (met : s.admissionMet a.claim a.cls = true)
    (source : a.source = .sequencer) (he : s.engine = .admitting) (hy : s.yielded = false) (hc : s.ctx = some c)
    (ha : c.abortTarget = none) (hi : c.prog.firstCurrent = some i) (hb : c.prog.body i = some (.flash r)) :
    ∃ t c', exec .settleExpiry s = .next t ∧ t.engine = .flash ∧ t.mode = .regulating ∧ t.awaiting = false
      ∧ t.ctx = some c' ∧ c'.phase = some i ∧ c'.phaseTimer = 0 ∧ c'.currentBegun = true ∧ c'.contactPending = true
      ∧ c'.firstFlash = some c.weldTime ∧ t.share.rise.state = .none ∧ t.share.decl.present = r.load
      ∧ t.out = { s.out with
          contactor := true, step := r.step, velocity := r.approach, force := s.image.fMax * 10 } := by
  obtain ⟨engine, yielded, awaiting, rise, hold, -, -, first, -⟩ := State.enterFlash_spec (s := s.current c) rfl hb
  obtain ⟨ctx, mode, out⟩ := first (Programme.firstFlashAt_of_current hi hb)
  have record : (WeldCtx.firstFlashing { c with currentBegun := true } i).flash? = some r := WeldCtx.flash_of_body rfl hb
  have present := State.present_flash engine ctx record ha hold (yielded.trans hy)
  refine ⟨s.settleEvent, WeldCtx.firstFlashing { c with currentBegun := true } i, rfl, ?_⟩
  rw [State.settleEvent_sequencer settling ask time met source, State.sequencerAdmitted_first he hc hi,
    if_neg (by rw [Programme.kindAt_of_body hb]; simp [RecBody.kind]), State.declare_engine, State.declare_mode,
    State.declare_awaiting, State.declare_ctx, State.declare_share_rise, State.declare_decl, State.declare_out, present]
  refine ⟨engine, mode, awaiting, ctx, rfl, rfl, rfl, rfl, rfl, rise, rfl, out.trans ?_⟩
  have flag : (s.current c).yielded = false := hy
  rw [flag]
  rfl

/-- Out of PREHEAT the first FLASH record is entered (R65). -/
theorem admissionLeavesPreheat {c : WeldCtx} {r : FlashRec} (met : s.admissionMet a.claim a.cls = true)
    (source : a.source = .sequencer) (he : s.engine = .preheat) (hc : s.ctx = some c)
    (hb : c.prog.body c.nextIndex = some (.flash r)) (first : c.prog.find .flash = some c.nextIndex) :
    ∃ t c', exec .settleExpiry s = .next t ∧ t.engine = .flash ∧ t.mode = .regulating ∧ t.awaiting = false
      ∧ t.ctx = some c' ∧ c'.phase = some c.nextIndex ∧ c'.phaseTimer = 0 ∧ c'.sub = none
      ∧ c'.counted = c.counted ∧ c'.extra = c.extra ∧ c'.contactPending = true ∧ c'.firstFlash = some c.weldTime
      ∧ t.share.rise.state = .none ∧ t.yielded = s.yielded
      ∧ t.out = { s.out with
          contactor := true, step := if s.yielded then r.reducedStep else r.step, velocity := r.approach
          force := s.image.fMax * 10 } := by
  obtain ⟨engine, yielded, awaiting, rise, -, -, -, firstOne, -⟩ :=
    State.enterFlash_spec (s := s.unawaited) (c := c) (i := c.nextIndex) hc hb
  obtain ⟨ctx, mode, out⟩ := firstOne (decide_eq_true first)
  refine ⟨s.settleEvent, c.firstFlashing c.nextIndex, rfl, ?_⟩
  rw [State.settleEvent_sequencer settling ask time met source, State.sequencerAdmitted_preheat he hc,
    State.declare_engine, State.declare_mode, State.declare_awaiting, State.declare_ctx, State.declare_share_rise,
    State.declare_yielded, State.declare_out]
  exact ⟨engine, mode, awaiting, ctx, rfl, rfl, rfl, rfl, rfl, rfl, rfl, rise, yielded, out⟩

/-- Out of a FLASH record: the next one, BOOST, or the move that waits (R79, R80, R120). -/
theorem admissionLeavesFlash {c : WeldCtx} {q : FlashRec} (met : s.admissionMet a.claim a.cls = true)
    (source : a.source = .sequencer) (he : s.engine = .flash) (hc : s.ctx = some c) (hq : c.flash? = some q) :
    (∀ r, c.prog.body c.nextIndex = some (.flash r) →
      ∃ t c', exec .settleExpiry s = .next t ∧ t.engine = .flash ∧ t.mode = s.mode ∧ t.awaiting = false
        ∧ t.ctx = some c' ∧ c'.phase = some c.nextIndex ∧ c'.phaseTimer = 0 ∧ c'.retract = c.retract
        ∧ c'.openRun = c.openRun ∧ c'.burnOff = c.burnOff ∧ t.share.rise.state = .none
        ∧ t.out = { s.out with
            contactor := true, step := if s.yielded then r.reducedStep else r.step, force := s.image.fMax * 10 })
    ∧ (∀ b, c.prog.body c.nextIndex = some (.boost b) → s.mode ≠ .retracting →
      ∃ t c', exec .settleExpiry s = .next t ∧ t.engine = .boost ∧ t.mode = .idle ∧ t.awaiting = false
        ∧ t.yielded = false ∧ t.ctx = some c' ∧ c'.phase = some c.nextIndex ∧ c'.phaseTimer = 0
        ∧ c'.boostEntry = some c.burnOff ∧ t.share.rise.state = .none ∧ t.share.decl.rise = none
        ∧ t.share.decl.present = c.prog.classZero
        ∧ t.out = { s.out with
            contactor := true, step := b.step, velocity := b.speed, force := s.image.fMax * 10 })
    ∧ (∀ b, c.prog.body c.nextIndex = some (.boost b) → s.mode = .retracting →
      ∃ t c', exec .settleExpiry s = .next t ∧ t.engine = .flash ∧ t.mode = .retracting ∧ t.awaiting = false
        ∧ t.out = s.out ∧ t.ctx = some c' ∧ c'.phase = c.phase ∧ c'.moveDue = true ∧ c'.retract = c.retract
        ∧ t.share.rise.state = .none ∧ t.share.decl.claim = a.claim ∧ t.share.decl.rise = some a.cls) := by
  have taken : s.settleEvent = (s.unawaited.leaveFlash (some (a.claim, a.cls))).declare := by
    rw [State.settleEvent_sequencer settling ask time met source, State.sequencerAdmitted_flash he hc]
  have ctx0 : s.unawaited.ctx = some c := hc
  refine ⟨fun r hb => ?_, fun b hb hm => ?_, fun b hb hm => ?_⟩
  · have kind := Programme.kindAt_of_body hb
    obtain ⟨engine, -, awaiting, rise, -, -, -, -, later⟩ :=
      State.enterFlash_spec (s := s.unawaited) (c := c) (i := c.nextIndex) hc hb
    obtain ⟨ctx, mode, out⟩ := later (WeldCtx.next_not_first hq)
    have leaves : s.unawaited.leaveFlash (some (a.claim, a.cls)) = s.unawaited.enterFlash c.nextIndex := by
      unfold State.leaveFlash
      rw [ctx0]
      exact if_pos kind
    refine ⟨s.settleEvent, c.flashing c.nextIndex, rfl, ?_⟩
    rw [taken, leaves, State.declare_engine, State.declare_mode, State.declare_awaiting, State.declare_ctx,
      State.declare_share_rise, State.declare_out]
    exact ⟨engine, mode, awaiting, ctx, rfl, rfl, rfl, rfl, rfl, rise, out⟩
  · have kind := Programme.kindAt_of_body hb
    obtain ⟨ctx, engine, mode, yielded, awaiting, share, out⟩ := State.makeMove_boost ctx0 hb
    have present := State.present_boost engine ctx (by rw [share])
    refine ⟨s.settleEvent, c.boosting c.nextIndex s.mode s.yielded s.meas.position, rfl, ?_⟩
    rw [taken, State.leaveFlash_eq ctx0 hm, if_neg (by rw [kind]; simp [RecBody.kind]), State.declare_engine,
      State.declare_mode, State.declare_awaiting, State.declare_yielded, State.declare_ctx, State.declare_share_rise,
      State.declare_decl, State.declare_out]
    refine ⟨engine, mode, awaiting, yielded, ctx, rfl, rfl, rfl, by rw [share]; rfl, ?_,
      present, out⟩
    show s.unawaited.makeMove.share.announced.map Prod.snd = none
    rw [share]
    rfl
  · have kind := Programme.kindAt_of_body hb
    refine ⟨s.settleEvent, { c with moveDue := true }, rfl, ?_⟩
    rw [taken, State.leaveFlash_waits ctx0 (by rw [kind]; simp [RecBody.kind]) hm, State.declare_engine,
      State.declare_mode, State.declare_awaiting, State.declare_out, State.declare_ctx, State.declare_share_rise,
      State.declare_decl]
    exact ⟨he, hm, rfl, rfl, rfl, rfl, rfl, rfl, rfl, rfl, rfl⟩

end row

/-- Settles O35: the wait, each entry the admission makes, and the RESUME rise on either side of the yield limit. -/
theorem settleExpiryAdmitsOrWaits : Obligations.SettleExpiryAdmitsOrWaits := by
  intro s a settling ask time
  refine ⟨fun unmet => ⟨s.settleEvent, rfl, ?_⟩, fun c i r met source he hy hc ha hi hb =>
    admissionEntersPreheat settling ask time met source he hy hc ha hi hb, fun c i r met source he hy hc ha hi hb =>
    admissionEntersFlash settling ask time met source he hy hc ha hi hb, fun c r met source he hc _ hb first =>
    admissionLeavesPreheat settling ask time met source he hc hb first, fun c q met source he hc hq _ =>
    admissionLeavesFlash settling ask time met source he hc hq, fun c r met source he hc hr listed below => ?_,
    fun c met source he hc ha first set reached => ?_⟩
  · rw [State.settleEvent_eq settling ask time, unmet, if_neg Bool.false_ne_true]
    exact State.declare_declaredAs _
  all_goals
    have taken : s.settleEvent = (if s.riseTaken.yieldLimitDue then s.riseTaken.yieldLimited
        else s.riseTaken.resumeAdmitted).declare := by
      rw [State.settleEvent_eq settling ask time, met, if_pos rfl, State.admitRise_resume source]
  · have within : s.riseTaken.yieldLimitDue = false := by
      have ctx : s.riseTaken.ctx = some c := hc
      have early : decide (c.yieldLimitMs ≤ c.yieldTime) = false := decide_eq_false (Nat.not_le.2 below)
      rw [State.yieldLimitDue, ctx, Option.elim_some, early, Bool.and_false]
    obtain ⟨ctx, engine, yielded, share, out⟩ := State.resumeAdmitted_flash (s := s.riseTaken) hc hr listed
    refine ⟨s.settleEvent, c.resumed s.meas.intervalPos, rfl, ?_⟩
    rw [taken, within, if_neg Bool.false_ne_true, State.declare_engine, State.declare_yielded, State.declare_ctx,
      State.declare_share_rise, State.declare_out, share]
    exact ⟨engine.trans he, yielded, ctx, rfl, rfl, rfl, rfl, rfl, rfl, out⟩
  · have due : s.riseTaken.yieldLimitDue = true := State.yieldLimitDue_of (s := s.riseTaken) hc first set reached
    obtain ⟨c', ctx, engine, mode, -, rise, -, -, reasons, -, -, since⟩ :=
      State.yieldLimited_retract (s := s.riseTaken) he hc ha
    refine ⟨s.settleEvent, c', rfl, ?_⟩
    rw [taken, due, if_pos rfl, State.declare_engine, State.declare_mode, State.declare_ctx, State.declare_share_rise]
    exact ⟨engine, mode, ctx, reasons, since, rise⟩

end
end Sys2Proof.Machine

/-! PROOFS. The orders of a programme's records: the walk of check 4 against the listed orders (R30). -/

namespace Sys2Proof.Machine

/-! ### The walk as an automaton -/

/-- The walk over kinds from a last kind and a number of FLASH records: where it ends, if every kind may stand. -/
def kindWalk : Option RecKind → Nat → List RecKind → Option (Option RecKind × Nat)
  | last, n, [] => some (last, n)
  | last, n, k :: rest => if mayFollow last n k then kindWalk (some k) (if k = .flash then n + 1 else n) rest else none

theorem kindWalk_cons {last : Option RecKind} {n : Nat} {k : RecKind} {rest : List RecKind} (h : mayFollow last n k = true) :
    kindWalk last n (k :: rest) = kindWalk (some k) (if k = .flash then n + 1 else n) rest := by
  rw [kindWalk, if_pos h]

/-- A walk over two lists is the walk over the second from where the first one ends. -/
theorem kindWalk_append (last : Option RecKind) (n : Nat) (ks ls : List RecKind) :
    kindWalk last n (ks ++ ls) = (kindWalk last n ks).bind fun x => kindWalk x.1 x.2 ls := by
  induction ks generalizing last n with
  | nil => rfl
  | cons k ks ih =>
    rw [List.cons_append, kindWalk, kindWalk]
    split
    · exact ih _ _
    · rfl

/-- Nothing stands after RELEASE (R30). -/
theorem not_mayFollow_release (n : Nat) (k : RecKind) : mayFollow (some .release) n k = false := rfl

/-- What may follow does not follow RELEASE. -/
theorem last_of_mayFollow {last : Option RecKind} {n : Nat} {k : RecKind} (h : mayFollow last n k = true) :
    last ≠ some .release := by
  rintro rfl
  rw [not_mayFollow_release] at h
  exact nomatch h

/-! ### The walk of check 4 by the automaton -/

theorem orderScan_of_walk {last last' : Option RecKind} {n n' : Nat} {ks : List RecKind}
    (h : kindWalk last n ks = some (last', n')) (i : Nat) :
    orderScan last n i ks = (none, decide (last' = some .release)) := by
  induction ks generalizing last n i with
  | nil =>
    obtain ⟨rfl, rfl⟩ := Prod.mk.inj (Option.some.inj h)
    rfl
  | cons k ks ih =>
    by_cases follows : mayFollow last n k = true
    · rw [kindWalk_cons follows] at h
      rw [orderScan, if_neg (last_of_mayFollow follows), if_pos follows]
      exact ih h _
    · rw [kindWalk, if_neg follows] at h
      exact nomatch h

/-- Where the walk over a head of the list ends, check 4 goes on with the rest. -/
theorem orderScan_append {last last' : Option RecKind} {n n' : Nat} {ks : List RecKind}
    (h : kindWalk last n ks = some (last', n')) (i : Nat) (ls : List RecKind) :
    orderScan last n i (ks ++ ls) = orderScan last' n' (i + ks.length) ls := by
  induction ks generalizing last n i with
  | nil =>
    obtain ⟨rfl, rfl⟩ := Prod.mk.inj (Option.some.inj h)
    rfl
  | cons k ks ih =>
    by_cases follows : mayFollow last n k = true
    · rw [kindWalk_cons follows] at h
      rw [List.cons_append, orderScan, if_neg (last_of_mayFollow follows), if_pos follows, ih h, List.length_cons]
      congr 1
      omega
    · rw [kindWalk, if_neg follows] at h
      exact nomatch h

/-! ### The accepted lists are the orders of R30 -/

/-- Every kind. -/
def recKinds : List RecKind := [.clamp, .pull, .preheat, .flash, .boost, .upset, .hold, .trim, .release]

theorem mem_recKinds (k : RecKind) : k ∈ recKinds := by
  cases k <;> decide

/-- The most kinds that may still follow. -/
def kindsLeft : Option RecKind → Nat → Nat
  | none, _ => 11
  | some .clamp, _ => 10
  | some .pull, _ => 9
  | some .preheat, _ => 8
  | some .flash, n => 5 + (3 - n)
  | some .boost, _ => 4
  | some .upset, _ => 3
  | some .hold, _ => 2
  | some .trim, _ => 1
  | some .release, _ => 0

/-- The walk runs down: by the table of R30, case by case. -/
theorem kindsLeft_falls {last : Option RecKind} {n : Nat} {k : RecKind} (h : mayFollow last n k = true) :
    kindsLeft (some k) (if k = .flash then n + 1 else n) < kindsLeft last n := by
  rcases last with _ | last
  · obtain rfl : k = .clamp := by simpa [mayFollow] using h
    simp [kindsLeft]
  · cases last <;> cases k <;> simp_all [mayFollow, kindsLeft] <;> omega

theorem length_le_kindsLeft {last : Option RecKind} {n : Nat} {ks : List RecKind} (h : (kindWalk last n ks).isSome = true) :
    ks.length ≤ kindsLeft last n := by
  induction ks generalizing last n with
  | nil => exact Nat.zero_le _
  | cons k ks ih =>
    by_cases follows : mayFollow last n k = true
    · rw [kindWalk_cons follows] at h
      have falls := kindsLeft_falls follows
      have rest := ih h
      rw [List.length_cons]
      omega
    · rw [kindWalk, if_neg follows] at h
      exact nomatch h

/-- The lists of at most `fuel` kinds that end with RELEASE. -/
def orderTails : Nat → Option RecKind → Nat → List (List RecKind)
  | 0, last, _ => if last = some .release then [[]] else []
  | fuel + 1, last, n =>
    if last = some .release then [[]]
    else (recKinds.filter (mayFollow last n)).flatMap fun k =>
      (orderTails fuel (some k) (if k = .flash then n + 1 else n)).map (k :: ·)

theorem mem_orderTails {last : Option RecKind} {n n' fuel : Nat} {ks : List RecKind}
    (h : kindWalk last n ks = some (some .release, n')) (length : ks.length ≤ fuel) : ks ∈ orderTails fuel last n := by
  induction ks generalizing last n fuel with
  | nil =>
    obtain ⟨rfl, -⟩ := Prod.mk.inj (Option.some.inj h)
    cases fuel with
    | zero => exact List.mem_singleton.2 rfl
    | succ fuel => exact List.mem_singleton.2 rfl
  | cons k ks ih =>
    cases fuel with
    | zero => exact absurd length (by simp)
    | succ fuel =>
      by_cases follows : mayFollow last n k = true
      · rw [kindWalk_cons follows] at h
        rw [orderTails, if_neg (last_of_mayFollow follows), List.mem_flatMap]
        refine ⟨k, List.mem_filter.2 ⟨mem_recKinds k, follows⟩, List.mem_map.2 ⟨ks, ih h ?_, rfl⟩⟩
        rw [List.length_cons] at length
        omega
      · rw [kindWalk, if_neg follows] at h
        exact nomatch h

theorem isOrder_of_mem_orderTails : ∀ ks ∈ orderTails 11 none 0, isOrder ks = true := by
  decide +kernel

theorem walk_of_mem_recordOrders : ∀ ks ∈ recordOrders, (kindWalk none 0 ks).map Prod.fst = some (some .release) := by
  decide +kernel

/-- The listed orders are the lists whose walk ends with RELEASE. -/
theorem isOrder_iff (ks : List RecKind) : isOrder ks = true ↔ ∃ n, kindWalk none 0 ks = some (some .release, n) := by
  constructor
  · intro h
    have walked := walk_of_mem_recordOrders ks (List.contains_iff_mem.1 h)
    obtain ⟨⟨last, n⟩, walk, rfl⟩ := Option.map_eq_some_iff.1 walked
    exact ⟨n, walk⟩
  · rintro ⟨n, h⟩
    exact isOrder_of_mem_orderTails ks (mem_orderTails h (length_le_kindsLeft (last := none) (by rw [h]; rfl)))

/-- A list of kinds that completes a programme after a kind. -/
def orderEnd : Option RecKind → List RecKind
  | none => [.clamp, .flash, .upset, .hold, .release]
  | some .clamp | some .pull | some .preheat => [.flash, .upset, .hold, .release]
  | some .flash | some .boost => [.upset, .hold, .release]
  | some .upset => [.hold, .release]
  | some .hold | some .trim => [.release]
  | some .release => []

theorem kindWalk_orderEnd (last : Option RecKind) (n : Nat) : ∃ n', kindWalk last n (orderEnd last) = some (some .release, n') := by
  rcases last with _ | last
  · exact ⟨n + 1, by simp [orderEnd, kindWalk, mayFollow]⟩
  · cases last <;> exact ⟨_, by simp [orderEnd, kindWalk, mayFollow]; rfl⟩

/-- The heads of the listed orders are the lists whose walk does not stop. -/
theorem mayStand_iff (ks : List RecKind) : mayStand ks = true ↔ (kindWalk none 0 ks).isSome = true := by
  rw [mayStand, List.any_eq_true]
  constructor
  · rintro ⟨l, listed, head⟩
    obtain ⟨rest, rfl⟩ : ks <+: l := by simpa using head
    have walked := walk_of_mem_recordOrders _ listed
    rw [kindWalk_append] at walked
    cases h : kindWalk none 0 ks with
    | none => simp [h] at walked
    | some x => rfl
  · intro h
    obtain ⟨⟨last, n⟩, walk⟩ := Option.isSome_iff_exists.1 h
    obtain ⟨n', ends⟩ := kindWalk_orderEnd last n
    have whole : isOrder (ks ++ orderEnd last) = true := (isOrder_iff _).2 ⟨n', by
      rw [kindWalk_append, walk]
      exact ends⟩
    exact ⟨ks ++ orderEnd last, List.contains_iff_mem.1 whole, by simp⟩

/-! ### Check 4 (R30) -/

/-- A list as its head of `i` kinds, the kind at `i`, and the rest. -/
theorem take_cons_drop {ks : List RecKind} {i : Nat} (h : i < ks.length) :
    ks = ks.take i ++ ks[i] :: ks.drop (i + 1) := by
  rw [← List.drop_eq_getElem_cons h, List.take_append_drop]

/-- The first record that cannot stand is named. -/
theorem orderScan_names {ks : List RecKind} {i : Nat} (hi : i < ks.length) (stands : mayStand (ks.take i) = true)
    (stops : mayStand (ks.take (i + 1)) = false) (short : isOrder (ks.take i) = false) :
    orderScan none 0 0 ks = (some i, false) := by
  obtain ⟨⟨last, n⟩, walk⟩ := Option.isSome_iff_exists.1 ((mayStand_iff _).1 stands)
  have other : last ≠ some .release := by
    rintro rfl
    rw [(isOrder_iff _).2 ⟨n, walk⟩] at short
    exact nomatch short
  have barred : ¬ mayFollow last n ks[i] = true := fun follows => by
    have next : (kindWalk none 0 (ks.take (i + 1))).isSome = true := by
      rw [← List.take_append_getElem hi, kindWalk_append, walk]
      show (kindWalk last n [ks[i]]).isSome = true
      rw [kindWalk_cons follows]
      rfl
    rw [(mayStand_iff _).2 next] at stops
    exact nomatch stops
  have length : (ks.take i).length = i := List.length_take_of_le (Nat.le_of_lt hi)
  rw [take_cons_drop hi, orderScan_append walk, orderScan, if_neg other, if_neg barred, length, Nat.zero_add]

/-- Where every head may stand, check 4 tells whether the whole is an order. -/
theorem orderScan_stands {ks : List RecKind} (stands : mayStand ks = true) :
    orderScan none 0 0 ks = (none, isOrder ks) := by
  obtain ⟨⟨last, n⟩, walk⟩ := Option.isSome_iff_exists.1 ((mayStand_iff _).1 stands)
  rw [orderScan_of_walk walk]
  congr 1
  rw [Bool.eq_iff_iff, isOrder_iff, decide_eq_true_eq, walk]
  simp

/-- A record after RELEASE has no index. -/
theorem orderScan_past {ks : List RecKind} {i : Nat} (hi : i < ks.length) (whole : isOrder (ks.take i) = true) :
    orderScan none 0 0 ks = (none, false) := by
  obtain ⟨n, walk⟩ := (isOrder_iff _).1 whole
  rw [take_cons_drop hi, orderScan_append walk]
  rfl

/-- An order has 5 to 11 records (R28, R30). -/
theorem length_of_isOrder {ks : List RecKind} (h : isOrder ks = true) : within 5 11 ks.length = true := by
  have bounded : ∀ l ∈ recordOrders, within 5 11 l.length = true := by decide +kernel
  exact bounded ks (List.contains_iff_mem.1 h)

/-- An order may stand. -/
theorem mayStand_of_isOrder {ks : List RecKind} (h : isOrder ks = true) : mayStand ks = true := by
  obtain ⟨n, walk⟩ := (isOrder_iff _).1 h
  exact (mayStand_iff _).2 (by rw [walk]; rfl)

end Sys2Proof.Machine

/-! PROOFS. Validation of a programme run and the slots (R27 to R40): O20. -/

namespace Sys2Proof.Machine

section
variable {s t u : State}

/-! ### The ranges, record by record (R28 to R36) -/

theorem within_iff {low high n : Nat} : within low high n = true ↔ low ≤ n ∧ n ≤ high := by
  rw [within, Bool.and_eq_true_iff, decide_eq_true_eq, decide_eq_true_eq]

/-- The approach speed of a FLASH record, by whether it is the first one (R33). -/
theorem approach_iff (r : FlashRec) (first : Bool) :
    (if first then within 100 5000 r.approach else decide (r.approach = 0)) = true
      ↔ (first = true → 100 ≤ r.approach ∧ r.approach ≤ 5000) ∧ (first = false → r.approach = 0) := by
  cases first with
  | true => simp [within_iff]
  | false => simp

theorem RecBody.inRange_eq_fits (first : Bool) (b : RecBody) : b.inRange first = b.fits first := by
  rw [Bool.eq_iff_iff]
  cases b with
  | flash r =>
    simp only [RecBody.inRange, FlashRec.inRange, RecBody.fits, Bool.and_eq_true_iff, within_iff, decide_eq_true_eq,
      approach_iff]
    generalize ((first = true → 100 ≤ r.approach ∧ r.approach ≤ 5000) ∧ (first = false → r.approach = 0)) = approach
    by_cases fits : approach
    · simp only [fits, and_true]
      omega
    · simp only [fits, and_false, false_and]
  | clamp t | trim t | release t => exact within_iff.trans decide_eq_true_iff.symm
  | _ =>
    simp only [RecBody.inRange, RecBody.fits, Bool.and_eq_true_iff, within_iff, decide_eq_true_eq]
    omega

theorem RecBody.inLimits_eq_withinLimits (m : Image) (b : RecBody) : b.inLimits m = b.withinLimits m := by
  rw [Bool.eq_iff_iff]
  cases b with
  | clamp | trim | release | boost | hold => exact Iff.rfl
  | preheat => simp only [RecBody.inLimits, RecBody.withinLimits, Bool.and_eq_true_iff, decide_eq_true_eq]
  | pull | flash | upset =>
    simp only [RecBody.inLimits, RecBody.withinLimits, Bool.and_eq_true_iff, decide_eq_true_eq]
    omega

theorem Programme.headerInRange_eq (p : Programme) : (p.headerInRange && p.windows.inRange) = p.headerFits := by
  rw [Bool.eq_iff_iff]
  simp only [Programme.headerInRange, Windows.inRange, Programme.headerFits, Bool.and_eq_true_iff, within_iff,
    decide_eq_true_eq]
  omega

theorem Windows.ordered_eq (w : Windows) : w.ordered = w.boundsOrdered := by
  rw [Bool.eq_iff_iff]
  simp only [Windows.ordered, Windows.boundsOrdered, Bool.and_eq_true_iff, decide_eq_true_eq]
  omega

/-! ### Checks 7 and 8 (R36, R38) -/

/-- No FLASH record stands before index `i`. -/
def flashBefore (rs : List PhaseRec) (i : Nat) : Bool := (rs.take i).any fun r => decide (r.body.kind = .flash)

/-- A record at an index is the first FLASH record where no other stands before it. -/
theorem findIdx_flash {rs : List PhaseRec} {i : Nat} {r : PhaseRec} (hr : rs[i]? = some r) (hf : r.body.kind = .flash) :
    decide ((rs.findIdx? fun r => decide (r.body.kind = .flash)) = some i) = !flashBefore rs i := by
  obtain ⟨hi, get⟩ := List.getElem?_eq_some_iff.1 hr
  rw [Bool.eq_iff_iff, decide_eq_true_eq, List.findIdx?_eq_some_iff_getElem, Bool.not_eq_true', flashBefore,
    List.any_eq_false]
  constructor
  · rintro ⟨_, _, before⟩ x hx
    obtain ⟨j, hj, rfl⟩ := List.mem_iff_getElem.1 hx
    rw [List.getElem_take]
    rw [List.length_take] at hj
    exact before j (by omega)
  · intro none'
    refine ⟨hi, by rw [get]; exact decide_eq_true hf, fun j hj => ?_⟩
    refine none' rs[j] (List.mem_iff_getElem.2 ⟨j, ?_, List.getElem_take⟩)
    rw [List.length_take]
    omega

/-- The fields of a record depend on its place where it is a FLASH record alone. -/
theorem RecBody.fits_congr {b : RecBody} {x y : Bool} (h : b.kind = .flash → x = y) : b.fits x = b.fits y := by
  cases b with
  | flash r => rw [h rfl]
  | _ => rfl

/-- The record at an index passes checks 7 and 8. -/
def recordPasses (m : Image) (rs : List PhaseRec) (j : Nat) (x : PhaseRec) : Prop :=
  x.body.fits (!flashBefore rs j) = true ∧ x.body.withinLimits m = true

theorem checkRecords_at {m : Image} {rs : List PhaseRec} {i : Nat} {r : PhaseRec} (hr : rs[i]? = some r) :
    checkRecords m (flashBefore rs i) i (rs.drop i) =
      if r.body.fits (!flashBefore rs i) = false then some (.range (some i))
      else if r.body.withinLimits m = false then some (.limit i)
      else checkRecords m (flashBefore rs (i + 1)) (i + 1) (rs.drop (i + 1)) := by
  obtain ⟨hi, rfl⟩ := List.getElem?_eq_some_iff.1 hr
  have seen : flashBefore rs (i + 1) = (flashBefore rs i || decide (rs[i].body.kind = .flash)) := by
    rw [flashBefore, ← List.take_append_getElem hi, List.any_append, flashBefore]
    simp
  rw [List.drop_eq_getElem_cons hi, checkRecords, RecBody.inRange_eq_fits, RecBody.inLimits_eq_withinLimits, seen]
  simp only [Bool.not_eq_true']

/-- Records that pass leave the checks to the ones after them. -/
theorem checkRecords_passed {m : Image} {rs : List PhaseRec} (i : Nat) (hi : i ≤ rs.length)
    (passes : ∀ j x, j < i → rs[j]? = some x → recordPasses m rs j x) :
    checkRecords m false 0 rs = checkRecords m (flashBefore rs i) i (rs.drop i) := by
  induction i with
  | zero => rfl
  | succ i ih =>
    have get : rs[i]? = some rs[i] := List.getElem?_eq_getElem hi
    obtain ⟨fits, limits⟩ := passes i _ (Nat.lt_succ_self i) get
    rw [ih (Nat.le_of_succ_le hi) fun j x hj => passes j x (Nat.lt_succ_of_lt hj), checkRecords_at get, if_neg (by simp [fits]),
      if_neg (by simp [limits])]

theorem checkRecords_all {m : Image} {rs : List PhaseRec} (passes : ∀ j x, rs[j]? = some x → recordPasses m rs j x) :
    checkRecords m false 0 rs = none := by
  rw [checkRecords_passed rs.length (Nat.le_refl _) fun j x _ => passes j x, List.drop_length]
  rfl

theorem checkRecords_fails {m : Image} {rs : List PhaseRec} {i : Nat} {r : PhaseRec} (hr : rs[i]? = some r)
    (passes : ∀ j x, j < i → rs[j]? = some x → recordPasses m rs j x) :
    (r.body.fits (!flashBefore rs i) = false → checkRecords m false 0 rs = some (.range (some i)))
      ∧ (r.body.fits (!flashBefore rs i) = true → r.body.withinLimits m = false →
        checkRecords m false 0 rs = some (.limit i)) := by
  obtain ⟨hi, -⟩ := List.getElem?_eq_some_iff.1 hr
  rw [checkRecords_passed i (Nat.le_of_lt hi) passes, checkRecords_at hr]
  refine ⟨fun bad => if_pos bad, fun fits bad => ?_⟩
  rw [if_neg (by simp [fits]), if_pos bad]

/-- The range of a record, by whether the programme's first FLASH record stands at its index. -/
theorem fits_by_find {p : Programme} {rs : List PhaseRec} (hp : p.records = rs) {j : Nat} {x : PhaseRec}
    (hx : rs[j]? = some x) : x.body.fits (decide (p.find .flash = some j)) = x.body.fits (!flashBefore rs j) := by
  refine RecBody.fits_congr fun hf => ?_
  rw [Programme.find, hp]
  exact findIdx_flash hx hf

/-! ### The frame count (R38, R182) -/

theorem framed_iff {run : ProgRun} (length : 4 ≤ run.payload.length) : run.framed = true
    ↔ run.payload.length < 7 * run.frames ∧ (run.frames = 1 ∨ 7 * run.frames < run.payload.length + 8) := by
  rw [ProgRun.framed, decide_eq_true_eq, programmeFrames]
  omega

/-! ### The slots (R27) -/

/-- What a slot holds once one slot's content is replaced. -/
theorem State.slot_set (n k : Nat) (x : Option Programme) :
    State.slot { s with slots := setSlot s.slots n x } k = if k = n ∧ 1 ≤ k ∧ k ≤ 4 then x else s.slot k := by
  unfold State.slot
  by_cases zero : k = 0
  · rw [if_pos zero, if_neg (by omega), if_pos zero]
  · rw [if_neg zero, if_neg zero]
    show ((setSlot s.slots n x).toList[k - 1]?).join = _
    rw [Vector.getElem?_toList, Vector.getElem?_toList]
    by_cases high : k ≤ 4
    · have inside : k - 1 < 4 := by omega
      rw [Vector.getElem?_eq_getElem inside, Vector.getElem?_eq_getElem inside, setSlot, Vector.getElem_ofFn]
      have index : k - 1 + 1 = n ↔ k = n ∧ 1 ≤ k ∧ k ≤ 4 := by omega
      simp only [index, Option.join_some]
      rfl
    · have outside : 4 ≤ k - 1 := by omega
      rw [Vector.getElem?_eq_none outside, Vector.getElem?_eq_none outside, if_neg (by omega)]

/-! ### Validation (R38, R40) -/

theorem State.validate_configFault {run : ProgRun} (he : s.engine = .configFault) : s.validate run = .refused .noConfig :=
  if_pos he

theorem State.validate_slot {run : ProgRun} (he : s.engine ≠ .configFault)
    (out : natAt run.payload 0 1 = 0 ∨ 4 < natAt run.payload 0 1) : s.validate run = .refused .slot := by
  have slot : within 1 4 (natAt run.payload 0 1) = false :=
    Bool.eq_false_iff.2 fun h => by have := within_iff.1 h; omega
  unfold State.validate
  dsimp only
  rw [if_neg he, slot]
  rfl

/-- A run that is not refused has a slot number. -/
theorem State.slot_of_validate {run : ProgRun} (h : ∀ f, s.validate run ≠ .refused f) :
    1 ≤ natAt run.payload 0 1 ∧ natAt run.payload 0 1 ≤ 4 := by
  by_cases he : s.engine = .configFault
  · exact absurd (State.validate_configFault he) (h _)
  · by_contra out
    exact h _ (State.validate_slot he (by omega))

section run
variable {run : ProgRun} (he : s.engine ≠ .configFault) (low : 1 ≤ natAt run.payload 0 1)
  (high : natAt run.payload 0 1 ≤ 4)
include he low high

/-- Validation past the slot number. -/
theorem State.validate_past_slot : s.validate run =
    if run.payload.length < 4 then .refused .format
    else if isEmptyRun run.payload then (if run.payload.length = 4 ∧ run.framed then .empty else .refused .format)
    else
      match payloadRecords run.payload with
      | none => .refused .format
      | some (records, unknown) =>
        let p := programmeOf run.payload records
        if !unknown && !run.framed then .refused .format
        else
          match p.check s.image unknown with
          | some f => .refused f
          | none => .stored p := by
  have slot : within 1 4 (natAt run.payload 0 1) = true := within_iff.2 ⟨low, high⟩
  unfold State.validate
  dsimp only
  rw [if_neg he, slot]
  rfl

theorem State.validate_short (length : run.payload.length < 4) : s.validate run = .refused .format := by
  rw [State.validate_past_slot he low high, if_pos length]

theorem State.validate_empty (length : 4 ≤ run.payload.length) (number : natAt run.payload 1 2 = 0)
    (count : natAt run.payload 3 1 = 0) :
    s.validate run = if run.payload.length = 4 ∧ run.framed then .empty else .refused .format := by
  have empty : isEmptyRun run.payload = true := by simp [isEmptyRun, number, count]
  rw [State.validate_past_slot he low high, if_neg (Nat.not_lt.2 length), if_pos empty]

section whole
variable (length : 4 ≤ run.payload.length) (whole : natAt run.payload 1 2 ≠ 0 ∨ natAt run.payload 3 1 ≠ 0)
include length whole

theorem State.validate_unparsed (unparsed : payloadRecords run.payload = none) : s.validate run = .refused .format := by
  have full : ¬ isEmptyRun run.payload = true := by simp [isEmptyRun]; omega
  rw [State.validate_past_slot he low high, if_neg (Nat.not_lt.2 length), if_neg full, unparsed]

/-- Validation of a run whose records are parsed. -/
theorem State.validate_parsed {rs : List PhaseRec} {unknown : Bool}
    (parsed : payloadRecords run.payload = some (rs, unknown)) : s.validate run =
      if !unknown && !run.framed then .refused .format
      else
        match (programmeOf run.payload rs).check s.image unknown with
        | some f => .refused f
        | none => .stored (programmeOf run.payload rs) := by
  have full : ¬ isEmptyRun run.payload = true := by simp [isEmptyRun]; omega
  rw [State.validate_past_slot he low high, if_neg (Nat.not_lt.2 length), if_neg full, parsed]

end whole
end run

/-! ### Checks 4 to 8 (R38) -/

section check
variable {p : Programme} {m : Image} {unknown : Bool} {ks : List RecKind}
  (hk : ks = p.records.map fun r => r.body.kind)
include hk

theorem Programme.checkOrder_eq : p.checkOrder unknown =
    match (orderScan none 0 0 ks).1 with
    | some i => some (.order (some i))
    | none =>
      if unknown || !(orderScan none 0 0 ks).2 || decide (p.recordCount ≠ p.records.length)
        || !within 5 11 p.recordCount then some (.order none)
      else none := by
  rw [hk]
  rfl

theorem Programme.check_names {i : Nat} (names : orderScan none 0 0 ks = (some i, false)) :
    p.check m unknown = some (.order (some i)) := by
  have order : p.checkOrder unknown = some (.order (some i)) := by rw [Programme.checkOrder_eq hk, names]
  rw [Programme.check, order]

/-- ORDER with no index: the whole list is no order, a kind is unknown, or the count is another. -/
theorem Programme.check_unordered {whole : Bool} (stands : orderScan none 0 0 ks = (none, whole))
    (wrong : whole = false ∨ unknown = true ∨ p.recordCount ≠ p.records.length) :
    p.check m unknown = some (.order none) := by
  have fails : (unknown || !whole || decide (p.recordCount ≠ p.records.length) || !within 5 11 p.recordCount) = true := by
    rcases wrong with h | h | h
    · simp [h]
    · simp [h]
    · simp [h]
  have order : p.checkOrder unknown = some (.order none) := by
    rw [Programme.checkOrder_eq hk, stands]
    exact if_pos fails
  rw [Programme.check, order]

/-- The checks of an order with its own count: header, windows, and record by record. -/
theorem Programme.check_ordered (order : isOrder ks = true) (known : unknown = false)
    (count : p.recordCount = p.records.length) : p.check m unknown =
      if p.headerFits = false then some (.range none)
      else if p.windows.boundsOrdered = false then some .window
      else checkRecords m false 0 p.records := by
  have length : p.records.length = ks.length := by rw [hk, List.length_map]
  have stands : p.checkOrder unknown = none := by
    rw [Programme.checkOrder_eq hk, orderScan_stands (mayStand_of_isOrder order), order, known, count, length,
      length_of_isOrder order]
    simp
  have header : (!p.headerInRange || !p.windows.inRange) = !p.headerFits := by
    rw [← Programme.headerInRange_eq, Bool.not_and]
  rw [Programme.check, stands]
  dsimp only
  rw [header, Windows.ordered_eq]
  simp only [Bool.not_eq_true']

end check

/-! ### O20 -/

/-- What the Programme Store does with a run, by what validation decides (R38 to R40). -/
theorem State.takeProgramme_spec (run : ProgRun) (room : s.link.notices.length < 8) :
    (s.takeProgramme run).link.progReady = s.link.progReady ∧ (s.takeProgramme run).engine = s.engine
      ∧ (s.takeProgramme run).ctx = s.ctx
      ∧ (∀ f, s.validate run = .refused f → (s.takeProgramme run).slots = s.slots
          ∧ (s.takeProgramme run).link.notices
            = s.link.notices ++ [.programmeRefused (natAt run.payload 0 1) f.code f.index])
      ∧ (∀ p, s.validate run = .stored p → (s.takeProgramme run).slot (natAt run.payload 0 1) = some p
          ∧ (s.takeProgramme run).link.notices
            = s.link.notices ++ [.programmeStored (natAt run.payload 0 1) p.number p.recordCount])
      ∧ (s.validate run = .empty → (s.takeProgramme run).slot (natAt run.payload 0 1) = none
          ∧ (s.takeProgramme run).link.notices = s.link.notices ++ [.programmeStored (natAt run.payload 0 1) 0 0])
      ∧ ∀ k, k ≠ natAt run.payload 0 1 → (s.takeProgramme run).slot k = s.slot k := by
  obtain ⟨n, hn⟩ : ∃ n, n = natAt run.payload 0 1 := ⟨_, rfl⟩
  have own : (∀ f, s.validate run ≠ .refused f) → ∀ x, State.slot { s with slots := setSlot s.slots n x } n = x :=
    fun kept x => by
      obtain ⟨low, high⟩ := State.slot_of_validate kept
      rw [State.slot_set, hn, if_pos ⟨rfl, low, high⟩]
  have others : ∀ x k, k ≠ n → State.slot { s with slots := setSlot s.slots n x } k = s.slot k := fun x k other => by
    rw [State.slot_set, if_neg fun h => other h.1]
  rw [← hn]
  cases h : s.validate run with
  | refused f =>
    have taken : s.takeProgramme run
        = { s with link := { s.link with notices := s.link.notices ++ [.programmeRefused n f.code f.index] } } := by
      rw [← s.notice_of_room _ room, hn]
      unfold State.takeProgramme
      rw [h]
    rw [taken]
    refine ⟨rfl, rfl, rfl, fun g hg => ?_, nofun, nofun, fun _ _ => rfl⟩
    cases hg
    exact ⟨rfl, rfl⟩
  | empty =>
    have taken : s.takeProgramme run = { s with
        slots := setSlot s.slots n none
        link := { s.link with notices := s.link.notices ++ [.programmeStored n 0 0] } } := by
      refine Eq.trans ?_ (State.notice_of_room (s := { s with slots := setSlot s.slots n none }) _ room)
      unfold State.takeProgramme
      rw [h, hn]
    rw [taken]
    exact ⟨rfl, rfl, rfl, nofun, nofun, fun _ => ⟨own (by rw [h]; nofun) none, rfl⟩, others none⟩
  | stored p =>
    have taken : s.takeProgramme run = { s with
        slots := setSlot s.slots n (some p)
        link := { s.link with notices := s.link.notices ++ [.programmeStored n p.number p.recordCount] } } := by
      refine Eq.trans ?_ (State.notice_of_room (s := { s with slots := setSlot s.slots n (some p) }) _ room)
      unfold State.takeProgramme
      rw [h, hn]
    rw [taken]
    refine ⟨rfl, rfl, rfl, nofun, fun q hq => ?_, nofun, others (some p)⟩
    cases hq
    exact ⟨own (by rw [h]; nofun) (some p), rfl⟩

/-- The records of a payload of the header's four bytes, and of a longer one (section 11.9). -/
theorem payloadRecords_of {payload : List Byte} {rs : List PhaseRec} {u : Bool}
    (h : payload.length = 4 ∧ rs = [] ∧ u = false
      ∨ 42 ≤ payload.length ∧ parseRecords payload.length (payload.drop 42) = some (rs, u)) :
    payloadRecords payload = some (rs, u) := by
  rcases h with ⟨length, rfl, rfl⟩ | ⟨length, parsed⟩
  · exact if_pos length
  · rw [payloadRecords, if_neg (by omega), if_neg (by omega), parsed]

/-- Checks 4 to 8 on a run whose frame count is tested or need not be (R28 to R36, R38). -/
theorem checksOfRun {run : ProgRun} {rs : List PhaseRec} {u : Bool} {p : Programme} {ks : List RecKind}
    (hp : p = programmeOf run.payload rs) (hk : ks = rs.map fun r => r.body.kind)
    (checked : s.validate run = match p.check s.image u with
      | some f => .refused f
      | none => .stored p) :
    (∀ i, i < ks.length → mayStand (ks.take i) = true → mayStand (ks.take (i + 1)) = false →
        isOrder (ks.take i) = false → s.validate run = .refused (.order (some i)))
      ∧ ((∀ i, i ≤ ks.length → mayStand (ks.take i) = true) →
        (isOrder ks = false ∨ u = true ∨ p.recordCount ≠ rs.length) → s.validate run = .refused (.order none))
      ∧ (∀ i, i < ks.length → isOrder (ks.take i) = true → s.validate run = .refused (.order none))
      ∧ (isOrder ks = true → u = false → p.recordCount = rs.length →
        (p.headerFits = false → s.validate run = .refused (.range none))
        ∧ (p.headerFits = true → p.windows.boundsOrdered = false → s.validate run = .refused .window)
        ∧ (p.headerFits = true → p.windows.boundsOrdered = true →
          (∀ (i : Nat) (r : PhaseRec), rs[i]? = some r →
            (∀ (j : Nat) (x : PhaseRec), j < i → rs[j]? = some x →
              x.body.fits (decide (p.find .flash = some j)) = true ∧ x.body.withinLimits s.image = true) →
            (r.body.fits (decide (p.find .flash = some i)) = false → s.validate run = .refused (.range (some i)))
            ∧ (r.body.fits (decide (p.find .flash = some i)) = true → r.body.withinLimits s.image = false →
              s.validate run = .refused (.limit i)))
          ∧ ((∀ (j : Nat) (x : PhaseRec), rs[j]? = some x →
              x.body.fits (decide (p.find .flash = some j)) = true ∧ x.body.withinLimits s.image = true) →
            s.validate run = .stored p))) := by
  have records : p.records = rs := by rw [hp]; rfl
  have hk' : ks = p.records.map fun r => r.body.kind := by rw [records, hk]
  have refused : ∀ f, p.check s.image u = some f → s.validate run = .refused f := fun f h => by rw [checked, h]
  refine ⟨fun i hi stands stops short => refused _ (Programme.check_names hk' (orderScan_names hi stands stops short)),
    fun stands wrong => refused _ (Programme.check_unordered hk' (orderScan_stands ?_) (by rw [records]; exact wrong)),
    fun i hi whole => refused _ (Programme.check_unordered hk' (orderScan_past hi whole) (.inl rfl)),
    fun order known count => ?_⟩
  · have whole := stands ks.length (Nat.le_refl _)
    rwa [List.take_length] at whole
  · have ordered := Programme.check_ordered (m := s.image) hk' order known (by rw [records]; exact count)
    rw [records] at ordered
    refine ⟨fun bad => refused _ (by rw [ordered, if_pos bad]), fun fits bad => refused _ ?_, fun fits bounds => ?_⟩
    · rw [ordered, if_neg (by simp [fits]), if_pos bad]
    · have passed : p.check s.image u = checkRecords s.image false 0 rs := by
        rw [ordered, if_neg (by simp [fits]), if_neg (by simp [bounds])]
      have passes : ∀ {j : Nat} {x : PhaseRec}, rs[j]? = some x →
          x.body.fits (decide (p.find .flash = some j)) = true ∧ x.body.withinLimits s.image = true →
          recordPasses s.image rs j x := fun hx h => by
        rw [fits_by_find records hx] at h
        exact h
      refine ⟨fun i r hr before => ?_, fun all => ?_⟩
      · have fails := checkRecords_fails (m := s.image) hr fun j x hj hx => passes hx (before j x hj hx)
        rw [fits_by_find records hr]
        exact ⟨fun bad => refused _ (passed.trans (fails.1 bad)), fun ok bad => refused _ (passed.trans (fails.2 ok bad))⟩
      · rw [checked, passed, checkRecords_all fun j x hx => passes hx (all j x hx)]

/-- Settles O20: what the store does with the oldest run, and what each check of it tests. -/
theorem programmeIsStoredOrRefused : Obligations.ProgrammeIsStoredOrRefused := by
  intro s run payload rest ready hp room
  subst hp
  obtain ⟨v, hv⟩ : ∃ v : State, v = { s with link := { s.link with progReady := rest } } := ⟨_, rfl⟩
  have validated : v.validate run = s.validate run := by rw [hv]; rfl
  have due : (!s.link.progReady.isEmpty) = true := by rw [ready]; rfl
  have next : s.nextProgramme = v.takeProgramme run := by
    rw [State.nextProgramme, ready, hv]
  have taken : s.programmeEvent = (v.takeProgramme run).declare :=
    (State.event_of_due s due _).trans (congrArg State.declare next)
  obtain ⟨queue, engine, ctx, refused, stored, empty, others⟩ :=
    State.takeProgramme_spec (s := v) run (by rw [hv]; exact room)
  have slot : ∀ k, s.programmeEvent.slot k = (v.takeProgramme run).slot k := fun k => by
    rw [taken, State.slot, State.slot, State.declare_slots]
  have notices : v.link.notices = s.link.notices := by rw [hv]
  rw [validated, notices] at refused stored empty
  refine ⟨s.programmeEvent, rfl, ?_, ?_, ?_, fun f hf => ?_, fun p hp => ?_, fun he => ?_, fun k hk => ?_,
    State.validate_configFault, State.validate_slot, fun he low high => ?_⟩
  · rw [taken, State.declare_link_progReady, queue, hv]
  · rw [taken, State.declare_engine, engine, hv]
  · rw [taken, State.declare_ctx, ctx, hv]
  · rw [taken, State.declare_slots, State.declare_link_notices, (refused f hf).1, (refused f hf).2, hv]
    exact ⟨rfl, rfl⟩
  · rw [slot, taken, State.declare_link_notices]
    exact stored p hp
  · rw [slot, taken, State.declare_link_notices]
    exact empty he
  · rw [slot, others k hk, hv]
    rfl
  · refine ⟨State.validate_short he low high, fun length number count => ?_, fun length whole => ⟨fun h4 h42 => ?_,
      fun h42 unparsed => ?_, fun rs u p ks parse hp hk => ?_⟩⟩
    · have framed := framed_iff length
      rw [State.validate_empty he low high length number count]
      refine ⟨fun bad => if_neg ?_, fun h4 h1 => if_pos ⟨h4, framed.2 (by omega)⟩⟩
      rintro ⟨h4, ok⟩
      have := framed.1 ok
      omega
    · refine State.validate_unparsed he low high length whole ?_
      rw [payloadRecords, if_neg h4, if_pos h42]
    · refine State.validate_unparsed he low high length whole ?_
      rw [payloadRecords, if_neg (by omega), if_neg (by omega), unparsed]
    · have framed := framed_iff length
      have parsed := State.validate_parsed he low high length whole (payloadRecords_of parse)
      rw [← hp] at parsed
      refine ⟨fun known bad => ?_, fun ok => checksOfRun hp hk ?_⟩
      · have unframed : run.framed = false := Bool.eq_false_iff.2 fun h => by
          have := framed.1 h
          omega
        rw [parsed, known, unframed]
        rfl
      · have through : ¬ (!u && !run.framed) = true := by
          rcases ok with known | count
          · simp [known]
          · simp [framed.2 count]
        rw [parsed, if_neg through]

end
end Sys2Proof.Machine

/-! PROOFS. A regulation interval: what it forwards, what passes, and what it measures (R141 to R143, R150, R154, R155): O25. -/

namespace Sys2Proof.Machine

section
variable {s t u : State}

/-! ### 2 ms pass (log 3) -/

theorem Engine.resumeRuns_iff (e : Engine) :
    e.resumeRuns = true ↔ e ∈ [Engine.preheat, .flash, .boost, .upset, .hold, .trim] := by
  cases e <;> decide

theorem WeldCtx.tick_eq (c : WeldCtx) (e : Engine) (yielded : Bool) : c.tick e yielded = { c with
    weldTime := if c.outcome = none then c.weldTime + 2 else c.weldTime
    phaseTimer := if e = .faultHold then c.phaseTimer else c.phaseTimer + 2
    yieldTime := if yielded then min (c.yieldTime + 2) (c.prog.tYieldMax * 1000) else c.yieldTime
    sinceResume :=
      if e ∈ [.preheat, .flash, .boost, .upset, .hold, .trim] then c.sinceResume.map (· + 2) else c.sinceResume
    pause := if yielded ∧ e = .preheat then c.pause.map (· + 2) else c.pause } := by
  have open' : c.outcome.isNone = true ↔ c.outcome = none := Option.isNone_iff_eq_none
  have paused : (yielded && decide (e = .preheat)) = true ↔ yielded = true ∧ e = .preheat := by
    rw [Bool.and_eq_true_iff, decide_eq_true_eq]
  unfold WeldCtx.tick
  simp only [open', paused, Engine.resumeRuns_iff]
  rfl

/-- 2 ms pass, with every timer that runs written out. -/
theorem State.tick_eq (s : State) : s.tick = { s with
    statusTimer := s.statusTimer + 2
    ctx := s.ctx.map fun c => { c with
      weldTime := if c.outcome = none then c.weldTime + 2 else c.weldTime
      phaseTimer := if s.engine = .faultHold then c.phaseTimer else c.phaseTimer + 2
      yieldTime := if s.yielded then min (c.yieldTime + 2) (c.prog.tYieldMax * 1000) else c.yieldTime
      sinceResume :=
        if s.engine ∈ [.preheat, .flash, .boost, .upset, .hold, .trim] then c.sinceResume.map (· + 2)
        else c.sinceResume
      pause := if s.yielded ∧ s.engine = .preheat then c.pause.map (· + 2) else c.pause }
    stress := { s.stress with
      clampTimer := if s.stress.clampTimer.running then ⟨true, s.stress.clampTimer.ms + 2⟩ else s.stress.clampTimer
      releaseTimer :=
        if s.stress.releaseTimer.running then ⟨true, s.stress.releaseTimer.ms + 2⟩ else s.stress.releaseTimer }
    upset := { s.upset with
      currentTimer :=
        if s.upset.currentTimer.running then ⟨true, s.upset.currentTimer.ms + 2⟩ else s.upset.currentTimer
      shearTimer := if s.engine = .trim then s.upset.shearTimer + 2 else s.upset.shearTimer }
    share := { s.share with
      peers := s.share.peers.map fun p => { p with silence := p.silence + 2 }
      rise := { s.share.rise with
        settle := if s.share.rise.settle.running then ⟨true, s.share.rise.settle.ms + 2⟩ else s.share.rise.settle
        admitWait :=
          if s.share.rise.admitWait.running then ⟨true, s.share.rise.admitWait.ms + 2⟩ else s.share.rise.admitWait }
      ratingAge := s.share.ratingAge.map (· + 2)
      demandTimer := s.share.demandTimer + 2 }
    link := { s.link with
      listen := if s.link.listen.running then ⟨true, s.link.listen.ms + 2⟩ else s.link.listen
      lostTimer := if s.link.state = .lost then s.link.lostTimer + 2 else s.link.lostTimer
      weldRuns := s.link.weldRuns.map fun a => { a with silence := a.silence + 2 }
      progRun := s.link.progRun.map fun a => { a with silence := a.silence + 2 }
      demandGap := if 5 ≤ s.link.demandGap then s.link.demandGap else s.link.demandGap + 2 } } := by
  unfold State.tick
  simp only [WeldCtx.tick_eq]
  rfl

/-! ### The measurements of an interval (R141 to R143, R150, R154) -/

theorem State.takeReadings_good (hl : s.loader = .good) (r : Readings) : s.takeReadings r = { s with meas :=
    { s.meas with
      im := s.image.current.mean Config.fullScaleI r.current
      um := s.image.voltage.mean Config.fullScaleU r.voltage
      fm := s.image.force.mean Config.fullScaleF r.force
      satI := s.meas.satI || s.image.current.saturated Config.fullScaleI r.current
      satU := s.meas.satU || s.image.voltage.saturated Config.fullScaleU r.voltage
      satF := s.meas.satF || s.image.force.saturated Config.fullScaleF r.force } } := if_pos hl

theorem State.sampleInputs_good (hl : s.loader = .good) (pins : Byte) : s.sampleInputs pins = { s with meas :=
    { s.meas with inputs := .build fun i => (s.meas.inputs.get i).sampled (s.sampledState pins i) } } :=
  if_pos (by rw [hl]; rfl)

/-- The comparison of the contactor, with the level that the interval accepts (R154). -/
theorem State.compareContactor_eq (s : State) : s.compareContactor = { s with meas := { s.meas with
    fbTimer := if s.engine = .configFault then s.meas.fbTimer
      else if s.out.contactor = s.levelNow .contFb then 0 else s.meas.fbTimer + 2
    fbReported := if s.engine ≠ .configFault ∧ s.out.contactor = s.levelNow .contFb then false
      else s.meas.fbReported } } := by
  have agrees : s.contactorAgrees = true ↔ s.out.contactor = s.levelNow .contFb := beq_iff_eq
  unfold State.compareContactor
  by_cases fault : s.engine = .configFault
  · rw [if_pos fault, if_pos fault, if_neg fun h => h.1 fault]
  · rw [if_neg fault, if_neg fault]
    by_cases level : s.out.contactor = s.levelNow .contFb
    · rw [if_pos (agrees.2 level), if_pos level, if_pos ⟨fault, level⟩]
    · rw [if_neg fun h => level (agrees.1 h), if_neg level, if_neg fun h => level h.2]
      rfl

/-- A filter after one more sample, with the run it then has (R150). -/
theorem InputFilter.sampled_eq (f : InputFilter) (x : Bool) : f.sampled x = { f with
    sample := x, run := if f.run = 0 ∨ f.sample ≠ x then 1 else min (f.run + 1) 10 } := by
  unfold InputFilter.sampled
  by_cases starts : f.run = 0 ∨ f.sample ≠ x
  · rw [if_pos starts, if_pos starts]
  · obtain rfl : f.sample = x := by
      by_contra h
      exact starts (.inr h)
    rw [if_neg starts, if_neg starts]

/-- The state with the means, the position and the inputs of an interval taken, before the contactor is compared. -/
def State.sampled (s : State) (r : Readings) : State :=
  { s with meas := { s.meas with
    im := s.image.current.mean Config.fullScaleI r.current
    um := s.image.voltage.mean Config.fullScaleU r.voltage
    fm := s.image.force.mean Config.fullScaleF r.force
    satI := s.meas.satI || s.image.current.saturated Config.fullScaleI r.current
    satU := s.meas.satU || s.image.voltage.saturated Config.fullScaleU r.voltage
    satF := s.meas.satF || s.image.force.saturated Config.fullScaleF r.force
    intervalPos := s.meas.position
    sumI := s.meas.sumI + s.image.current.mean Config.fullScaleI r.current
    sumU := s.meas.sumU + s.image.voltage.mean Config.fullScaleU r.voltage
    sumF := s.meas.sumF + s.image.force.mean Config.fullScaleF r.force
    sampleIntervals := s.meas.sampleIntervals + 1
    inputs := .build fun i => (s.meas.inputs.get i).sampled (s.sampledState r.pins i) } }

theorem State.measure_good (hl : s.loader = .good) (r : Readings) : s.measure r = (s.sampled r).compareContactor := by
  unfold State.measure
  rw [State.takeReadings_good hl]
  dsimp only
  rw [State.sampleInputs_good]
  · rfl
  · exact hl

/-! ### The interval in READY -/

theorem State.evalUnits_ready (he : s.engine = .ready) : s.evalUnits = s := by
  rw [State.evalUnits, he]

/-- The tests of the conditions in READY keep what stands and stop nothing (R12, R153). -/
theorem State.testCondition_ready (he : s.engine = .ready) (now before : Bool) (x : StopCause) :
    s.testCondition now before x = s := by
  unfold State.testCondition
  split
  · exact State.stopCause_ready he x
  · rfl

/-- The tests in READY write the standing conditions alone. -/
theorem State.testConditions_ready (he : s.engine = .ready) : s.testConditions = { s with meas := { s.meas with
    condEmergency := s.testConditions.meas.condEmergency, condTrain := s.testConditions.meas.condTrain
    condClamp := s.testConditions.meas.condClamp, condForce := s.testConditions.meas.condForce } } := by
  have emergency : s.testEmergency = { s with meas := { s.meas with condEmergency := s.level .emergency } } :=
    State.testCondition_ready (s := { s with meas := { s.meas with condEmergency := s.level .emergency } }) he _ _ _
  have clamp : ∀ t : State, t.engine = .ready → ∀ b, t.testClamp b = { t with meas := { t.meas with condClamp := t.clampLost b } } :=
    fun t h b => State.testCondition_ready (s := { t with meas := { t.meas with condClamp := t.clampLost b } }) h _ _ _
  have train : ∀ t : State, t.engine = .ready → t.testTrain = { t with meas := { t.meas with condTrain := t.level .trainMove } } :=
    fun t h => State.testCondition_ready (s := { t with meas := { t.meas with condTrain := t.level .trainMove } }) h _ _ _
  have force : ∀ t : State, t.engine = .ready → t.testForce = { t with meas := { t.meas with condForce := t.forceOver } } :=
    fun t h => State.testCondition_ready (s := { t with meas := { t.meas with condForce := t.forceOver } }) h _ _ _
  have tests : s.testConditions = ((s.testEmergency.testClamp s.bothClosed).testTrain).testForce :=
    if_neg (by rw [he]; decide)
  rw [tests, emergency]
  rw [clamp]
  · rw [train]
    · rw [force]
      exact he
    · exact he
  · exact he

/-- The evaluation of an interval in READY, in either order, writes the standing conditions alone. -/
theorem State.evaluate_ready (he : s.engine = .ready) (b : Bool) : s.evaluate b = s.testConditions := by
  have still : s.testConditions.engine = .ready := by
    rw [State.testConditions_ready he]
    exact he
  cases b with
  | true => exact State.evalUnits_ready still
  | false => exact congrArg State.testConditions (State.evalUnits_ready he)

/-! ### O25 -/

/-- Settles O25: the interval is the evaluation of the state so sampled, which is given field by field. -/
theorem regulationIntervalMeasures : Obligations.RegulationIntervalMeasures := by
  intro s d b r hl hd
  obtain ⟨w, hw⟩ : ∃ w, w = d.forwardOutputs.tick := ⟨_, rfl⟩
  have loader : w.loader = .good := by
    rw [hw]
    show d.loader = _
    rw [hd, State.takeDue_loader]
    exact hl
  have measured : w.measure r = (w.sampled r).compareContactor := State.measure_good loader r
  obtain ⟨u, hu⟩ : ∃ u, u = (w.sampled r).compareContactor := ⟨_, rfl⟩
  have taken : s.interval b r = (u.evaluate b).declare := by
    have held : s.loader ≠ .held := by rw [hl]; decide
    rw [State.interval, if_neg held, ← hd, ← hw, measured, hu]
  have compared := (w.sampled r).compareContactor_eq
  refine ⟨s.interval b r, u, (w.sampled r).levelNow .contFb, rfl, ?_, ?_, ?_, ?_, ?_, fun i x hx => ?_, ?_, fun he => ?_⟩
  · rw [taken]
    exact State.declare_declaredAs _
  · rw [hu, compared, hw, State.tick_eq]
    rfl
  · rw [hu, compared, hw]
    rfl
  · rw [hu, compared, hw]
    rfl
  · rw [hu, compared, hw]
    rfl
  · have inputs : u.meas.inputs.get i = (w.meas.inputs.get i).sampled (w.sampledState r.pins i) := by
      rw [hu, compared]
      exact PerInput.build_get _ i
    have state : w.sampledState r.pins i = x := by
      rw [hx, State.sampledState, loader, hw]
      rfl
    rw [inputs, state, InputFilter.sampled_eq, hw]
    rfl
  · rw [hu, compared]
    rfl
  · have engine : u.engine = .ready := by
      rw [hu, compared, hw]
      exact he
    have force : d.wireForce = d.out.force := if_neg (by rw [he]; decide)
    have wire : u.wire = d.out := by
      rw [hu, compared, hw]
      show ({ d.out with force := d.wireForce } : Outputs) = _
      rw [force]
    have welds : u.ctx.isSome = d.ctx.isSome := by
      rw [hu, compared, hw]
      exact Option.isSome_map
    have kept : u.out = d.out ∧ u.meas.position = d.meas.position ∧ u.slots = d.slots ∧ u.records = d.records
        ∧ u.trace = d.trace := by
      rw [hu, compared, hw]
      exact ⟨rfl, rfl, rfl, rfl, rfl⟩
    obtain ⟨out, position, slots, records, trace⟩ := kept
    rw [taken, State.evaluate_ready engine, State.testConditions_ready engine, State.declare_engine, State.declare_wire,
      State.declare_out, State.declare_meas, State.declare_slots, State.declare_records, State.declare_trace,
      State.declare_ctx]
    exact ⟨engine, wire, out, rfl, rfl, rfl, position, slots, records, trace, welds⟩

end
end Sys2Proof.Machine
